-- ==== Sys2Proof/Word.lean ====
section
/-! DEFINITION. The words of the frames and of the grid stream (R190, R191). -/

namespace Sys2Proof

/-- One byte of a frame. -/
abbrev Byte := BitVec 8

/-- A two-byte field of a frame, sent least significant byte first (R190). -/
abbrev Half := BitVec 16

/-- A four-byte field of a frame, and one word of the grid stream (R190, R191). -/
abbrev Quadword := BitVec 32

end Sys2Proof
end

