-- ==== Sys2Proof/Config.lean ====
section
/-! DEFINITION. The fixed numbers of the part, each under the rule that states it.
No result of a command is left undefined by the spec, so there is no free value here. -/

namespace Sys2Proof.Config

/-- The part code returned by GET_IDENT (R181). -/
abbrev partCode : Nat := 640
/-- The hardware revision number returned by GET_IDENT (R181). -/
abbrev revision : Nat := 1
/-- T32 ticks the coils stay energized at rest (R11). -/
abbrev holdTicks : Nat := 16
/-- Entries of the coil sequence (R9). -/
abbrev phaseEntries : Nat := 32
/-- The homing level of a table with at least four levels (R20). -/
abbrev homingLevel : Nat := 3
/-- Microsteps beyond travel after which the FAST phase fails (R22). -/
abbrev homeExtra : Nat := 2048
/-- BACKOFF microsteps after which homing fails (R22). -/
abbrev backoffLimit : Nat := 4096
/-- The keep count of a jog (R43). -/
abbrev keepCount : Nat := 13
/-- The highest level a JOG request may carry (R31). -/
abbrev jogLevelMax : Nat := 11
/-- The largest shift demand in permille (R50). -/
abbrev demandMax : Int := 1000
/-- The largest keystone in steps (R70). -/
abbrev keystoneMax : Int := 60
/-- The number of lens memories (R58). -/
abbrev memorySlots : Nat := 10
/-- The lowest and highest in-range ADC codes (R111). -/
abbrev codeMin : Nat := 16
abbrev codeMax : Nat := 4079
/-- Samples of a ring, and out-of-range codes that fail a channel (R112, R115). -/
abbrev ringSize : Nat := 4
/-- T2 ticks a failed channel holds its last value (R116). -/
abbrev failureAgeMax : Nat := 10
/-- The tach accumulator holds at this count (R123). -/
abbrev tachMax : Nat := 255
/-- Rpm per pulse counted in the one-second window (R123). -/
abbrev rpmPerPulse : Nat := 30
/-- The hysteresis of every zone in tenths (R126). -/
abbrev hysteresis : Int := 30
/-- T2 evaluations after which a CRITICAL zone gives its notice (R129). -/
abbrev criticalAgeMax : Nat := 60
/-- The duty of every present fan in START, before its min duty (R134). -/
abbrev startDuty : Nat := 40
/-- The lowest fan demand in COOLDOWN (R134). -/
abbrev coolDownFloor : Nat := 60
/-- The rise and fall of a commanded duty at a T8 tick (R136). -/
abbrev slewUp : Nat := 8
abbrev slewDown : Nat := 2
/-- T2 ticks of spin-up grace (R139). -/
abbrev graceTicks : Nat := 6
/-- Strikes that fail a fan, good readings that recover it (R140). -/
abbrev strikesMax : Nat := 3
abbrev goodRunMax : Nat := 6
/-- The lowest quiet cap; a lower one is clamped (R138). -/
abbrev quietCapMin : Nat := 30
/-- The fan-fault derate (R143). -/
abbrev fanFaultDerate : Nat := 60
/-- The ramp level at the entry to WARMUP, its step, and T2 ticks a step (R152). -/
abbrev rampStart : Nat := 40
abbrev rampRise : Nat := 10
abbrev rampTicks : Nat := 4
/-- The release and restrike temperatures on Z0, in tenths (R147). -/
abbrev releaseTemp : Int := 450
abbrev restrikeTemp : Int := 550
/-- T2 ticks of COOLDOWN before the timeout, and of a running park before its timeout (R157, R158). -/
abbrev coolDownMax : Nat := 600
abbrev parkMax : Nat := 40
/-- Notices a port's list holds, and notices one READ_EVENTS returns (R184, R185). -/
abbrev noticeCapacity : Nat := 8
abbrev noticesRead : Nat := 4
/-- The shortest and longest request frames (R178). -/
abbrev frameMin : Nat := 4
abbrev frameMax : Nat := 72
/-- The temperature range in tenths (R114, R126, R132). -/
abbrev tempMin : Int := -400
abbrev tempMax : Int := 1500

end Sys2Proof.Config
end

