-- ==== Sys2Proof/Syntax.lean ====
section
/-! DEFINITION. The commands of the JX640: one constructor per row of spec/opcode_table.json.
A request carries its port, its tag and its qualifier (R178) and the raw parameter fields of R190 in their widths.
An event carries the unit it happens to. -/

namespace Sys2Proof

/-- The two ports (R175). -/
inductive Port where
  | system
  | picture
deriving DecidableEq, Repr

/-- The qualifier of a request: a unit override for that one request (R178, R183). -/
inductive Qualifier where
  | noOverride
  | steps
  | permille
deriving DecidableEq, Repr

/-- The part of a request frame that every kind has: where it arrived, its tag and its qualifier (R178). -/
structure Req where
  port : Port
  tag : Byte
  qual : Qualifier
deriving DecidableEq, Repr

/-- The four lens axes (Chapter 1). -/
inductive Axis where
  | sh
  | sv
  | zm
  | fc
deriving DecidableEq, Repr

/-- The nine temperature channels, in the scan order of R111. -/
inductive Chan where
  | laser
  | wheel
  | imager
  | psu
  | intake
  | exhaust
  | lens
  | spare
  | die
deriving DecidableEq, Repr

/-- The two trip comparators (R119). -/
inductive Comp where
  | laser
  | wheel
deriving DecidableEq, Repr

/-- The four zones (R126). -/
inductive Zone where
  | z0
  | z1
  | z2
  | z3
deriving DecidableEq, Repr

/-- The four fans (R133). -/
inductive Fan where
  | f0
  | f1
  | f2
  | f3
deriving DecidableEq, Repr

/-- The parts that take a tick of the time base (R110). `tachAndSlew` is the T8 tick of the measurement unit's tach
rings and of the cooling controller's slew, which touch different state. -/
inductive Taker where
  | holdTimers
  | keepCounts
  | tachAndSlew
  | failureAges
  | zones
  | supervision
  | phaseTimers
  | tracking
deriving DecidableEq, Repr

/-- The two places a jog's keep count stands in (R43): a queued entry, or the motion record of a running jog. -/
inductive JogPlace where
  | queued
  | running
deriving DecidableEq, Repr

/-- The parameters of SET_AXIS after the axis, in the order and widths of the kind table of Chapter 11. -/
structure AxisParams where
  present : Byte
  travel : Half
  softMin : Half
  softMax : Half
  homeOffset : Half
  tolerance : Byte
  backlash : Byte
  approach : Byte
  park : Half
  centre : Half
  k : Half
deriving DecidableEq, Repr

/-- One level of SET_RAMP: interval in microseconds, length in microsteps (R7). -/
structure LevelParam where
  interval : Half
  length : Byte
deriving DecidableEq, Repr

/-- One point of SET_CURVE: temperature in tenths (signed), duty in percent (R132). -/
structure PointParam where
  t : Half
  d : Byte
deriving DecidableEq, Repr

/-- The parameters of SET_ZONE after the zone (R130). The thresholds are signed. -/
structure ZoneParams where
  members : Half
  warm : Half
  hot : Half
  crit : Half
  derate : Byte
deriving DecidableEq, Repr

/-- The parameters of SET_FAN after the fan (R137). -/
structure FanParams where
  present : Byte
  served : Byte
  minDuty : Byte
  rpmMin : Half
  rpmMax : Half
deriving DecidableEq, Repr

/-- The parameters of SET_TRACKING (R173). The gains are signed. -/
structure TrackParams where
  g0 : Half
  g1 : Half
  g2 : Half
  g3 : Half
  g4 : Half
  limit : Half
  deadband : Byte
deriving DecidableEq, Repr

/-- The commands: one constructor per row of the table of operations and events. -/
inductive Instr where
  -- general requests
  | getIdent (r : Req)
  | getStatus (r : Req)
  | readEvents (r : Req)
  | setMask (r : Req) (flags : Half)
  | setUnits (r : Req) (unit : Byte)
  | softReset (r : Req)
  | resync (r : Req)
  -- motion requests; a MOVE target and a SHIFT demand are signed
  | move (r : Req) (axis : Byte) (target : Quadword)
  | shift (r : Req) (axis : Byte) (demand : Half)
  | home (r : Req) (axis : Byte)
  | jog (r : Req) (axis dir level : Byte)
  | jogKeep (r : Req) (axis : Byte)
  | stop (r : Req) (axis : Byte)
  | getAxis (r : Req) (axis : Byte)
  | getQueue (r : Req)
  | getShift (r : Req)
  | setAxis (r : Req) (axis : Byte) (p : AxisParams)
  | setRamp (r : Req) (axis : Byte) (levels : List LevelParam)
  -- lens memory requests
  | recallMemory (r : Req) (slot : Byte)
  | store (r : Req) (slot : Byte)
  | erase (r : Req) (slot : Byte)
  | getMemory (r : Req) (slot : Byte)
  -- geometry and stream requests; kv and kh are signed
  | setKeystone (r : Req) (kv kh : Half)
  | setOrientation (r : Req) (orientation : Byte)
  | setPanel (r : Req) (w h : Half) (g : Byte)
  | getGeometry (r : Req)
  | setStream (r : Req) (mode : Byte)
  | readGrid (r : Req) (row : Byte)
  | getStream (r : Req)
  -- thermal requests
  | setZone (r : Req) (zone : Byte) (p : ZoneParams)
  | setCurve (r : Req) (set zone : Byte) (points : List PointParam)
  | setFan (r : Req) (fan : Byte) (p : FanParams)
  | setQuiet (r : Req) (on cap level : Byte)
  | setThermTable (r : Req) (table : Byte) (values : List Half)
  | setTrip (r : Req) (comp k : Byte)
  | clearTrip (r : Req) (comp : Byte)
  | getSensors (r : Req)
  | getThermTable (r : Req) (table : Byte)
  | getThermal (r : Req)
  | getCurve (r : Req) (set zone : Byte)
  -- light requests
  | lightOn (r : Req)
  | lightOff (r : Req)
  | clearFault (r : Req)
  | getPhase (r : Req)
  -- tracking requests
  | setTracking (r : Req) (p : TrackParams)
  | getTracking (r : Req)
  -- port transactions: a malformed frame, a frame cut short, a read of n response bytes
  | badRequest (port : Port) (frame : List Byte)
  | frameCutShort (port : Port)
  | readResponse (port : Port) (n : Nat)
  -- device resets; addr is the level of the ADDR pin at the release
  | powerOn (addr : Bool)
  | resetPin (addr : Bool)
  -- pins and their filters; a level is true when present or asserted
  | picPresentChange (level : Bool)
  | presentFilterExpiry
  | homeSwitchChange (axis : Axis) (level : Bool)
  | homeFilterExpiry (axis : Axis)
  -- timers
  | stepEvent (axis : Axis)
  | dividerAdvance (order : List Taker)
  | coilRelease (axis : Axis)
  | jogExpiry (axis : Axis) (place : JogPlace)
  | criticalPersisted (zone : Zone)
  | sensorSubstitution (chan : Chan)
  | cooldownTimeout
  | parkTimeout
  | rampStep
  -- measurement
  | conversionComplete (code : BitVec 12)
  | tripInputChange (comp : Comp) (level : Nat)
  | tripLatchSet (comp : Comp)
  | tachPulse (fan : Fan)
  -- stream, engine, store and supply
  | frameStrobe
  | bandStrobe
  | streamWordSent
  | computeComplete
  | writeComplete
  | powerFail
deriving DecidableEq, Repr

end Sys2Proof
end

