-- ==== Sys2Proof/Decode.lean ====
section
/-! DEFINITION. Reading transactions into commands, and writing commands as transactions (R176 to R178, R190, 11.2). The
opcode table gives no row any bits, so `decodeTableWord` reads nothing. -/

namespace Sys2Proof

/-- The command that the bits of a table row spell: the table gives no row bits. -/
def decodeTableWord (_nbits _w : Nat) : Option Instr := none

/-! ### Fields -/

/-- Two bytes as a field, the least significant first (R190). -/
def halfOf (a b : Byte) : Half := b ++ a

/-- Four bytes as a field, the least significant first (R190). -/
def quadOf (a b c d : Byte) : Quadword := d ++ c ++ b ++ a

/-- The bytes of a two-byte field (R190). -/
def halfBytes (h : Half) : List Byte := [h.extractLsb' 0 8, h.extractLsb' 8 8]

/-- The bytes of a four-byte field (R190). -/
def quadBytes (q : Quadword) : List Byte :=
  [q.extractLsb' 0 8, q.extractLsb' 8 8, q.extractLsb' 16 8, q.extractLsb' 24 8]

/-- The qualifier codes (R190). -/
def qualOfCode (c : Byte) : Option Qualifier :=
  match c.toNat with
  | 0 => some .noOverride
  | 1 => some .steps
  | 2 => some .permille
  | _ => none

/-- The code of a qualifier (R190). -/
def qualCode : Qualifier → Byte
  | .noOverride => 0
  | .steps => 1
  | .permille => 2

/-! ### Parameters, by their shape -/

/-- No parameters. -/
def noParams (i : Instr) : List Byte → Option Instr
  | [] => some i
  | _ :: _ => none

/-- One byte. -/
def oneByte (f : Byte → Instr) : List Byte → Option Instr
  | [a] => some (f a)
  | _ => none

/-- Two bytes. -/
def twoBytes (f : Byte → Byte → Instr) : List Byte → Option Instr
  | [a, b] => some (f a b)
  | _ => none

/-- Three bytes. -/
def threeBytes (f : Byte → Byte → Byte → Instr) : List Byte → Option Instr
  | [a, b, c] => some (f a b c)
  | _ => none

/-- The levels of a SET_RAMP, three bytes each. -/
def levelsOf : List Byte → Option (List LevelParam)
  | [] => some []
  | a :: b :: c :: rest => (levelsOf rest).map fun l => ⟨halfOf a b, c⟩ :: l
  | [_] => none
  | [_, _] => none

/-- The points of a SET_CURVE, three bytes each. -/
def pointsOfBytes : List Byte → Option (List PointParam)
  | [] => some []
  | a :: b :: c :: rest => (pointsOfBytes rest).map fun l => ⟨halfOf a b, c⟩ :: l
  | [_] => none
  | [_, _] => none

/-- The values of a SET_THERM_TABLE, two bytes each. -/
def valuesOf : List Byte → Option (List Half)
  | [] => some []
  | a :: b :: rest => (valuesOf rest).map fun l => halfOf a b :: l
  | [_] => none

def readSetMask (r : Req) : List Byte → Option Instr
  | [a, b] => some (.setMask r (halfOf a b))
  | _ => none

def readMove (r : Req) : List Byte → Option Instr
  | [x, a, b, c, d] => some (.move r x (quadOf a b c d))
  | _ => none

def readShift (r : Req) : List Byte → Option Instr
  | [x, a, b] => some (.shift r x (halfOf a b))
  | _ => none

def readSetAxis (r : Req) : List Byte → Option Instr
  | [x, p, t0, t1, l0, l1, h0, h1, o0, o1, tol, bl, ap, k0, k1, c0, c1, g0, g1] =>
    some
      (.setAxis r x
        { present := p, travel := halfOf t0 t1, softMin := halfOf l0 l1, softMax := halfOf h0 h1
          homeOffset := halfOf o0 o1, tolerance := tol, backlash := bl, approach := ap, park := halfOf k0 k1
          centre := halfOf c0 c1, k := halfOf g0 g1 })
  | _ => none

/-- SET_RAMP: its length must equal 6 + 3·n for its level count n (R190). -/
def readSetRamp (r : Req) : List Byte → Option Instr
  | x :: n :: rest => if rest.length = 3 * n.toNat then (levelsOf rest).map (.setRamp r x) else none
  | [] => none
  | [_] => none

def readSetKeystone (r : Req) : List Byte → Option Instr
  | [a, b, c, d] => some (.setKeystone r (halfOf a b) (halfOf c d))
  | _ => none

def readSetPanel (r : Req) : List Byte → Option Instr
  | [a, b, c, d, g] => some (.setPanel r (halfOf a b) (halfOf c d) g)
  | _ => none

def readSetZone (r : Req) : List Byte → Option Instr
  | [z, m0, m1, w0, w1, h0, h1, c0, c1, d] =>
    some
      (.setZone r z
        { members := halfOf m0 m1, warm := halfOf w0 w1, hot := halfOf h0 h1, crit := halfOf c0 c1, derate := d })
  | _ => none

def readSetCurve (r : Req) : List Byte → Option Instr
  | x :: z :: rest => if rest.length = 18 then (pointsOfBytes rest).map (.setCurve r x z) else none
  | [] => none
  | [_] => none

def readSetFan (r : Req) : List Byte → Option Instr
  | [f, p, s, m, a0, a1, b0, b1] =>
    some (.setFan r f { present := p, served := s, minDuty := m, rpmMin := halfOf a0 a1, rpmMax := halfOf b0 b1 })
  | _ => none

def readSetThermTable (r : Req) : List Byte → Option Instr
  | x :: rest => if rest.length = 34 then (valuesOf rest).map (.setThermTable r x) else none
  | [] => none

def readSetTracking (r : Req) : List Byte → Option Instr
  | [a0, a1, b0, b1, c0, c1, d0, d1, e0, e1, l0, l1, d] =>
    some
      (.setTracking r
        { g0 := halfOf a0 a1, g1 := halfOf b0 b1, g2 := halfOf c0 c1, g3 := halfOf d0 d1, g4 := halfOf e0 e1
          limit := halfOf l0 l1, deadband := d })
  | _ => none

/-! ### Kinds -/

/-- The general and motion kinds (11.2). -/
def readLowKind (r : Req) (kind : Nat) (ps : List Byte) : Option Instr :=
  match kind with
  | 0x01 => noParams (.getIdent r) ps
  | 0x02 => noParams (.getStatus r) ps
  | 0x03 => noParams (.readEvents r) ps
  | 0x04 => readSetMask r ps
  | 0x05 => oneByte (.setUnits r) ps
  | 0x06 => noParams (.softReset r) ps
  | 0x07 => noParams (.resync r) ps
  | 0x10 => readMove r ps
  | 0x11 => readShift r ps
  | 0x12 => oneByte (.home r) ps
  | 0x13 => threeBytes (.jog r) ps
  | 0x14 => oneByte (.jogKeep r) ps
  | 0x15 => oneByte (.stop r) ps
  | 0x16 => oneByte (.getAxis r) ps
  | 0x17 => noParams (.getQueue r) ps
  | 0x18 => noParams (.getShift r) ps
  | 0x19 => readSetAxis r ps
  | 0x1A => readSetRamp r ps
  | _ => none

/-- The memory, geometry and stream kinds (11.2). -/
def readMiddleKind (r : Req) (kind : Nat) (ps : List Byte) : Option Instr :=
  match kind with
  | 0x20 => oneByte (.recallMemory r) ps
  | 0x21 => oneByte (.store r) ps
  | 0x22 => oneByte (.erase r) ps
  | 0x23 => oneByte (.getMemory r) ps
  | 0x30 => readSetKeystone r ps
  | 0x31 => oneByte (.setOrientation r) ps
  | 0x32 => readSetPanel r ps
  | 0x33 => noParams (.getGeometry r) ps
  | 0x34 => oneByte (.setStream r) ps
  | 0x35 => oneByte (.readGrid r) ps
  | 0x36 => noParams (.getStream r) ps
  | _ => none

/-- The thermal, light and tracking kinds (11.2). -/
def readHighKind (r : Req) (kind : Nat) (ps : List Byte) : Option Instr :=
  match kind with
  | 0x40 => readSetZone r ps
  | 0x41 => readSetCurve r ps
  | 0x42 => readSetFan r ps
  | 0x43 => threeBytes (.setQuiet r) ps
  | 0x44 => readSetThermTable r ps
  | 0x45 => twoBytes (.setTrip r) ps
  | 0x46 => oneByte (.clearTrip r) ps
  | 0x47 => noParams (.getSensors r) ps
  | 0x48 => oneByte (.getThermTable r) ps
  | 0x49 => noParams (.getThermal r) ps
  | 0x4A => twoBytes (.getCurve r) ps
  | 0x50 => noParams (.lightOn r) ps
  | 0x51 => noParams (.lightOff r) ps
  | 0x52 => noParams (.clearFault r) ps
  | 0x53 => noParams (.getPhase r) ps
  | 0x60 => readSetTracking r ps
  | 0x61 => noParams (.getTracking r) ps
  | _ => none

/-- The command of a kind code with its parameters, `none` when the kind is not listed or its length does not match
(check 3 of R178). -/
def readKind (r : Req) (kind : Nat) (ps : List Byte) : Option Instr :=
  if kind < 0x20 then readLowKind r kind ps
  else if kind < 0x40 then readMiddleKind r kind ps
  else readHighKind r kind ps

/-- Check 3 of R178 on the bytes after the length. -/
def readBody (port : Port) : List Byte → Option Instr
  | kind :: tag :: qual :: ps =>
    match qualOfCode qual with
    | some q => readKind ⟨port, tag, q⟩ kind.toNat ps
    | none => none
  | [] => none
  | [_] => none
  | [_, _] => none

/-- A transaction read into its command: a read transaction of the picture port, a frame cut short, a malformed frame, or
a request (R177, R178). A read transaction of the system port has no bytes of its own (R176). -/
def decodeFrame (port : Port) (frame : List Byte) : Instr :=
  match frame with
  | [] => .frameCutShort port
  | len :: rest =>
    if port = .picture && decide (len = 0) then .readResponse port rest.length
    else if frame.length < len.toNat then .frameCutShort port
    else if len.toNat < Config.frameMin || decide (Config.frameMax < len.toNat) || decide (len.toNat < frame.length) then
      .badRequest port frame
    else (readBody port rest).getD (.badRequest port frame)

/-! ### The buses -/

/-- The 7-bit I2C address of the system port, by the ADDR strap as sampled at the last device reset (R176). -/
def systemAddress (strap : Bool) : BitVec 7 := if strap then 0x4D else 0x4C

/-- A transaction on the I2C bus: a write of bytes, or a read of a number of bytes, at a 7-bit address (R176). -/
inductive I2cTransfer where
  | write (address : BitVec 7) (bytes : List Byte)
  | read (address : BitVec 7) (count : Nat)
deriving DecidableEq, Repr

/-- The address a transaction names. -/
def I2cTransfer.address : I2cTransfer → BitVec 7
  | .write a _ => a
  | .read a _ => a

/-- The part acknowledges its own address alone: other addresses and the general call are ignored (R176). -/
def addressAcked (strap : Bool) (t : I2cTransfer) : Bool := decide (t.address = systemAddress strap)

/-- The command a transaction on the I2C bus gives, none at another address. It is given at the stop or repeated start
that ends the transaction. A write with no byte is a frame cut short (R176). -/
def i2cCommand (strap : Bool) (t : I2cTransfer) : Option Instr :=
  if addressAcked strap t then
    match t with
    | .write _ bytes => some (decodeFrame .system bytes)
    | .read _ count => some (.readResponse .system count)
  else none

/-- The number of bytes of a write to the part that it acknowledges: those up to the length that the first byte gives,
and the first byte itself (R176; log 39). -/
def bytesAcked : List Byte → Nat
  | [] => 0
  | len :: rest => min (rest.length + 1) (max 1 len.toNat)

/-- The command a transaction on the SPI bus gives, from the bytes clocked in while the chip select is low: a first byte
of 0 makes it a read (R177). -/
def spiCommand (bytes : List Byte) : Instr := decodeFrame .picture bytes

/-- A byte from its bits, the most significant first (R177). -/
def byteOfBits (bits : List Bool) : Byte := BitVec.ofNat 8 (bits.foldl (fun n b => 2 * n + b.toNat) 0)

/-- The bytes of the bits that SDI gives at the rising edges of SCK in one transaction (R177). Bits that end before a byte
is whole give no byte (log 52). -/
def bytesOfBits : List Bool → List Byte
  | b7 :: b6 :: b5 :: b4 :: b3 :: b2 :: b1 :: b0 :: rest =>
    byteOfBits [b7, b6, b5, b4, b3, b2, b1, b0] :: bytesOfBits rest
  | _ => []

/-- The command a transaction on the SPI bus gives, from the bits on SDI (R177). -/
def spiClocked (sdi : List Bool) : Instr := spiCommand (bytesOfBits sdi)

/-! ### Writing -/

/-- The bytes of one level, and of one point. -/
def levelBytes (l : LevelParam) : List Byte := halfBytes l.interval ++ [l.length]
def pointBytes (p : PointParam) : List Byte := halfBytes p.t ++ [p.d]

/-- The parameters of SET_AXIS after the axis. -/
def axisParamBytes (p : AxisParams) : List Byte :=
  [p.present] ++ halfBytes p.travel ++ halfBytes p.softMin ++ halfBytes p.softMax ++ halfBytes p.homeOffset
    ++ [p.tolerance, p.backlash, p.approach] ++ halfBytes p.park ++ halfBytes p.centre ++ halfBytes p.k

/-- The parameters of SET_ZONE after the zone. -/
def zoneParamBytes (p : ZoneParams) : List Byte :=
  halfBytes p.members ++ halfBytes p.warm ++ halfBytes p.hot ++ halfBytes p.crit ++ [p.derate]

/-- The parameters of SET_FAN after the fan. -/
def fanParamBytes (p : FanParams) : List Byte :=
  [p.present, p.served, p.minDuty] ++ halfBytes p.rpmMin ++ halfBytes p.rpmMax

/-- The parameters of SET_TRACKING. -/
def trackParamBytes (p : TrackParams) : List Byte :=
  halfBytes p.g0 ++ halfBytes p.g1 ++ halfBytes p.g2 ++ halfBytes p.g3 ++ halfBytes p.g4 ++ halfBytes p.limit
    ++ [p.deadband]

/-- What a request frame carries: the part every kind has, the kind code and the parameters. -/
structure Body where
  req : Req
  kind : Byte
  params : List Byte
deriving DecidableEq, Repr

/-- The body of a request, `none` for an event or a transaction that is no request (11.2). -/
def bodyOf : Instr → Option Body
  | .getIdent r => some ⟨r, 0x01, []⟩
  | .getStatus r => some ⟨r, 0x02, []⟩
  | .readEvents r => some ⟨r, 0x03, []⟩
  | .setMask r f => some ⟨r, 0x04, halfBytes f⟩
  | .setUnits r u => some ⟨r, 0x05, [u]⟩
  | .softReset r => some ⟨r, 0x06, []⟩
  | .resync r => some ⟨r, 0x07, []⟩
  | .move r x t => some ⟨r, 0x10, x :: quadBytes t⟩
  | .shift r x d => some ⟨r, 0x11, x :: halfBytes d⟩
  | .home r x => some ⟨r, 0x12, [x]⟩
  | .jog r x d l => some ⟨r, 0x13, [x, d, l]⟩
  | .jogKeep r x => some ⟨r, 0x14, [x]⟩
  | .stop r x => some ⟨r, 0x15, [x]⟩
  | .getAxis r x => some ⟨r, 0x16, [x]⟩
  | .getQueue r => some ⟨r, 0x17, []⟩
  | .getShift r => some ⟨r, 0x18, []⟩
  | .setAxis r x p => some ⟨r, 0x19, x :: axisParamBytes p⟩
  | .setRamp r x l => some ⟨r, 0x1A, x :: BitVec.ofNat 8 l.length :: l.flatMap levelBytes⟩
  | .recallMemory r n => some ⟨r, 0x20, [n]⟩
  | .store r n => some ⟨r, 0x21, [n]⟩
  | .erase r n => some ⟨r, 0x22, [n]⟩
  | .getMemory r n => some ⟨r, 0x23, [n]⟩
  | .setKeystone r kv kh => some ⟨r, 0x30, halfBytes kv ++ halfBytes kh⟩
  | .setOrientation r o => some ⟨r, 0x31, [o]⟩
  | .setPanel r w h g => some ⟨r, 0x32, halfBytes w ++ halfBytes h ++ [g]⟩
  | .getGeometry r => some ⟨r, 0x33, []⟩
  | .setStream r m => some ⟨r, 0x34, [m]⟩
  | .readGrid r j => some ⟨r, 0x35, [j]⟩
  | .getStream r => some ⟨r, 0x36, []⟩
  | .setZone r z p => some ⟨r, 0x40, z :: zoneParamBytes p⟩
  | .setCurve r x z l => some ⟨r, 0x41, x :: z :: l.flatMap pointBytes⟩
  | .setFan r f p => some ⟨r, 0x42, f :: fanParamBytes p⟩
  | .setQuiet r on cap level => some ⟨r, 0x43, [on, cap, level]⟩
  | .setThermTable r x l => some ⟨r, 0x44, x :: l.flatMap halfBytes⟩
  | .setTrip r x k => some ⟨r, 0x45, [x, k]⟩
  | .clearTrip r x => some ⟨r, 0x46, [x]⟩
  | .getSensors r => some ⟨r, 0x47, []⟩
  | .getThermTable r x => some ⟨r, 0x48, [x]⟩
  | .getThermal r => some ⟨r, 0x49, []⟩
  | .getCurve r x z => some ⟨r, 0x4A, [x, z]⟩
  | .lightOn r => some ⟨r, 0x50, []⟩
  | .lightOff r => some ⟨r, 0x51, []⟩
  | .clearFault r => some ⟨r, 0x52, []⟩
  | .getPhase r => some ⟨r, 0x53, []⟩
  | .setTracking r p => some ⟨r, 0x60, trackParamBytes p⟩
  | .getTracking r => some ⟨r, 0x61, []⟩
  | .badRequest _ _ => none
  | .frameCutShort _ => none
  | .readResponse _ _ => none
  | .powerOn _ => none
  | .resetPin _ => none
  | .picPresentChange _ => none
  | .presentFilterExpiry => none
  | .homeSwitchChange _ _ => none
  | .homeFilterExpiry _ => none
  | .stepEvent _ => none
  | .dividerAdvance _ => none
  | .coilRelease _ => none
  | .jogExpiry _ _ => none
  | .criticalPersisted _ => none
  | .sensorSubstitution _ => none
  | .cooldownTimeout => none
  | .parkTimeout => none
  | .rampStep => none
  | .conversionComplete _ => none
  | .tripInputChange _ _ => none
  | .tripLatchSet _ => none
  | .tachPulse _ => none
  | .frameStrobe => none
  | .bandStrobe => none
  | .streamWordSent => none
  | .computeComplete => none
  | .writeComplete => none
  | .powerFail => none

/-- The request frame of a body (R190). -/
def encodeBody (b : Body) : List Byte :=
  BitVec.ofNat 8 (4 + b.params.length) :: b.kind :: b.req.tag :: qualCode b.req.qual :: b.params

/-- The frame of a request. -/
def encodeFrame (i : Instr) : Option (List Byte) := (bodyOf i).map encodeBody

end Sys2Proof
end

