-- ==== Sys2Proof/Machine/Arith.lean ====
section
/-! DEFINITION. The named roundings of 0.5, clamping, and the byte order of the frames (R190). -/

namespace Sys2Proof.Machine

/-- Lean's division by a positive divisor is the rounding named floor: toward minus infinity (0.5). -/
def floorDiv (n : Int) (d : Nat) : Int := n / (d : Int)

/-- Half-away: the magnitude is rounded half-up and the sign restored (0.5). -/
def roundHalfAway (n : Int) (d : Nat) : Int :=
  if n < 0 then -(((2 * n.natAbs + d) / (2 * d) : Nat) : Int) else (((2 * n.natAbs + d) / (2 * d) : Nat) : Int)

/-- Toward zero: the fractional part is dropped (0.5). -/
def towardZero (n : Int) (d : Nat) : Int := Int.tdiv n (d : Int)

/-- Ceil, of a quotient of naturals (0.5). -/
def ceilDiv (n d : Nat) : Nat := (n + d - 1) / d

/-- The value moved to the nearer end of lo..hi when it lies outside. -/
def clampInt (lo hi x : Int) : Int := if x < lo then lo else if hi < x then hi else x

/-- The bytes of a value in `n` bytes, least significant first (R190). -/
def natBytes : Nat → Nat → List Byte
  | 0, _ => []
  | n + 1, v => BitVec.ofNat 8 v :: natBytes n (v / 256)

/-- The unsigned value of bytes, least significant first (R190). -/
def bytesNat : List Byte → Nat
  | [] => 0
  | b :: bs => b.toNat + 256 * bytesNat bs

/-- The two's complement of a signed value in `n` bytes (R190). -/
def intNat (n : Nat) (v : Int) : Nat := (v % ((256 ^ n : Nat) : Int)).toNat

end Sys2Proof.Machine
end

