-- ==== Sys2Proof/Machine/State.lean ====
section
/-! DEFINITION. The state of the JX640 as plain data, block by block (0.2), and its value right after a power-on
reset. A field marked "model" is implied by the rules and not named by them; its log entry is given. -/

namespace Sys2Proof.Machine

/-! ### One value per axis, zone, fan or channel -/

/-- One value for each of the four axes. -/
structure PerAxis (α : Type) where
  sh : α
  sv : α
  zm : α
  fc : α
deriving DecidableEq, Repr

/-- One value for each of the four zones. -/
structure PerZone (α : Type) where
  z0 : α
  z1 : α
  z2 : α
  z3 : α
deriving DecidableEq, Repr

/-- One value for each of the four fans. -/
structure PerFan (α : Type) where
  f0 : α
  f1 : α
  f2 : α
  f3 : α
deriving DecidableEq, Repr

/-- One value for each of the nine temperature channels. -/
structure PerChan (α : Type) where
  laser : α
  wheel : α
  imager : α
  psu : α
  intake : α
  exhaust : α
  lens : α
  spare : α
  die : α
deriving DecidableEq, Repr

def PerAxis.get {α : Type} (q : PerAxis α) : Axis → α
  | .sh => q.sh
  | .sv => q.sv
  | .zm => q.zm
  | .fc => q.fc

def PerAxis.set {α : Type} (q : PerAxis α) (a : Axis) (x : α) : PerAxis α :=
  match a with
  | .sh => { q with sh := x }
  | .sv => { q with sv := x }
  | .zm => { q with zm := x }
  | .fc => { q with fc := x }

def PerZone.get {α : Type} (q : PerZone α) : Zone → α
  | .z0 => q.z0
  | .z1 => q.z1
  | .z2 => q.z2
  | .z3 => q.z3

def PerZone.set {α : Type} (q : PerZone α) (z : Zone) (x : α) : PerZone α :=
  match z with
  | .z0 => { q with z0 := x }
  | .z1 => { q with z1 := x }
  | .z2 => { q with z2 := x }
  | .z3 => { q with z3 := x }

def PerFan.get {α : Type} (q : PerFan α) : Fan → α
  | .f0 => q.f0
  | .f1 => q.f1
  | .f2 => q.f2
  | .f3 => q.f3

def PerFan.set {α : Type} (q : PerFan α) (f : Fan) (x : α) : PerFan α :=
  match f with
  | .f0 => { q with f0 := x }
  | .f1 => { q with f1 := x }
  | .f2 => { q with f2 := x }
  | .f3 => { q with f3 := x }

def PerChan.get {α : Type} (q : PerChan α) : Chan → α
  | .laser => q.laser
  | .wheel => q.wheel
  | .imager => q.imager
  | .psu => q.psu
  | .intake => q.intake
  | .exhaust => q.exhaust
  | .lens => q.lens
  | .spare => q.spare
  | .die => q.die

def PerChan.set {α : Type} (q : PerChan α) (c : Chan) (x : α) : PerChan α :=
  match c with
  | .laser => { q with laser := x }
  | .wheel => { q with wheel := x }
  | .imager => { q with imager := x }
  | .psu => { q with psu := x }
  | .intake => { q with intake := x }
  | .exhaust => { q with exhaust := x }
  | .lens => { q with lens := x }
  | .spare => { q with spare := x }
  | .die => { q with die := x }

/-- The axes, zones, fans and channels, each in the order of the spec. -/
abbrev allAxes : List Axis := [.sh, .sv, .zm, .fc]
abbrev allZones : List Zone := [.z0, .z1, .z2, .z3]
abbrev allFans : List Fan := [.f0, .f1, .f2, .f3]
abbrev allChans : List Chan := [.laser, .wheel, .imager, .psu, .intake, .exhaust, .lens, .spare, .die]

/-! ### Axis channels (Chapter 1) -/

/-- The eight states of an axis (R2). -/
inductive AxisState where
  | absent
  | unreferenced
  | homing
  | idle
  | moving
  | jogging
  | stopping
  | held
deriving DecidableEq, Repr

/-- A direction of travel, in motor terms (R17). -/
inductive Dir where
  | pos
  | neg
deriving DecidableEq, Repr

/-- The approach direction setting (R4); `unset` is the spec's NONE. -/
inductive Approach where
  | pos
  | neg
  | unset
deriving DecidableEq, Repr

/-- Which backlash segment of a move is running (R1). -/
inductive Segment where
  | oneOfOne
  | oneOfTwo
  | twoOfTwo
deriving DecidableEq, Repr

/-- The part of a profile (R8). -/
inductive RampPart where
  | accel
  | cruise
  | decel
deriving DecidableEq, Repr

/-- The ramp position: level in progress, microsteps left in it, part (R1). -/
structure RampPos where
  level : Nat
  left : Nat
  part : RampPart
deriving DecidableEq, Repr

/-- The jog of an axis: direction and level (R1, R17). -/
structure Jog where
  dir : Dir
  level : Nat
deriving DecidableEq, Repr

/-- The two phases of homing (R20, R21). -/
inductive HomingPhase where
  | fast
  | backoff
deriving DecidableEq, Repr

/-- Model field (log 15): what the FAST phase is doing. `slowing` decelerates after an assertion (R20), `failing`
decelerates towards HOME_NOT_FOUND (R22). -/
inductive HomingRun where
  | running
  | slowing
  | failing
deriving DecidableEq, Repr

/-- The homing context (R1, R20). -/
structure Homing where
  phase : HomingPhase
  count : Nat
  run : HomingRun
deriving DecidableEq, Repr

/-- Why an axis is STOPPING (R1, R16). -/
inductive StopCause where
  | stop
  | allowance
  | expiry
  | lost
deriving DecidableEq, Repr

/-- The reasons of a FAILED result (R1, R46, R47). -/
inductive FailReason where
  | lost
  | homeNotFound
  | homeStuck
  | settings
  | absent
deriving DecidableEq, Repr

/-- The ending of a motion or entry (2.3). -/
inductive Ending where
  | done
  | stopped
  | replaced
  | failed (why : FailReason)
deriving DecidableEq, Repr

/-- The source of a move entry (R27). -/
inductive Origin where
  | system
  | picture
  | focusTrack
  | park
deriving DecidableEq, Repr

/-- One level of a ramp table: interval in microseconds, length in microsteps (R7). -/
structure RampLevel where
  interval : Nat
  length : Nat
deriving DecidableEq, Repr

/-- The settings set of an axis, less the ramp table (R4). -/
structure Settings where
  present : Bool
  travel : Nat
  softMin : Nat
  softMax : Nat
  homeOffset : Nat
  tolerance : Nat
  backlash : Nat
  approach : Approach
  park : Option Nat
  centre : Nat
  k : Nat
deriving DecidableEq, Repr

/-- The home switch filter (R19). `pin` and `filtered` are true when ASSERTED. `edgeUp` is a model field (log 15):
the raw edge fell while the axis was moving positive (R23). -/
structure HomeSwitch where
  pin : Bool
  filtered : Bool
  stable : Bool
  edgePos : Int
  edgeUp : Bool
deriving DecidableEq, Repr

/-- One axis channel: the record of R1, the coil outputs and pattern buffer of R9, the switch filter of R19, the
settings and ramp table. `dir`, `segEnd` and `peak` are model fields (log 15): the direction of travel, the end point
of the running segment, and the highest level of the running segment or jog. -/
structure Channel where
  state : AxisState
  position : Int
  referenced : Bool
  target : Option Int
  heldHome : Bool
  segment : Option Segment
  jog : Option Jog
  ramp : RampPos
  homing : Option Homing
  stopCause : Option StopCause
  phaseIndex : Nat
  buffer : Nat
  coilA : Int
  coilB : Int
  energized : Bool
  holdTimer : Nat
  homeEdge : Int
  lastResult : Option Ending
  lastOrigin : Option Origin
  dir : Dir
  segEnd : Int
  peak : Nat
  switch : HomeSwitch
  settings : Settings
  table : List RampLevel
deriving DecidableEq, Repr

/-! ### Move scheduler (Chapter 2) -/

/-- The kind of an entry with what belongs to that kind alone (R27). -/
inductive Motion where
  | move (target : Int)
  | home
  | jog (dir : Dir) (level keep : Nat)
deriving DecidableEq, Repr

/-- A shift excess with the demand it was made from (R27, R54). -/
structure ShiftPart where
  demand : Int
  excess : Int
deriving DecidableEq, Repr

/-- One entry of the move queue (R27). -/
structure Entry where
  axis : Axis
  motion : Motion
  origin : Origin
  tag : Option Byte
  shift : Option ShiftPart
  link : Option Byte
  parkNo : Option Byte
deriving DecidableEq, Repr

/-- The kind of a motion record, with the keep count of a jog (R28). -/
inductive MotionKind where
  | move
  | home
  | jog (keep : Nat)
deriving DecidableEq, Repr

/-- A motion record (R28). `ran` and `startPos` are model fields (log 25): whether the motion was ever granted (R54)
and the position at its first grant (R171). -/
structure MotionRec where
  kind : MotionKind
  origin : Origin
  tag : Option Byte
  shift : Option ShiftPart
  link : Option Byte
  parkNo : Option Byte
  ran : Bool
  startPos : Int
deriving DecidableEq, Repr

/-- A motion slot (R29). -/
inductive Slot where
  | free
  | granted (a : Axis)
  | rundown (a : Axis)
deriving DecidableEq, Repr

/-- The two slots by name. -/
inductive SlotId where
  | one
  | two
deriving DecidableEq, Repr

/-- The move scheduler: queue, motion records, held list, slots, die allowance (R27 to R29, R36). -/
structure Scheduler where
  queue : List Entry
  records : PerAxis (Option MotionRec)
  held : List Axis
  slot1 : Slot
  slot2 : Slot
  later : Option SlotId
  dieAllow : Nat
deriving DecidableEq, Repr

/-! ### Shift and memory unit (Chapter 3) -/

/-- A shift demand record (R50). -/
structure DemandRec where
  demand : Int
  excess : Int
  current : Bool
deriving DecidableEq, Repr

/-- The shift demand records of SH and SV (R50). -/
structure ShiftUnit where
  sh : DemandRec
  sv : DemandRec
deriving DecidableEq, Repr

/-- The contents of a VALID lens memory record (R58). -/
structure Picture where
  position : PerAxis (Option Int)
  demandSh : Option Int
  demandSv : Option Int
  kv : Int
  kh : Int
deriving DecidableEq, Repr

/-- The kind of a write (R59). -/
inductive WriteKind where
  | store
  | erase
deriving DecidableEq, Repr

/-- A WRITING job (R59). A record is `none` when EMPTY. -/
structure WriteJob where
  slot : Nat
  kind : WriteKind
  port : Port
  tag : Byte
  contents : Option Picture
  oldImage : Option Picture
deriving DecidableEq, Repr

/-- The lens memory store: ten records, `none` for EMPTY, and the write job, `none` for IDLE (R58, R59). -/
structure Memories where
  records : List (Option Picture)
  job : Option WriteJob
deriving DecidableEq, Repr

/-- An open recall context (R66). `placing` is a model field (log 33): the RECALL is still placing its entries. -/
structure RecallCtx where
  number : Byte
  slot : Byte
  port : Port
  tag : Byte
  outstanding : PerAxis Bool
  endings : PerAxis (Option Ending)
  kv : Int
  kh : Int
  cancelled : Bool
  placing : Bool
deriving DecidableEq, Repr

/-- The recall context, if open, and the number of the next one (R66). -/
structure RecallUnit where
  ctx : Option RecallCtx
  nextNumber : Byte
deriving DecidableEq, Repr

/-! ### Geometry engine (Chapter 4) -/

/-- The orientation setting (R70). -/
inductive Orientation where
  | floor
  | ceiling
deriving DecidableEq, Repr

/-- The geometry inputs record (R70). -/
structure Inputs where
  kv : Int
  kh : Int
  excessH : Int
  excessV : Int
  orientation : Orientation
  w : Nat
  h : Nat
  g : Nat
  keystoneClamped : Bool
  shiftClamped : Bool
deriving DecidableEq, Repr

/-- A point of the panel in sixteenths of a pixel. -/
structure Point where
  x : Int
  y : Int
deriving DecidableEq, Repr

/-- The four corners of the image (R78). -/
structure Corners where
  tl : Point
  tr : Point
  bl : Point
  br : Point
deriving DecidableEq, Repr

/-- The states of the geometry engine (R83). -/
inductive EngineState where
  | idle
  | computing
  | swapPending
deriving DecidableEq, Repr

/-- The two grid banks by name (R91). -/
inductive BankName where
  | a
  | b
deriving DecidableEq, Repr

/-- The result summary with the snapshot it was made from (R76). -/
structure Summary where
  corners : Corners
  dxPx : Int
  dyPx : Int
  s16 : Int
  shiftClamped : Bool
  snapshot : Inputs
deriving DecidableEq, Repr

/-- The geometry engine: inputs record, engine record, result summary (R70, R83). -/
structure Geometry where
  inputs : Inputs
  engine : EngineState
  restart : Bool
  bank : Option BankName
  snapshot : Option Inputs
  summary : Option Summary
deriving DecidableEq, Repr

/-! ### Grid banks and stream unit (Chapter 5) -/

/-- The state of a bank header (R91). -/
inductive BankState where
  | invalid
  | filling
  | valid
deriving DecidableEq, Repr

/-- A grid bank: header and points, row by row (R91). -/
structure Bank where
  state : BankState
  generation : Half
  w : Nat
  h : Nat
  g : Nat
  keystoneClamped : Bool
  shiftClamped : Bool
  points : List Point
deriving DecidableEq, Repr

/-- The two banks and the live bank index (R91, R93). -/
structure Banks where
  a : Bank
  b : Bank
  live : Option BankName
deriving DecidableEq, Repr

/-- The stream modes (R96). -/
inductive StreamMode where
  | off
  | frame
  | band
deriving DecidableEq, Repr

/-- What the output is sending (R96). -/
inductive Activity where
  | idle
  | header
  | points
  | row
deriving DecidableEq, Repr

/-- The cause of the last overrun (R96). -/
inductive Overrun where
  | never
  | frame
  | band
deriving DecidableEq, Repr

/-- How a frame begins, as its strobe found the banks: with nothing to send (R103), or from a bank at the generation that
it then held (R96, R98). -/
inductive FrameStart where
  | empty
  | bank (n : BankName) (gen : Half)
deriving DecidableEq, Repr

/-- Model record (log 18): the word that is let finish once the end of its send is ordered, and what follows it at the
word boundary (R98, R104, 5.9). `strobe`: a frame strobe was taken over the send; `begins`: the frame that begins, fixed at
the strobe; `bands`: band strobes taken since; `reset`: a picture-port reset leaves word count 0. -/
structure Finishing where
  word : Quadword
  strobe : Bool
  begins : Option FrameStart
  bands : Nat
  reset : Bool
deriving DecidableEq, Repr

/-- The stream context (R96). `finishing` and `lastWord` are model fields (log 18, log 14). -/
structure Stream where
  mode : StreamMode
  activity : Activity
  frameBank : Option BankName
  frameGen : Half
  wordCount : Nat
  rowPtr : Nat
  bandPending : Bool
  lastOverrun : Overrun
  finishing : Option Finishing
  lastWord : Option Quadword
deriving DecidableEq, Repr

/-! ### Time base and measurement unit (Chapter 6) -/

/-- The status of the last reading of a channel (R112); `unread` is the spec's none. -/
inductive ReadStatus where
  | unread
  | live
  | held
  | substituted
deriving DecidableEq, Repr

/-- A channel record (R112). -/
structure ChanRec where
  failed : Bool
  ring : List Nat
  badRun : Nat
  filtered : Option Int
  lastValid : Option Int
  failureAge : Nat
  status : ReadStatus
  lastCode : Option Nat
deriving DecidableEq, Repr

/-- A trip comparator (R119). `level` is the input pin in codes of the ADC reference (log 28). -/
structure Comparator where
  k : Nat
  level : Nat
  active : Bool
  running : Bool
  latch : Bool
deriving DecidableEq, Repr

/-- The tach accumulator, bucket ring (oldest first) and rpm last handed of one fan (R123). -/
structure Tach where
  accumulator : Nat
  buckets : List Nat
  rpm : Nat
deriving DecidableEq, Repr

/-- The measurement unit (R111 to R123). `scan` is the channel under conversion. -/
structure Measure where
  chans : PerChan ChanRec
  scan : Chan
  scanGiven : Bool
  tableA : List Int
  tableB : List Int
  laser : Comparator
  wheel : Comparator
  tach : PerFan Tach
deriving DecidableEq, Repr

/-! ### Cooling controller (Chapter 7) -/

/-- The states of a zone, in rising order (R128). -/
inductive ZoneState where
  | normal
  | warm
  | hot
  | critical
deriving DecidableEq, Repr

/-- A zone record (R126). -/
structure ZoneRec where
  members : PerChan Bool
  warm : Int
  hot : Int
  crit : Int
  derate : Nat
  temperature : Option Int
  state : ZoneState
  age : Nat
deriving DecidableEq, Repr

/-- The last reading a user holds of a channel (R112, R127). -/
structure Reading where
  status : ReadStatus
  temp : Option Int
deriving DecidableEq, Repr

/-- A point of a fan curve (R131). -/
structure CurvePoint where
  t : Int
  d : Nat
deriving DecidableEq, Repr

/-- The states of a fan (R140). -/
inductive FanState where
  | ok
  | suspect
  | failed
deriving DecidableEq, Repr

/-- A fan record (R133). -/
structure FanRec where
  present : Bool
  served : PerZone Bool
  minDuty : Nat
  rpmMin : Nat
  rpmMax : Nat
  target : Nat
  commanded : Nat
  state : FanState
  strikes : Nat
  goodRun : Nat
  grace : Nat
  reading : Nat
deriving DecidableEq, Repr

/-- The cooling controller: last readings, zones, curve sets, fans, quiet settings, light cap. -/
structure Cooling where
  readings : PerChan Reading
  zones : PerZone ZoneRec
  floorSet : PerZone (List CurvePoint)
  ceilingSet : PerZone (List CurvePoint)
  fans : PerFan FanRec
  quietOn : Bool
  quietCap : Nat
  quietLevel : Nat
  lightCap : Nat
deriving DecidableEq, Repr

/-! ### Phase controller (Chapter 8) -/

/-- The power phases (R147). -/
inductive Phase where
  | start
  | dark
  | warmup
  | lit
  | cooldown
  | fault
deriving DecidableEq, Repr

/-- Why COOLDOWN or FAULT was entered (R147). -/
inductive Reason where
  | noReason
  | off
  | trip
  | critical
  | resume
  | fans
  | timeout
deriving DecidableEq, Repr

/-- The state or outcome of the last park (R147); `never` is the spec's NONE. -/
inductive Park where
  | never
  | running
  | parked
  | incomplete
deriving DecidableEq, Repr

/-- The phase record (R147) and its three output lines (R162 to R164), true when asserted. `parkPlacing` and
`parkClean` are model fields (log 33): the park is still placing its entries, and every ending recorded was DONE. -/
structure PhaseRec where
  phase : Phase
  reason : Reason
  coolTimer : Nat
  restrike : Bool
  rampLevel : Option Nat
  rampCount : Nat
  failedFans : Nat
  park : Park
  parkSet : PerAxis Bool
  parkTimer : Nat
  parkNumber : Byte
  parkPlacing : Bool
  parkClean : Bool
  lightPermit : Bool
  coolDone : Bool
  faultN : Bool
deriving DecidableEq, Repr

/-! ### Focus tracker (Chapter 9) -/

/-- What the last ACTIVE tick of the tracker did (R167). -/
inductive TrackAction where
  | never
  | placed
  | deadband
  | busy
  | limit
deriving DecidableEq, Repr

/-- The tracking gain table (R167). -/
structure Gains where
  g0 : Int
  g1 : Int
  g2 : Int
  g3 : Int
  g4 : Int
deriving DecidableEq, Repr

/-- The tracking record (R167), with the gain and ZM position used at the last ACTIVE tick (R173). -/
structure Tracker where
  base : Option Int
  applied : Int
  tRef : Option Int
  gains : Gains
  limit : Nat
  deadband : Nat
  active : Bool
  comp : Option Int
  lastAction : TrackAction
  tLens : Option Int
  lensStatus : ReadStatus
  gainUsed : Option Int
  zmUsed : Option Int
deriving DecidableEq, Repr

/-! ### Ports (Chapter 10) -/

/-- The status of a response (R180); `nothing` is the spec's NONE. -/
inductive Status where
  | ok
  | queued
  | busy
  | denied
  | range
  | notReferenced
  | absent
  | wrongPhase
  | empty
  | notJogging
  | faulted
  | badRequest
  | nothing
deriving DecidableEq, Repr

/-- One field of a response's data, with its width in bytes (R190). -/
inductive Field where
  | u (width : Nat) (value : Nat)
  | s (width : Nat) (value : Int)
deriving DecidableEq, Repr

/-- A response frame before its encoding (R178, R180). -/
structure Response where
  status : Status
  tag : Byte
  clamped : Bool
  result : Bool
  events : Bool
  data : List Field
deriving DecidableEq, Repr

/-- The outcome of a recall (R67, R68). -/
inductive RecallOutcome where
  | complete
  | partly
  | superseded
deriving DecidableEq, Repr

/-- A notice on a port's list (R184). -/
inductive Notice where
  | move (axis : Axis) (tag : Byte) (ending : Ending)
  | recalled (slot tag : Byte) (outcome : RecallOutcome) (applied : Bool) (endings : PerAxis (Option Ending))
  | store (slot : Nat) (tag : Byte) (kind : WriteKind)
deriving DecidableEq, Repr

/-- The unit mode of a port (R183). -/
inductive UnitMode where
  | steps
  | permille
deriving DecidableEq, Repr

/-- A port record (R175) with its attention line (R186). `lastRead` is a model field (log 14): the bytes driven by the
port's last read transaction. -/
structure PortRec where
  unread : Option Response
  flags : Half
  mask : Half
  notices : List Notice
  lost : Bool
  unit : UnitMode
  attn : Bool
  lastRead : List Byte
deriving DecidableEq, Repr

/-- The cause of the last picture-port reset (R175). -/
inductive PicResetCause where
  | never
  | presentLow
  | resync
deriving DecidableEq, Repr

/-- Presence of the picture processor: the pin, its filter, present, and the reset count (R175, R177). -/
structure Presence where
  pin : Bool
  filtering : Bool
  present : Bool
  resetCount : Byte
  lastCause : PicResetCause
deriving DecidableEq, Repr

/-- The cause of the last device reset (R188). -/
inductive ResetCause where
  | power
  | pin
  | soft
deriving DecidableEq, Repr

/-! ### The whole machine -/

/-- The state of the part. `pending` is the queue of commands waiting, first in first out (log 1). `powered` is a model
field (log 8). `addrPin` is the ADDR pin, `addrStrap` its level as sampled (R176). -/
structure State where
  pending : List Instr
  powered : Bool
  resetCause : ResetCause
  addrPin : Bool
  addrStrap : Bool
  axes : PerAxis Channel
  sched : Scheduler
  shift : ShiftUnit
  mem : Memories
  recallUnit : RecallUnit
  geom : Geometry
  banks : Banks
  stream : Stream
  divider : Byte
  meas : Measure
  cool : Cooling
  phase : PhaseRec
  track : Tracker
  sysPort : PortRec
  picPort : PortRec
  presence : Presence
deriving DecidableEq, Repr

/-- Why the machine stops with a fault. Nobody raises one: no command stops this part (INVENTORY.md, Faults). -/
inductive Fault where
deriving DecidableEq, Repr

/-- Why a command has no meaning. `notModelled` is raised by `exec` for a command the model leaves out; no command is
left out. It is safe: the model stops where the part goes on. -/
inductive Refusal where
  | notModelled (mnemonic : String)
deriving DecidableEq, Repr

/-! ### Reset values -/

/-- The default ramp table (R7). -/
def defaultTable : List RampLevel :=
  [⟨2000, 16⟩, ⟨1200, 24⟩, ⟨800, 32⟩, ⟨500, 48⟩, ⟨350, 64⟩, ⟨250, 96⟩, ⟨200, 128⟩, ⟨160, 160⟩]

/-- The default settings, which differ between the axes in backlash, approach, centre and k alone (R5). The centre and
k of ZM and FC, which R5 leaves blank, are 0 (R4). -/
def defaultSettings (backlash : Nat) (approach : Approach) (centre k : Nat) : Settings :=
  { present := true, travel := 48000, softMin := 512, softMax := 47488, homeOffset := 256, tolerance := 24,
    backlash := backlash, approach := approach, park := none, centre := centre, k := k }

/-- An axis channel after a device reset (R1, R19) with given settings. The home switch pin is released (log 6). -/
def resetChannel (settings : Settings) : Channel :=
  { state := .unreferenced, position := 0, referenced := false, target := none, heldHome := false, segment := none,
    jog := none, ramp := ⟨0, 0, .cruise⟩, homing := none, stopCause := none, phaseIndex := 0, buffer := 0, coilA := 0,
    coilB := 0, energized := false, holdTimer := 0, homeEdge := 0, lastResult := none, lastOrigin := none, dir := .pos,
    segEnd := 0, peak := 0,
    switch := { pin := false, filtered := false, stable := false, edgePos := 0, edgeUp := false },
    settings := settings, table := defaultTable }

/-- The four axis channels after a device reset (R1, R5). -/
def resetAxes : PerAxis Channel :=
  { sh := resetChannel (defaultSettings 64 .pos 24000 12800)
    sv := resetChannel (defaultSettings 64 .pos 24000 12800)
    zm := resetChannel (defaultSettings 0 .unset 0 0)
    fc := resetChannel (defaultSettings 32 .pos 0 0) }

/-- The scheduler after a device reset (R27 to R29, R36). -/
def resetSched : Scheduler :=
  { queue := [], records := ⟨none, none, none, none⟩, held := [], slot1 := .free, slot2 := .free, later := none,
    dieAllow := 2 }

/-- A shift demand record after a device reset (R50). -/
def resetDemand : DemandRec := { demand := 0, excess := 0, current := false }

/-- The geometry inputs after a device reset (R70). -/
def resetInputs : Inputs :=
  { kv := 0, kh := 0, excessH := 0, excessV := 0, orientation := .floor, w := 1920, h := 1080, g := 9,
    keystoneClamped := false, shiftClamped := false }

/-- The engine after a device reset: a compute of the default inputs into bank A has just started (R83). -/
def resetGeometry : Geometry :=
  { inputs := resetInputs, engine := .computing, restart := false, bank := some .a, snapshot := some resetInputs,
    summary := none }

/-- A grid bank after a device reset (R91), in a given header state. -/
def resetBank (state : BankState) : Bank :=
  { state := state, generation := 0, w := 1920, h := 1080, g := 9, keystoneClamped := false, shiftClamped := false,
    points := [] }

/-- The banks after a device reset: B INVALID (R91), A FILLING by the compute of R83, no live bank (R93). -/
def resetBanks : Banks := { a := resetBank .filling, b := resetBank .invalid, live := none }

/-- The stream context after a device reset (R96). -/
def resetStream : Stream :=
  { mode := .off, activity := .idle, frameBank := none, frameGen := 0, wordCount := 0, rowPtr := 0,
    bandPending := false, lastOverrun := .never, finishing := none, lastWord := none }

/-- A channel record after a device reset (R112). -/
def resetChan : ChanRec :=
  { failed := false, ring := [], badRun := 0, filtered := none, lastValid := none, failureAge := 0, status := .unread,
    lastCode := none }

/-- The default thermistor table A (R114). -/
def defaultTableA : List Int :=
  [1500, 1180, 960, 830, 730, 650, 580, 515, 455, 395, 335, 270, 195, 110, 0, -170, -400]

/-- The default thermistor table B (R114). -/
def defaultTableB : List Int :=
  [1500, 1380, 1240, 1120, 1020, 935, 860, 790, 725, 660, 595, 525, 445, 350, 225, 40, -400]

/-- The threshold number of both comparators after a device reset (R119). -/
def resetTripK : Nat := 3

/-- A trip comparator after a device reset with its input at `level` (R119). -/
def resetComparator (level : Nat) : Comparator :=
  { k := resetTripK, level := level, active := decide (level < 256 * resetTripK),
    running := decide (level < 256 * resetTripK), latch := false }

/-- A tach record after a device reset (R123). -/
def resetTach : Tach := { accumulator := 0, buckets := [0, 0, 0, 0, 0, 0, 0, 0], rpm := 0 }

/-- The measurement unit after a device reset, with the two comparator inputs at the given levels. -/
def resetMeasure (laser wheel : Nat) : Measure :=
  { chans := ⟨resetChan, resetChan, resetChan, resetChan, resetChan, resetChan, resetChan, resetChan, resetChan⟩
    scan := .laser, scanGiven := false, tableA := defaultTableA, tableB := defaultTableB
    laser := resetComparator laser, wheel := resetComparator wheel
    tach := ⟨resetTach, resetTach, resetTach, resetTach⟩ }

/-- The empty channel set. -/
def noChans : PerChan Bool := ⟨false, false, false, false, false, false, false, false, false⟩

/-- A zone after a device reset with given members, thresholds and derate (R126). -/
def resetZone (members : PerChan Bool) (warm hot crit : Int) (derate : Nat) : ZoneRec :=
  { members := members, warm := warm, hot := hot, crit := crit, derate := derate, temperature := none,
    state := .normal, age := 0 }

/-- The zones after a device reset (R126). -/
def resetZones : PerZone ZoneRec :=
  { z0 := resetZone { noChans with laser := true, wheel := true } 550 700 820 75
    z1 := resetZone { noChans with imager := true } 500 620 720 75
    z2 := resetZone { noChans with psu := true, die := true } 600 750 900 85
    z3 := resetZone { noChans with intake := true, exhaust := true } 400 480 550 85 }

/-- The FLOOR curve set after a device reset (R131). -/
def defaultFloorSet : PerZone (List CurvePoint) :=
  { z0 := [⟨450, 25⟩, ⟨550, 35⟩, ⟨620, 50⟩, ⟨700, 70⟩, ⟨760, 85⟩, ⟨820, 100⟩]
    z1 := [⟨400, 25⟩, ⟨500, 35⟩, ⟨560, 50⟩, ⟨620, 70⟩, ⟨670, 85⟩, ⟨720, 100⟩]
    z2 := [⟨450, 20⟩, ⟨600, 30⟩, ⟨680, 50⟩, ⟨750, 70⟩, ⟨820, 85⟩, ⟨900, 100⟩]
    z3 := [⟨300, 20⟩, ⟨400, 30⟩, ⟨440, 45⟩, ⟨480, 65⟩, ⟨520, 85⟩, ⟨550, 100⟩] }

/-- The CEILING curve set after a device reset (R131). -/
def defaultCeilingSet : PerZone (List CurvePoint) :=
  { z0 := [⟨450, 35⟩, ⟨550, 45⟩, ⟨620, 60⟩, ⟨700, 80⟩, ⟨760, 95⟩, ⟨820, 100⟩]
    z1 := [⟨400, 35⟩, ⟨500, 45⟩, ⟨560, 60⟩, ⟨620, 80⟩, ⟨670, 95⟩, ⟨720, 100⟩]
    z2 := [⟨450, 25⟩, ⟨600, 35⟩, ⟨680, 55⟩, ⟨750, 75⟩, ⟨820, 90⟩, ⟨900, 100⟩]
    z3 := [⟨300, 30⟩, ⟨400, 40⟩, ⟨440, 55⟩, ⟨480, 75⟩, ⟨520, 95⟩, ⟨550, 100⟩] }

/-- A fan after a device reset with given served zones (R133). -/
def resetFan (served : PerZone Bool) : FanRec :=
  { present := true, served := served, minDuty := 20, rpmMin := 900, rpmMax := 3000, target := 40, commanded := 40,
    state := .ok, strikes := 0, goodRun := 0, grace := 6, reading := 0 }

/-- The cooling controller after a device reset (R126, R131, R133, R138, R143). -/
def resetCooling : Cooling :=
  { readings :=
      ⟨⟨.unread, none⟩, ⟨.unread, none⟩, ⟨.unread, none⟩, ⟨.unread, none⟩, ⟨.unread, none⟩, ⟨.unread, none⟩,
        ⟨.unread, none⟩, ⟨.unread, none⟩, ⟨.unread, none⟩⟩
    zones := resetZones, floorSet := defaultFloorSet, ceilingSet := defaultCeilingSet
    fans :=
      { f0 := resetFan ⟨false, false, false, true⟩, f1 := resetFan ⟨true, false, false, true⟩
        f2 := resetFan ⟨true, true, false, false⟩, f3 := resetFan ⟨false, false, true, false⟩ }
    quietOn := false, quietCap := 45, quietLevel := 70, lightCap := 0 }

/-- The empty axis set. -/
def noAxes : PerAxis Bool := ⟨false, false, false, false⟩

/-- The phase controller after a device reset (R147). -/
def resetPhase : PhaseRec :=
  { phase := .start, reason := .noReason, coolTimer := 0, restrike := false, rampLevel := none, rampCount := 0,
    failedFans := 0, park := .never, parkSet := noAxes, parkTimer := 0, parkNumber := 0, parkPlacing := false,
    parkClean := true, lightPermit := false, coolDone := false, faultN := false }

/-- The focus tracker after a device reset (R167). -/
def resetTracker : Tracker :=
  { base := none, applied := 0, tRef := none, gains := ⟨32, 40, 48, 56, 64⟩, limit := 400, deadband := 6,
    active := false, comp := none, lastAction := .never, tLens := none, lensStatus := .unread, gainUsed := none,
    zmUsed := none }

/-- A port record after a device reset (R175, R186). -/
def resetPort : PortRec :=
  { unread := none, flags := 0, mask := 0, notices := [], lost := false, unit := .steps, attn := false,
    lastRead := [] }

/-- Presence after a device reset with PIC_PRESENT at `pin` (R175). -/
def resetPresence (pin : Bool) : Presence :=
  { pin := pin, filtering := false, present := pin, resetCount := 0, lastCause := .never }

/-- A store as it leaves the factory: ten EMPTY records (R58). -/
def factoryMemories : Memories :=
  { records := [none, none, none, none, none, none, none, none, none, none], job := none }

/-- The comparator input of a cold sensor, above every threshold (log 6). -/
def coldLevel : Nat := 4096

/-- The machine right after its first power-on reset (R188). The levels of the input pins are log 6, the factory state
of the lens memories is R58, the cause POWER is log 7. -/
def State.reset : State :=
  { pending := [], powered := true, resetCause := .power, addrPin := false, addrStrap := false
    axes := resetAxes, sched := resetSched, shift := { sh := resetDemand, sv := resetDemand }
    mem := factoryMemories, recallUnit := { ctx := none, nextNumber := 0 }
    geom := resetGeometry, banks := resetBanks, stream := resetStream, divider := 0
    meas := resetMeasure coldLevel coldLevel, cool := resetCooling, phase := resetPhase, track := resetTracker
    sysPort := resetPort, picPort := resetPort, presence := resetPresence false }

end Sys2Proof.Machine
end

