-- ==== Sys2Proof/Machine/Operands.lean ====
section
/-! DEFINITION. Operand forms: the parameter codes of R190, the unit of a request (R183), and the permille
conversions of R51, R52 and R56. A code that is not listed gives `none`, which the request answers RANGE (R190). -/

namespace Sys2Proof.Machine

/-! ### Parameter codes (Chapter 11) -/

def axisOfCode (c : Byte) : Option Axis :=
  match c.toNat with
  | 0 => some .sh
  | 1 => some .sv
  | 2 => some .zm
  | 3 => some .fc
  | _ => none

/-- The axis of a SHIFT, which names SH or SV (R52; log 10). -/
def shiftAxisOfCode (c : Byte) : Option Axis :=
  match c.toNat with
  | 0 => some .sh
  | 1 => some .sv
  | _ => none

/-- The axes a STOP names: one, or all with code 255. -/
def stopAxesOfCode (c : Byte) : Option (List Axis) :=
  if c.toNat = 255 then some allAxes else (axisOfCode c).map fun a => [a]

def dirOfCode (c : Byte) : Option Dir :=
  match c.toNat with
  | 0 => some .pos
  | 1 => some .neg
  | _ => none

def approachOfCode (c : Byte) : Option Approach :=
  match c.toNat with
  | 0 => some .pos
  | 1 => some .neg
  | 2 => some .unset
  | _ => none

/-- The orientation, which also names a curve set. -/
def orientationOfCode (c : Byte) : Option Orientation :=
  match c.toNat with
  | 0 => some .floor
  | 1 => some .ceiling
  | _ => none

def modeOfCode (c : Byte) : Option StreamMode :=
  match c.toNat with
  | 0 => some .off
  | 1 => some .frame
  | 2 => some .band
  | _ => none

/-- Thermistor table: true for B. -/
def tableOfCode (c : Byte) : Option Bool :=
  match c.toNat with
  | 0 => some false
  | 1 => some true
  | _ => none

def compOfCode (c : Byte) : Option Comp :=
  match c.toNat with
  | 0 => some .laser
  | 1 => some .wheel
  | _ => none

/-- The comparators a CLEAR_TRIP names: LASER, WHEEL, BOTH. -/
def compsOfCode (c : Byte) : Option (List Comp) :=
  match c.toNat with
  | 0 => some [.laser]
  | 1 => some [.wheel]
  | 2 => some [.laser, .wheel]
  | _ => none

def unitOfCode (c : Byte) : Option UnitMode :=
  match c.toNat with
  | 1 => some .steps
  | 2 => some .permille
  | _ => none

def zoneOfCode (c : Byte) : Option Zone :=
  match c.toNat with
  | 0 => some .z0
  | 1 => some .z1
  | 2 => some .z2
  | 3 => some .z3
  | _ => none

def fanOfCode (c : Byte) : Option Fan :=
  match c.toNat with
  | 0 => some .f0
  | 1 => some .f1
  | 2 => some .f2
  | 3 => some .f3
  | _ => none

/-- A present or on field: 1 for yes and 0 for no. -/
def yesNoOfCode (c : Byte) : Option Bool :=
  match c.toNat with
  | 0 => some false
  | 1 => some true
  | _ => none

/-- A slot of the lens memory store, 0 to 9. -/
def slotOfCode (c : Byte) : Option Nat :=
  if c.toNat < Config.memorySlots then some c.toNat else none

/-- A zone set: bit k for Zk, the bits above bit 3 to be 0 (R190). -/
def zoneSetOfBits (c : Byte) : Option (PerZone Bool) :=
  if c.toNat < 16 then some ⟨c.getLsbD 0, c.getLsbD 1, c.getLsbD 2, c.getLsbD 3⟩ else none

/-- A channel set: bit 0 LASER to bit 8 DIE, the bits above bit 8 to be 0 (R190). -/
def chanSetOfBits (c : Half) : Option (PerChan Bool) :=
  if c.toNat < 512 then
    some ⟨c.getLsbD 0, c.getLsbD 1, c.getLsbD 2, c.getLsbD 3, c.getLsbD 4, c.getLsbD 5, c.getLsbD 6, c.getLsbD 7,
      c.getLsbD 8⟩
  else none

/-- A park target, 65535 for none. -/
def parkOfCode (c : Half) : Option Nat := if c.toNat = 65535 then none else some c.toNat

/-! ### Sets -/

/-- Whether some place of a set is taken. -/
def PerAxis.any (q : PerAxis Bool) : Bool := q.sh || q.sv || q.zm || q.fc
def PerZone.any (q : PerZone Bool) : Bool := q.z0 || q.z1 || q.z2 || q.z3
def PerChan.any (q : PerChan Bool) : Bool := allChans.any fun c => q.get c

def PerZone.map {α β : Type} (f : α → β) (q : PerZone α) : PerZone β := ⟨f q.z0, f q.z1, f q.z2, f q.z3⟩
def PerFan.map {α β : Type} (f : α → β) (q : PerFan α) : PerFan β := ⟨f q.f0, f q.f1, f q.f2, f q.f3⟩
def PerChan.map {α β : Type} (f : α → β) (q : PerChan α) : PerChan β :=
  ⟨f q.laser, f q.wheel, f q.imager, f q.psu, f q.intake, f q.exhaust, f q.lens, f q.spare, f q.die⟩

/-! ### Units and permille -/

/-- The orientation sign s of Chapter 3: +1 in FLOOR, −1 in CEILING. -/
def orientationSign (o : Orientation) : Int :=
  match o with
  | .floor => 1
  | .ceiling => -1

/-- Whether an axis is a shift axis. -/
def isShift (a : Axis) : Bool := a = .sh || a = .sv

/-- The permille equivalent of a shift position before the clamp to ±1000 (R51). -/
def shiftPermilleRaw (st : Settings) (o : Orientation) (position : Int) : Int :=
  orientationSign o * roundHalfAway ((position - st.centre) * 256) st.k

/-- The permille equivalent of a shift position (R51). -/
def shiftPermille (st : Settings) (o : Orientation) (position : Int) : Int :=
  clampInt (-Config.demandMax) Config.demandMax (shiftPermilleRaw st o position)

/-- The permille equivalent of a ZM or FC position (R56). -/
def travelPermille (st : Settings) (position : Int) : Int :=
  clampInt 0 1000 (floorDiv (position * 1000 + (st.travel / 2 : Nat)) st.travel)

/-- The permille equivalent of a position of any axis (R51, R56). -/
def permilleOf (a : Axis) (st : Settings) (o : Orientation) (position : Int) : Int :=
  if isShift a then shiftPermille st o position else travelPermille st position

/-- A position moved into the soft limits of an axis. -/
def softClamp (st : Settings) (position : Int) : Int := clampInt st.softMin st.softMax position

/-- The raw carriage target of a demand (R52, step 2). -/
def shiftRaw (st : Settings) (o : Orientation) (p : Int) : Int :=
  st.centre + orientationSign o * roundHalfAway (p * st.k) 256

/-- The excess of a demand: what the limit the raw target was moved onto leaves of it (R52, step 4). -/
def shiftExcess (st : Settings) (o : Orientation) (p : Int) : Int :=
  if softClamp st (shiftRaw st o p) = shiftRaw st o p then 0
  else p - shiftPermilleRaw st o (softClamp st (shiftRaw st o p))

/-- The demand of a shift request, clamped to ±1000 (R52, step 1). -/
def demandClamp (p : Int) : Int := clampInt (-Config.demandMax) Config.demandMax p

/-- The target of a ZM or FC request in PERMILLE, the demand clamped to 0..1000 (R56). -/
def travelTarget (st : Settings) (q : Int) : Int :=
  floorDiv (clampInt 0 1000 q * st.travel + 500) 1000

/-- The unit of a request: that of its qualifier, or the port's unit mode (R183). -/
def unitOf (mode : UnitMode) (q : Qualifier) : UnitMode :=
  match q with
  | .noOverride => mode
  | .steps => .steps
  | .permille => .permille

end Sys2Proof.Machine
end

