-- ==== Sys2Proof/Machine/Flags.lean ====
section
/-! DEFINITION. Event flags, notices and attention lines of the two ports (R184 to R186, 11.3). -/

namespace Sys2Proof.Machine

/-- The twelve event flags (10.5). -/
inductive Event where
  | moveDone
  | moveFailed
  | moveReplaced
  | recallDone
  | storeDone
  | geometryLive
  | thermalChange
  | fanFault
  | trip
  | lightCap
  | phase
  | streamOverrun
deriving DecidableEq, Repr

/-- The bit of a flag (11.3). -/
def eventBit : Event → Nat
  | .moveDone => 0
  | .moveFailed => 1
  | .moveReplaced => 2
  | .recallDone => 3
  | .storeDone => 4
  | .geometryLive => 5
  | .thermalChange => 6
  | .fanFault => 7
  | .trip => 8
  | .lightCap => 9
  | .phase => 10
  | .streamOverrun => 12

/-- The flag set that holds one flag. -/
def eventFlag (e : Event) : Half := (1 : Half) <<< eventBit e

/-- The bits of a SET_MASK that stand for a flag: bit 11 and bits 13 to 15 are ignored (R190). -/
def maskBits : Half := 0x17FF

/-- The attention line of a port: some flag both set and enabled (R186). -/
def attnOf (flags mask : Half) : Bool := decide (flags &&& mask ≠ 0)

/-- The port record with its attention line following its flags and mask (R186). -/
def PortRec.settle (p : PortRec) : PortRec := { p with attn := attnOf p.flags p.mask }

/-- Raising a flag on a port, whatever the mask (R184). -/
def PortRec.raise (p : PortRec) (e : Event) : PortRec :=
  PortRec.settle { p with flags := p.flags ||| eventFlag e }

/-- A notice joining the tail of a port's list; a full list loses its oldest first (R184). -/
def PortRec.notice (p : PortRec) (n : Notice) : PortRec :=
  if p.notices.length < Config.noticeCapacity then { p with notices := p.notices ++ [n] }
  else { p with notices := p.notices.drop 1 ++ [n], lost := true }

/-- The flag a move result raises (R34). -/
def endingEvent : Ending → Event
  | .done => .moveDone
  | .stopped => .moveDone
  | .failed _ => .moveFailed
  | .replaced => .moveReplaced

/-- The flag a notice belongs to (R184). -/
def noticeEvent : Notice → Event
  | .move _ _ e => endingEvent e
  | .recalled _ _ _ _ _ => .recallDone
  | .store _ _ _ => .storeDone

/-- The flags of the notices on a list. -/
def noticeFlags (l : List Notice) : Half := l.foldl (fun acc n => acc ||| eventFlag (noticeEvent n)) 0

/-- What READ_EVENTS leaves on a port: the notices returned are removed, notices lost is no, and every returned flag is
cleared except one of which a notice remains (R185). -/
def PortRec.afterRead (p : PortRec) : PortRec :=
  PortRec.settle
    { p with
      notices := p.notices.drop Config.noticesRead
      lost := false
      flags := p.flags &&& noticeFlags (p.notices.drop Config.noticesRead) }

end Sys2Proof.Machine
end

