-- ==== Sys2Proof/Machine/Ops.lean ====
section
/-! DEFINITION. The named operations over the state: one writer per block, event raising, forming a response, and the
gate every request and every event passes. -/

namespace Sys2Proof.Machine

/-! ### Writers, one per block -/

def State.withAxes (s : State) (x : PerAxis Channel) : State := { s with axes := x }
def State.withSched (s : State) (x : Scheduler) : State := { s with sched := x }
def State.withShift (s : State) (x : ShiftUnit) : State := { s with shift := x }
def State.withMem (s : State) (x : Memories) : State := { s with mem := x }
def State.withRecall (s : State) (x : RecallUnit) : State := { s with recallUnit := x }
def State.withGeom (s : State) (x : Geometry) : State := { s with geom := x }
def State.withBanks (s : State) (x : Banks) : State := { s with banks := x }
def State.withStream (s : State) (x : Stream) : State := { s with stream := x }
def State.withDivider (s : State) (x : Byte) : State := { s with divider := x }
def State.withMeas (s : State) (x : Measure) : State := { s with meas := x }
def State.withCool (s : State) (x : Cooling) : State := { s with cool := x }
def State.withPhase (s : State) (x : PhaseRec) : State := { s with phase := x }
def State.withTrack (s : State) (x : Tracker) : State := { s with track := x }
def State.withSysPort (s : State) (x : PortRec) : State := { s with sysPort := x }
def State.withPicPort (s : State) (x : PortRec) : State := { s with picPort := x }
def State.withPresence (s : State) (x : Presence) : State := { s with presence := x }
def State.withPowered (s : State) (x : Bool) : State := { s with powered := x }

/-! ### Axis channels -/

/-- The channel of an axis. -/
def State.chan (s : State) (a : Axis) : Channel := s.axes.get a

/-- Writing the channel of an axis. -/
def State.setChan (s : State) (a : Axis) (c : Channel) : State := s.withAxes (s.axes.set a c)

/-- An axis in MOVING, HOMING, JOGGING or STOPPING occupies the drivers (R2). -/
def inMotion : AxisState → Bool
  | .moving => true
  | .homing => true
  | .jogging => true
  | .stopping => true
  | .absent => false
  | .unreferenced => false
  | .idle => false
  | .held => false

/-! ### Ports -/

/-- The record of a port. -/
def State.port (s : State) (p : Port) : PortRec :=
  match p with
  | .system => s.sysPort
  | .picture => s.picPort

/-- Writing the record of a port. -/
def State.setPort (s : State) (p : Port) (r : PortRec) : State :=
  match p with
  | .system => s.withSysPort r
  | .picture => s.withPicPort r

/-- Raising a flag on one port (R184). -/
def raiseOn (p : Port) (e : Event) (s : State) : State := s.setPort p ((s.port p).raise e)

/-- Raising a flag on both ports. -/
def raiseBoth (e : Event) (s : State) : State := raiseOn .picture e (raiseOn .system e s)

/-- A notice for a port: it joins the list and its flag is raised at the same instant (R184). -/
def notify (p : Port) (n : Notice) (s : State) : State :=
  s.setPort p (((s.port p).notice n).raise (noticeEvent n))

/-- The port named by an origin (R34). -/
def originPort : Origin → Option Port
  | .system => some .system
  | .picture => some .picture
  | .focusTrack => none
  | .park => none

/-- The origin of work a port places (R182). -/
def portOrigin : Port → Origin
  | .system => .system
  | .picture => .picture

/-! ### Responses -/

/-- The part of a response that a kind's own rules give. -/
structure Reply where
  status : Status
  clamped : Bool := false
  result : Bool := false
  data : List Field := []
deriving DecidableEq, Repr

/-- An OK answer with no data, and a refusal. -/
def okReply : Reply := { status := .ok }
def refuse (st : Status) : Reply := { status := st }
def dataReply (d : List Field) : Reply := { status := .ok, data := d }

/-- Forming the response of a request with a tag on a port. It replaces any unread one (R179). EVENTS tells whether the
port's flags are not empty at this instant (R180). -/
def respond (p : Port) (tag : Byte) (r : Reply) (s : State) : State :=
  s.setPort p
    { s.port p with
      unread := some
        { status := r.status, tag := tag, clamped := r.clamped, result := r.result,
          events := decide ((s.port p).flags ≠ 0), data := r.data } }

/-- The privilege classes of R182. -/
inductive Privilege where
  | systemOnly
  | pictureOnly
  | bothPorts
deriving DecidableEq, Repr

/-- Whether a kind of a class is allowed on a port (R182). -/
def allowedOn : Privilege → Port → Bool
  | .systemOnly, .system => true
  | .systemOnly, .picture => false
  | .pictureOnly, .system => false
  | .pictureOnly, .picture => true
  | .bothPorts, _ => true

/-- Whether a port takes transactions: the part is powered (log 8) and the picture port's present is yes (R177). -/
def portTakes (s : State) (p : Port) : Bool :=
  s.powered &&
    match p with
    | .system => true
    | .picture => s.presence.present

/-- The gate of every request: the port takes it (R177), the kind is allowed there (check 4 of R178), then the kind's
own rules `f` rule on it and the response is formed at that instant. -/
def request (r : Req) (c : Privilege) (s : State) (f : State → State × Reply) :
    Host.Outcome State Fault Refusal :=
  if portTakes s r.port then
    if allowedOn c r.port then .next (respond r.port r.tag (f s).2 (f s).1)
    else .next (respond r.port r.tag (refuse .denied) s)
  else .next s

/-- A request that only reads. -/
def reading (r : Req) (s : State) (f : State → Reply) : Host.Outcome State Fault Refusal :=
  request r .bothPorts s fun s => (s, f s)

/-- The gate of every event of the part itself: an unpowered part takes none (log 8). -/
def event (s : State) (f : State → State) : Host.Outcome State Fault Refusal :=
  if s.powered then .next (f s) else .next s

end Sys2Proof.Machine
end

