-- ==== Sys2Proof/Machine/Geometry.lean ====
section
/-! DEFINITION. The keystone geometry: the five stages of a compute (R76 to R81), the engine record (R83 to R86), the
grid banks and their exchange (R91 to R94). -/

namespace Sys2Proof.Machine

/-! ### The computation -/

/-- Stage 1: the effective keystone kv′ or kh′ (R77). -/
def effectiveKeystone (o : Orientation) (k : Int) : Int := orientationSign o * k

/-- An inset, rounded half-up: floor((|k|·extent·16 + 256)/512) (R78). -/
def inset (k : Int) (extent : Nat) : Int := ((k.natAbs * extent * 16 + 256) / 512 : Nat)

/-- Stage 2: the corners after both keystones (R78). -/
def keystoneCorners (i : Inputs) : Corners :=
  let x : Int := 16 * i.w
  let y : Int := 16 * i.h
  let kv := effectiveKeystone i.orientation i.kv
  let kh := effectiveKeystone i.orientation i.kh
  let top := if 0 < kv then inset kv i.w else 0
  let bottom := if kv < 0 then inset kv i.w else 0
  let right := if 0 < kh then inset kh i.h else 0
  let left := if kh < 0 then inset kh i.h else 0
  { tl := ⟨top, left⟩, tr := ⟨x - top, right⟩, bl := ⟨bottom, y - left⟩, br := ⟨x - bottom, y - right⟩ }

/-- A digital shift before its clamp, in whole panel pixels (R79). -/
def shiftPixelsRaw (excess : Int) (extent : Nat) : Int := roundHalfAway (excess * extent) 1000

/-- A digital shift, clamped to an eighth of the panel (R79). -/
def shiftPixels (excess : Int) (extent : Nat) : Int :=
  clampInt (-((extent / 8 : Nat) : Int)) ((extent / 8 : Nat) : Int) (shiftPixelsRaw excess extent)

/-- The SHIFT_CLAMPED result: either clamp moved its value (R79). -/
def shiftClampedOf (i : Inputs) : Bool :=
  decide (shiftPixels i.excessH i.w ≠ shiftPixelsRaw i.excessH i.w)
    || decide (shiftPixels i.excessV i.h ≠ shiftPixelsRaw i.excessV i.h)

/-- The room one digital shift needs, in 1/65536, rounded up: sx or sy (R80). -/
def shiftRoom (px : Int) (extent : Nat) : Nat := ceilDiv (2 * px.natAbs * 65536) extent

/-- The scale s16 (R80). -/
def scaleOf (i : Inputs) : Int :=
  65536 - (max (shiftRoom (shiftPixels i.excessH i.w) i.w) (shiftRoom (shiftPixels i.excessV i.h) i.h) : Nat)

/-- The shift terms dx16 and dy16 (R79). -/
def shiftX16 (i : Inputs) : Int := orientationSign i.orientation * (16 * shiftPixels i.excessH i.w)
def shiftY16 (i : Inputs) : Int := -(orientationSign i.orientation * (16 * shiftPixels i.excessV i.h))

/-- One coordinate scaled about the centre and shifted (R80). -/
def scaleCoord (centre s16 d16 v : Int) : Int := centre + towardZero ((v - centre) * s16) 65536 + d16

/-- Stage 4: a corner scaled and shifted (R80). -/
def scalePoint (i : Inputs) (p : Point) : Point :=
  ⟨scaleCoord (8 * i.w) (scaleOf i) (shiftX16 i) p.x, scaleCoord (8 * i.h) (scaleOf i) (shiftY16 i) p.y⟩

/-- The corners of stage 4. -/
def finalCorners (i : Inputs) : Corners :=
  let c := keystoneCorners i
  { tl := scalePoint i c.tl, tr := scalePoint i c.tr, bl := scalePoint i c.bl, br := scalePoint i c.br }

/-- The interpolation of a and b at step k of n, a rounding half-up (R81). -/
def interpolate (n : Nat) (a b : Int) (k : Nat) : Int := a + floorDiv ((b - a) * k + (n / 2 : Nat)) n

/-- Interpolation of two points, each coordinate separately (R81). -/
def interpolatePoint (n : Nat) (p q : Point) (k : Nat) : Point :=
  ⟨interpolate n p.x q.x k, interpolate n p.y q.y k⟩

/-- Stage 5: the point of column i and row j (R81). -/
def gridPoint (n : Nat) (c : Corners) (i j : Nat) : Point :=
  interpolatePoint n (interpolatePoint n c.tl c.tr i) (interpolatePoint n c.bl c.br i) j

/-- The grid, row by row, column 0 first (R81). -/
def gridPoints (i : Inputs) : List Point :=
  (List.range i.g).flatMap fun row => (List.range i.g).map fun col => gridPoint (i.g - 1) (finalCorners i) col row

/-- The result summary of a compute (R76). Its corners are those of stage 4, which the grid is made from (log 46). -/
def summaryOf (i : Inputs) : Summary :=
  { corners := finalCorners i, dxPx := shiftPixels i.excessH i.w, dyPx := shiftPixels i.excessV i.h
    s16 := scaleOf i, shiftClamped := shiftClampedOf i, snapshot := i }

/-! ### Banks -/

/-- A bank by name. -/
def Banks.get (b : Banks) (n : BankName) : Bank :=
  match n with
  | .a => b.a
  | .b => b.b

/-- Writing a bank. -/
def Banks.set (b : Banks) (n : BankName) (x : Bank) : Banks :=
  match n with
  | .a => { b with a := x }
  | .b => { b with b := x }

/-- The shadow bank: the bank that is not live, A when the index is none (R93). -/
def Banks.shadow (b : Banks) : BankName :=
  match b.live with
  | none => .a
  | some .a => .b
  | some .b => .a

/-- The header state of a bank changes (R92). -/
def Banks.mark (b : Banks) (n : BankName) (st : BankState) : Banks :=
  b.set n { b.get n with state := st }

/-- The generation of the next exchange (R94). -/
def nextGeneration (b : Banks) : Half :=
  match b.live with
  | none => 0
  | some n => (b.get n).generation + 1

/-! ### Engine -/

/-- The start of a compute into a bank (R85). -/
def startCompute (n : BankName) (s : State) : State :=
  (s.withGeom
    { s.geom with
      engine := .computing, restart := false, bank := some n, snapshot := some s.geom.inputs }).withBanks
    (s.banks.mark n .filling)

/-- A recompute request, by the engine's state (R84). -/
def recompute (s : State) : State :=
  match s.geom.engine with
  | .idle => startCompute s.banks.shadow s
  | .computing => s.withGeom { s.geom with restart := true }
  | .swapPending => startCompute (s.geom.bank.getD s.banks.shadow) s

/-- Writing the geometry inputs: a recompute request when a field changes (R71). -/
def writeInputs (x : Inputs) (s : State) : State :=
  if x = s.geom.inputs then s else recompute (s.withGeom { s.geom with inputs := x })

/-- Which ports an exchange tells (R94, R105). -/
inductive LiveTo where
  | both
  | systemAlone
deriving DecidableEq, Repr

/-- An exchange: the bank becomes live with the next generation, GEOMETRY_LIVE is raised, the engine becomes IDLE
(R94). -/
def exchange (n : BankName) (told : LiveTo) (s : State) : State :=
  let banks := { s.banks.set n { s.banks.get n with generation := nextGeneration s.banks } with live := some n }
  let s1 := (s.withBanks banks).withGeom { s.geom with engine := .idle, restart := false, bank := none, snapshot := none }
  match told with
  | .both => raiseBoth .geometryLive s1
  | .systemAlone => raiseOn .system .geometryLive s1

/-- A pending result is made live (R87, R88); an engine in another state makes no exchange. -/
def exchangePending (told : LiveTo) (s : State) : State :=
  match s.geom.engine with
  | .swapPending => exchange (s.geom.bank.getD s.banks.shadow) told s
  | .idle => s
  | .computing => s

/-- The bank as a kept compute leaves it: points, header and VALID (R86). -/
def filledBank (i : Inputs) (b : Bank) : Bank :=
  { b with
    state := .valid, w := i.w, h := i.h, g := i.g, keystoneClamped := i.keystoneClamped
    shiftClamped := shiftClampedOf i, points := gridPoints i }

/-- The engine with a kept result: SHIFT_CLAMPED goes to the inputs record, the rest to the summary, and the result
waits for a frame strobe (R86). -/
def keptGeometry (i : Inputs) (g : Geometry) : Geometry :=
  { g with
    inputs := { g.inputs with shiftClamped := shiftClampedOf i }
    summary := some (summaryOf i), engine := .swapPending }

/-- The completion of a compute of snapshot `i` into bank `n` (R86). -/
def completeCompute (n : BankName) (i : Inputs) (s : State) : State :=
  if s.geom.restart then startCompute n s
  else
    let s1 := (s.withBanks (s.banks.set n (filledBank i (s.banks.get n)))).withGeom (keptGeometry i s.geom)
    if s.presence.present && decide (s.stream.mode ≠ .off) then s1 else exchange n .both s1

end Sys2Proof.Machine
end

