-- ==== Sys2Proof/Machine/ShiftMemory.lean ====
section
/-! DEFINITION. The shift demand records (R50 to R55) and the recall context (R66, R67). -/

namespace Sys2Proof.Machine

/-! ### Shift demand records -/

/-- The demand record of a shift axis; ZM and FC have none. -/
def ShiftUnit.get (u : ShiftUnit) : Axis → Option DemandRec
  | .sh => some u.sh
  | .sv => some u.sv
  | .zm => none
  | .fc => none

/-- Writing the demand record of a shift axis. -/
def ShiftUnit.set (u : ShiftUnit) (a : Axis) (d : DemandRec) : ShiftUnit :=
  match a with
  | .sh => { u with sh := d }
  | .sv => { u with sv := d }
  | .zm => u
  | .fc => u

/-- The geometry inputs with the excess of a shift axis (R50). -/
def Inputs.withExcess (i : Inputs) (a : Axis) (e : Int) : Inputs :=
  match a with
  | .sh => { i with excessH := e }
  | .sv => { i with excessV := e }
  | .zm => i
  | .fc => i

/-- Writing the demand record of a shift axis with a new excess, which goes into the geometry inputs at the same time
(R50, R73). -/
def writeDemand (a : Axis) (d : DemandRec) (s : State) : State :=
  writeInputs (s.geom.inputs.withExcess a d.excess) (s.withShift (s.shift.set a d))

/-- Marking the demand record of a shift axis not current, the other fields kept (R55). -/
def uncurrent (a : Axis) (s : State) : State :=
  match s.shift.get a with
  | some d => s.withShift (s.shift.set a { d with current := false })
  | none => s

/-- The permille equivalent of the present position of an axis under the present settings (R51, R56). -/
def positionPermille (s : State) (a : Axis) : Int :=
  permilleOf a (s.chan a).settings s.geom.inputs.orientation (s.chan a).position

/-- The demand record after an ending of a shift motion, `none` when it is unchanged (R54). REPLACED and never-granted
endings come first (log 20). -/
def demandAfter (s : State) (a : Axis) (m : MotionRec) (e : Ending) : Option DemandRec :=
  let here : DemandRec := { demand := positionPermille s a, excess := 0, current := true }
  match e with
  | .replaced => none
  | .done =>
    match m.kind with
    | .move =>
      match m.shift with
      | some p => some { demand := p.demand, excess := p.excess, current := true }
      | none => some here
    | .jog _ => some here
    | .home => some { demand := 0, excess := 0, current := false }
  | .stopped =>
    if m.ran then
      match m.kind with
      | .move => some here
      | .jog _ => some here
      | .home => some { demand := 0, excess := 0, current := false }
    else none
  | .failed _ =>
    if m.ran then
      match m.kind with
      | .move => some { here with current := false }
      | .jog _ => some { here with current := false }
      | .home => some { demand := 0, excess := 0, current := false }
    else none

/-- The unit takes the ending of a motion of an axis; only shift axes have a record (R54). -/
def shiftEnding (a : Axis) (m : MotionRec) (e : Ending) (s : State) : State :=
  if isShift a then
    match demandAfter s a m e with
    | some d => writeDemand a d s
    | none => s
  else s

/-- The whole demand of an absent shift axis becomes excess (R53). -/
def demandAbsent (a : Axis) (p : Int) (s : State) : State :=
  writeDemand a { demand := p, excess := p, current := true } s

/-! ### Recall context -/

/-- Whether an ending counts as complete (R67). -/
def endingComplete : Option Ending → Bool
  | none => true
  | some .done => true
  | some .stopped => false
  | some .replaced => false
  | some (.failed _) => false

/-- The outcome a context closes with (R67). -/
def recallOutcome (c : RecallCtx) : RecallOutcome :=
  if allAxes.all fun a => endingComplete (c.endings.get a) then .complete else .partly

/-- The notice of a context that closes (R67, R68). -/
def recallNotice (c : RecallCtx) (o : RecallOutcome) (applied : Bool) : Notice :=
  .recalled c.slot c.tag o applied c.endings

/-- Closing a context whose set is empty: the pending keystone is applied unless cancelled (R73 clears
KEYSTONE_CLAMPED), the outcome fixed and the notice sent (R67). -/
def closeRecall (c : RecallCtx) (s : State) : State :=
  let s1 := s.withRecall { s.recallUnit with ctx := none }
  let s2 :=
    if c.cancelled then s1
    else writeInputs { s1.geom.inputs with kv := c.kv, kh := c.kh, keystoneClamped := false } s1
  notify c.port (recallNotice c (recallOutcome c) (!c.cancelled)) s2

/-- The close test of R67: nothing outstanding, and the placing is over. -/
def recallSettle (s : State) : State :=
  match s.recallUnit.ctx with
  | some c => if c.outstanding.any || c.placing then s else closeRecall c s
  | none => s

/-- A linked ending reaches the unit: recorded when its link names the open context (R66). -/
def recallEnding (a : Axis) (link : Byte) (e : Ending) (s : State) : State :=
  match s.recallUnit.ctx with
  | some c =>
    if c.number = link then
      recallSettle
        (s.withRecall
          { s.recallUnit with
            ctx := some { c with endings := c.endings.set a (some e), outstanding := c.outstanding.set a false } })
    else s
  | none => s

/-- An open context is closed SUPERSEDED by a new RECALL (R68). -/
def supersedeRecall (s : State) : State :=
  match s.recallUnit.ctx with
  | some c => notify c.port (recallNotice c .superseded false) (s.withRecall { s.recallUnit with ctx := none })
  | none => s

/-- A SET_KEYSTONE cancels the keystone of an open context (R67, R72). -/
def cancelRecallKeystone (s : State) : State :=
  match s.recallUnit.ctx with
  | some c => s.withRecall { s.recallUnit with ctx := some { c with cancelled := true } }
  | none => s

/-! ### Lens memories -/

/-- The record a slot is read from: the old image while the slot is being written (R63). -/
def memoryImage (m : Memories) (slot : Nat) : Option Picture :=
  match m.job with
  | some j => if j.slot = slot then j.oldImage else (m.records[slot]?).join
  | none => (m.records[slot]?).join

/-- The store with a write begun: the valid mark of the slot is cleared and its contents kept as the old image (R60,
R61). -/
def beginWrite (m : Memories) (slot : Nat) (kind : WriteKind) (port : Port) (tag : Byte) (contents : Option Picture) :
    Memories :=
  { records := m.records.set slot none
    job :=
      some
        { slot := slot, kind := kind, port := port, tag := tag, contents := contents,
          oldImage := (m.records[slot]?).join } }

/-- The store with its write completed (R62). -/
def endWrite (m : Memories) (j : WriteJob) : Memories :=
  { records := m.records.set j.slot j.contents, job := none }

/-- The store with its write cut: the slot being written is EMPTY, the others are untouched (R62). -/
def cutWrite (m : Memories) : Memories :=
  match m.job with
  | some j => { records := m.records.set j.slot none, job := none }
  | none => m

end Sys2Proof.Machine
end

