-- ==== Sys2Proof/Machine/StreamUnit.lean ====
section
/-! DEFINITION. The grid stream: words and output lines (R191), sends, strobes and the picture-port reset of the unit (R96
to R105). -/

namespace Sys2Proof.Machine

/-! ### Words -/

/-- A word from two 16-bit halves, the high one first (R191). -/
def wordOf (high low : Nat) : Quadword := BitVec.ofNat 32 (high % 65536 * 65536 + low % 65536)

/-- The code of a bank name in a header (R191). -/
def bankBit : BankName → Nat
  | .a => 0
  | .b => 1

/-- Header word 0: sync mark, bank, generation (R191). -/
def headerZero (n : BankName) (gen : Half) : Quadword := wordOf (0xFF00 + bankBit n) gen.toNat

/-- The four header words of a bank (R191). -/
def headerWord (n : BankName) (gen : Half) (b : Bank) (i : Nat) : Quadword :=
  match i with
  | 0 => headerZero n gen
  | 1 => wordOf b.w b.h
  | 2 => wordOf (b.g * 256) (2 * b.keystoneClamped.toNat + b.shiftClamped.toNat)
  | _ => ~~~(headerZero n gen)

/-- The row word of a row (R191). -/
def rowWord (row : Nat) (gen : Half) : Quadword := wordOf (0xFE00 + row) gen.toNat

/-- The point word of place `i` of a bank (R191). -/
def pointWord (b : Bank) (i : Nat) : Quadword :=
  match b.points[i]? with
  | some p => wordOf p.x.toNat p.y.toNat
  | none => 0

/-! ### Sends -/

/-- The output is sending (R96). -/
def Stream.sending (st : Stream) : Bool := decide (st.activity ≠ .idle)

/-- The bank the present frame's stream is taken from. -/
def streamBank (s : State) : BankName := s.stream.frameBank.getD .a

/-- The word on the output: the one after the words already completed (R96, R99, R100). -/
def currentWord (s : State) : Quadword :=
  let n := streamBank s
  let b := s.banks.get n
  let st := s.stream
  match st.activity with
  | .idle => 0
  | .header => headerWord n st.frameGen b st.wordCount
  | .points => pointWord b (st.wordCount - 4)
  | .row =>
    if st.wordCount = 0 then rowWord (st.rowPtr - 1) st.frameGen
    else pointWord b ((st.rowPtr - 1) * b.g + (st.wordCount - 1))

/-- The word on the output: one that is let finish, or the next of the present send. -/
def wordOut (s : State) : Quadword :=
  match s.stream.finishing with
  | some f => f.word
  | none => currentWord s

/-- The end of the send in progress ordered: the word on the output is let finish, and what was ordered before stays
(R104; log 18). -/
def finishingWord (s : State) : Finishing :=
  s.stream.finishing.getD { word := currentWord s, strobe := false, begins := none, bands := 0, reset := false }

/-- The context with no send: activity IDLE, frame bank none, row pointer 0, band pending no (R97, R105). -/
def Stream.cleared (st : Stream) : Stream :=
  { st with activity := .idle, frameBank := none, rowPtr := 0, bandPending := false, finishing := none }

/-- SET_STREAM clears the context and sets the mode (R97): at once when nothing is sent, and otherwise at the end of the
word being sent, the mode alone being set at once (R104; log 18). -/
def clearStream (mode : StreamMode) (s : State) : State :=
  if s.stream.sending then
    s.withStream { s.stream with mode := mode, finishing := some { finishingWord s with begins := none } }
  else s.withStream { s.stream.cleared with mode := mode }

/-- The stream unit at a picture-port reset, before the exchange of R88 (R105): a send in progress keeps its activity and
word count up to the end of its word (R104; log 18). The frame generation is left, since R105 gives it no value
(log 42). -/
def resetStreamContext (s : State) : State :=
  if s.stream.sending then
    s.withStream
      { s.stream with
        mode := .off, lastOverrun := .never
        finishing := some { finishingWord s with strobe := false, begins := none, bands := 0, reset := true } }
  else s.withStream { s.stream.cleared with mode := .off, wordCount := 0, lastOverrun := .never }

/-- Serving a band strobe with nothing sending: the next row, or nothing after the last row (R100). -/
def serveBand (s : State) : State :=
  if s.stream.rowPtr < (s.banks.get (streamBank s)).g then
    s.withStream { s.stream with activity := .row, wordCount := 0, rowPtr := s.stream.rowPtr + 1 }
  else s

/-- The end of a send in BAND mode: activity IDLE, and a pending strobe is served at that instant (R101), with GS_VALID high
across (log 56). -/
def endBandSend (s : State) : State :=
  if s.stream.bandPending then
    serveBand (s.withStream { s.stream with activity := .idle, bandPending := false })
  else s.withStream { s.stream with activity := .idle }

/-- STREAM_OVERRUN on the picture port with its cause (R98, R101). -/
def overrun (c : Overrun) (s : State) : State :=
  raiseOn .picture .streamOverrun (s.withStream { s.stream with lastOverrun := c })

/-- The frame that a strobe begins: from the live bank when it is VALID, and empty otherwise (R98, R103). -/
def frameStart (s : State) : FrameStart :=
  match s.banks.live with
  | some n => if (s.banks.get n).state = .valid then .bank n (s.banks.get n).generation else .empty
  | none => .empty

/-- Step 3 of a frame strobe: the frame begins (R98, R103). -/
def beginFrame (f : FrameStart) (s : State) : State :=
  let st := { s.stream with bandPending := false, rowPtr := 0, wordCount := 0 }
  match f with
  | .empty => s.withStream { st with activity := .idle, frameBank := none }
  | .bank n gen => s.withStream { st with activity := .header, frameBank := some n, frameGen := gen }

/-- A frame strobe (R98). The exchange is made, and the bank of the new frame fixed, when the strobe is taken (R87, R94,
R96). Over a send the overrun and the new frame come at the end of the word being sent (5.9; log 18). -/
def frameStrobe (s : State) : State :=
  if s.stream.mode = .off then s
  else
    let s1 := exchangePending .both s
    if s.stream.sending then
      s1.withStream
        { s1.stream with
          finishing := some { finishingWord s with strobe := true, begins := some (frameStart s1), bands := 0 } }
    else beginFrame (frameStart s1) s1

/-- A band strobe with no end of a send ordered (R100, R101). -/
def strobeBand (s : State) : State :=
  if s.stream.mode = .band && s.stream.frameBank.isSome then
    if s.stream.sending then
      if s.stream.bandPending then overrun .band s
      else s.withStream { s.stream with bandPending := true }
    else serveBand s
  else s

/-- A band strobe (R100, R101). One taken while a word is let finish is ruled at its end, after a frame strobe taken
before it (R102; log 18). -/
def bandStrobe (s : State) : State :=
  match s.stream.finishing with
  | some f => s.withStream { s.stream with finishing := some { f with bands := f.bands + 1 } }
  | none => strobeBand s

/-- The band strobes taken while a word was let finish, one after another. -/
def strobeBands : Nat → State → State
  | 0, s => s
  | n + 1, s => strobeBands n (strobeBand s)

/-- The output after a word of the present send is completed (R96): the end of the header, of the points or of a row
(R99 to R101). -/
def afterWord (s : State) : State :=
  let g := (s.banks.get (streamBank s)).g
  match s.stream.activity with
  | .idle => s
  | .header =>
    if s.stream.wordCount < 4 then s
    else if s.stream.mode = .band then endBandSend s
    else s.withStream { s.stream with activity := .points }
  | .points =>
    if s.stream.wordCount < 4 + g * g then s
    else s.withStream { s.stream with activity := .idle, frameBank := none }
  | .row => if s.stream.wordCount < g + 1 then s else endBandSend s

/-- The word that was let finish is completed, and the send ends (R104): the context is cleared, a frame strobe taken over
the send overruns and its frame begins (R98), and the band strobes taken since are ruled (R102). GS_VALID stays high into
a frame that begins here (log 56). -/
def endSend (f : Finishing) (s : State) : State :=
  let s1 :=
    s.withStream
      { s.stream.cleared with
        lastWord := some f.word, wordCount := if f.reset then 0 else s.stream.wordCount + 1 }
  let s2 := if f.strobe then overrun .frame s1 else s1
  let s3 :=
    match f.begins with
    | some frame => beginFrame frame s2
    | none => s2
  strobeBands f.bands s3

/-- A word of the grid stream is completed: one that was let finish, or the next of the present send (R96). -/
def wordSent (s : State) : State :=
  match s.stream.finishing with
  | some f => endSend f s
  | none =>
    if s.stream.sending then
      afterWord
        (s.withStream
          { s.stream with lastWord := some (currentWord s), wordCount := s.stream.wordCount + 1 })
    else s

/-! ### Output lines -/

/-- GS_VALID: high for every word that goes out and low between sends (R191), where two sends that follow with no clock
between them leave it high (log 56). An unpowered part drives nothing (log 8). -/
def gsValid (s : State) : Bool := s.powered && s.stream.sending

/-- GS_DAT at the `n`-th of the 32 clocks of the word on the output, clock 0 first: the most significant bit goes first,
and the line is low while GS_VALID is low (R191). -/
def gsDat (s : State) (n : Nat) : Bool := gsValid s && (wordOut s).getMsbD n

/-- GS_CLK runs without pause from the release of every device reset (R191), which is where a powered part stands
(log 8). -/
def gsClkRuns (s : State) : Bool := s.powered

end Sys2Proof.Machine
end

