-- ==== Sys2Proof/Machine/Resets.lean ====
section
/-! DEFINITION. The three device resets (R188), the picture-port reset (R189), presence (R177), loss of power (R62). -/

namespace Sys2Proof.Machine

/-- An axis channel after a device reset with its home switch pin at a level: the filtered level is the raw level sampled
at the release (R1, R5, R19, R26). -/
def Channel.afterReset (fresh : Channel) (pin : Bool) : Channel :=
  { fresh with switch := { fresh.switch with pin := pin, filtered := pin } }

/-- The four channels after a device reset (R26). -/
def axesAfterReset (q : PerAxis Channel) : PerAxis Channel :=
  { sh := resetAxes.sh.afterReset q.sh.switch.pin, sv := resetAxes.sv.afterReset q.sv.switch.pin
    zm := resetAxes.zm.afterReset q.zm.switch.pin, fc := resetAxes.fc.afterReset q.fc.switch.pin }

/-- A device reset with its cause, ADDR standing at `addr` at the release (R188). Every block takes its reset values; the
lens memories are kept, less the record being written (R62); the input pins keep their levels. -/
def deviceReset (cause : ResetCause) (addr : Bool) (s : State) : State :=
  { State.reset with
    pending := s.pending, resetCause := cause, addrPin := addr, addrStrap := addr
    axes := axesAfterReset s.axes, mem := cutWrite s.mem
    meas := resetMeasure s.meas.laser.level s.meas.wheel.level, presence := resetPresence s.presence.pin }

/-- The picture port's record after a picture-port reset (R189). -/
def PortRec.cleared (p : PortRec) : PortRec :=
  PortRec.settle
    { p with unread := none, flags := 0, mask := 0, notices := [], lost := false, unit := .steps }

/-- A picture-port reset (R189): the port is cleared, the reset counted, the stream unit reset (R105) and a pending
result made live on the system port alone (R88). -/
def picturePortReset (cause : PicResetCause) (s : State) : State :=
  let s1 := s.withPicPort s.picPort.cleared
  let s2 := s1.withPresence { s1.presence with resetCount := s1.presence.resetCount + 1, lastCause := cause }
  exchangePending .systemAlone (resetStreamContext s2)

/-- PIC_PRESENT changes: the 1 ms filter starts when the level differs from present, and a change back is dropped
(R177). -/
def Presence.pinChange (p : Presence) (level : Bool) : Presence :=
  if level = p.pin then p else { p with pin := level, filtering := decide (level ≠ p.present) }

/-- The new level has held for 1 ms: present follows, and its fall is a picture-port reset (R177). With the filter idle
nothing runs out (log 27). -/
def presentFilterDone (s : State) : State :=
  if s.presence.filtering then
    let s1 := s.withPresence { s.presence with present := s.presence.pin, filtering := false }
    if s.presence.pin then s1 else picturePortReset .presentLow s1
  else s

/-- The supply fails (R62; log 8): a write in progress is cut. Nothing else is read before the next power-on reset. -/
def powerLost (s : State) : State := (s.withMem (cutWrite s.mem)).withPowered false

end Sys2Proof.Machine
end

