-- ==== Sys2Proof/Machine/Cooling.lean ====
section
/-! DEFINITION. The cooling controller apart from what it hands to the phase controller: zone temperatures (R127), curves
(R131), fan targets (R134, R135), slew (R136), supervision (R139, R140), the light cap (R143, R144). -/

namespace Sys2Proof.Machine

/-! ### Zone temperatures -/

/-- What a reading contributes to a zone with a crit threshold (R127). -/
def contribution (crit : Int) (r : Reading) : Option Int :=
  match r.status with
  | .unread => none
  | .live => r.temp
  | .held => r.temp
  | .substituted => some crit

/-- The larger of two contributions. -/
def larger (x y : Option Int) : Option Int :=
  match x, y with
  | some a, some b => some (max a b)
  | some a, none => some a
  | none, y => y

/-- The zone temperature: the largest contribution of the members, or absent (R127). -/
def zoneTemperature (members : PerChan Bool) (crit : Int) (readings : PerChan Reading) : Option Int :=
  allChans.foldl
    (fun acc c => if members.get c then larger acc (contribution crit (readings.get c)) else acc) none

/-- A zone with its temperature formed again (R127). -/
def ZoneRec.formed (z : ZoneRec) (readings : PerChan Reading) : ZoneRec :=
  { z with temperature := zoneTemperature z.members z.crit readings }

/-! ### Curves -/

/-- The duty between a point and the points after it (R131). -/
def curveFrom (p : CurvePoint) (t : Int) : List CurvePoint → Nat
  | [] => p.d
  | q :: rest =>
    if t < q.t then p.d + (floorDiv (((q.d : Int) - p.d) * (t - p.t)) (q.t - p.t).toNat).toNat else curveFrom q t rest

/-- The curve duty of a zone at a temperature (R131). -/
def curveDuty (curve : List CurvePoint) (t : Option Int) : Nat :=
  match curve with
  | [] => 0
  | p :: rest =>
    match t with
    | none => p.d
    | some t => if t < p.t then p.d else curveFrom p t rest

/-- The curve set named by an orientation (R131). -/
def Cooling.curveSet (q : Cooling) (o : Orientation) : PerZone (List CurvePoint) :=
  match o with
  | .floor => q.floorSet
  | .ceiling => q.ceilingSet

/-! ### Conditions -/

/-- Either trip latch is set. -/
def latched (s : State) : Bool := s.meas.laser.latch || s.meas.wheel.latch

/-- A fan that is present and FAILED. -/
def FanRec.isFailed (f : FanRec) : Bool := f.present && decide (f.state = .failed)

/-- The number of FAILED fans (R142). -/
def failedCount (q : Cooling) : Nat := (allFans.filter fun f => (q.fans.get f).isFailed).length

/-- Two served sets share a zone. -/
def servedShare (x y : PerZone Bool) : Bool := allZones.any fun z => x.get z && y.get z

/-- Two fans are companions (R133). -/
def companions (q : Cooling) (f g : Fan) : Bool :=
  decide (f ≠ g) && (q.fans.get f).present && (q.fans.get g).present
    && servedShare (q.fans.get f).served (q.fans.get g).served

/-- Step 1 of R134 holds for a fan. -/
def forced (s : State) (f : Fan) : Bool :=
  (s.cool.fans.get f).present
    && (decide (s.phase.phase = .fault) || latched s
      || allFans.any fun g => companions s.cool f g && (s.cool.fans.get g).isFailed)

/-- A zone that is HOT or CRITICAL. -/
def ZoneRec.isHot (z : ZoneRec) : Bool := decide (z.state = .hot) || decide (z.state = .critical)

/-- Quiet mode is suspended (R138). -/
def quietSuspended (s : State) : Bool :=
  (allZones.any fun z => (s.cool.zones.get z).isHot) || decide (0 < failedCount s.cool)

/-- Quiet mode is on and not suspended. -/
def quietInForce (s : State) : Bool := s.cool.quietOn && !quietSuspended s

/-! ### Targets -/

/-- The demand of a fan: the largest curve duty over the zones it serves, or its min duty (R134, step 2). -/
def fanDemand (s : State) (f : FanRec) : Nat :=
  if f.served.any then
    allZones.foldl
      (fun acc z =>
        if f.served.get z then
          max acc (curveDuty ((s.cool.curveSet s.geom.inputs.orientation).get z) (s.cool.zones.get z).temperature)
        else acc)
      0
  else f.minDuty

/-- Steps 3 and 4 of R134, by phase. -/
def phaseTarget (s : State) (f : FanRec) : Nat :=
  let demand := fanDemand s f
  match s.phase.phase with
  | .start => max Config.startDuty f.minDuty
  | .dark =>
    if allZones.any fun z => decide ((s.cool.zones.get z).state ≠ .normal) then
      if 0 < demand then max demand f.minDuty else 0
    else 0
  | .warmup => max demand f.minDuty
  | .lit => max demand f.minDuty
  | .cooldown => max (max demand Config.coolDownFloor) f.minDuty
  | .fault => 100

/-- The target duty of a present fan (R134). Step 1 alone ends the search; step 5 lowers what step 4 gave (log 35). -/
def fanTarget (s : State) (f : Fan) : Nat :=
  if forced s f then 100
  else
    let t := phaseTarget s (s.cool.fans.get f)
    if quietInForce s then min t s.cool.quietCap else t

/-- A new commanded duty, with the spin-up grace it starts or ends (R139). -/
def FanRec.command (f : FanRec) (duty : Nat) : FanRec :=
  { f with
    commanded := duty
    grace := if duty = 0 then 0 else if f.commanded = 0 then Config.graceTicks else f.grace }

/-- The target of a fan computed again, and its commanded duty forced (R134, R135). An absent fan is left (R133). -/
def refreshFan (s : State) (f : Fan) : FanRec :=
  let r := s.cool.fans.get f
  if r.present then
    if forced s f then { r.command 100 with target := 100 } else { r with target := fanTarget s f }
  else r

/-- Every target computed again (R134). -/
def refreshFans (s : State) : PerFan FanRec :=
  ⟨refreshFan s .f0, refreshFan s .f1, refreshFan s .f2, refreshFan s .f3⟩

/-! ### Light cap -/

/-- The warm-up ramp derate (R143). -/
def rampDerate (s : State) : Option Nat := if s.phase.phase = .warmup then s.phase.rampLevel else none

/-- The quiet light derate (R143). -/
def quietDerate (s : State) : Option Nat := if quietInForce s then some s.cool.quietLevel else none

/-- The HOT derate of a zone (R143). -/
def hotDerate (s : State) (z : Zone) : Option Nat :=
  if (s.cool.zones.get z).state = .hot then some (s.cool.zones.get z).derate else none

/-- The fan-fault derate (R143). -/
def fanDerate (s : State) : Option Nat := if 0 < failedCount s.cool then some Config.fanFaultDerate else none

/-- Every derate, in force or not. -/
def derates (s : State) : List (Option Nat) :=
  [rampDerate s, quietDerate s, hotDerate s .z0, hotDerate s .z1, hotDerate s .z2, hotDerate s .z3, fanDerate s]

/-- The light cap (R143). -/
def lightCapOf (s : State) : Nat :=
  if s.phase.lightPermit then (derates s).foldl (fun acc d => min acc (d.getD 100)) 100 else 0

/-- The light cap computed again; a change raises LIGHT_CAP on both ports (R144). -/
def refreshCap (s : State) : State :=
  if lightCapOf s = s.cool.lightCap then s
  else raiseBoth .lightCap (s.withCool { s.cool with lightCap := lightCapOf s })

/-- Targets and light cap computed again (R134, R144). -/
def coolRefresh (s : State) : State := refreshCap (s.withCool { s.cool with fans := refreshFans s })

/-! ### Slew -/

/-- One T8 tick of a fan (R136). -/
def FanRec.slew (f : FanRec) : FanRec :=
  if f.present then
    if f.commanded < f.target then f.command (min (f.commanded + Config.slewUp) f.target)
    else if f.target < f.commanded then
      if f.target < f.minDuty && decide (f.commanded - Config.slewDown < f.minDuty) then f.command f.target
      else f.command (max (f.commanded - Config.slewDown) f.target)
    else f
  else f

/-- The fan slew of a T8 tick (R136). -/
def slewFans (s : State) : State := s.withCool { s.cool with fans := s.cool.fans.map FanRec.slew }

/-! ### Supervision -/

/-- The expected speed at the commanded duty (R140). -/
def FanRec.expected (f : FanRec) : Nat :=
  f.rpmMin + (f.rpmMax - f.rpmMin) * (f.commanded - f.minDuty) / (100 - f.minDuty)

/-- The class of a reading (R140). -/
inductive SpeedClass where
  | strike
  | good
  | neither
deriving DecidableEq, Repr

/-- The class of the reading of a fan (R140). -/
def FanRec.speedClass (f : FanRec) : SpeedClass :=
  if 2 * f.reading < f.expected then .strike
  else if 3 * f.expected ≤ 4 * f.reading then .good
  else .neither

/-- A good reading of a SUSPECT or FAILED fan (R140). -/
def FanRec.recovering (f : FanRec) : FanRec :=
  if Config.goodRunMax ≤ f.goodRun + 1 then { f with strikes := 0, goodRun := 0, state := .ok }
  else { f with strikes := 0, goodRun := f.goodRun + 1 }

/-- A fan judged by a class (R140). -/
def FanRec.judged (f : FanRec) (k : SpeedClass) : FanRec :=
  match f.state with
  | .ok =>
    match k with
    | .strike => { f with strikes := 1, goodRun := 0, state := .suspect }
    | .good => { f with strikes := 0 }
    | .neither => { f with strikes := 0, goodRun := 0 }
  | .suspect =>
    match k with
    | .strike =>
      { f with
        strikes := f.strikes + 1, goodRun := 0
        state := if Config.strikesMax ≤ f.strikes + 1 then .failed else .suspect }
    | .good => f.recovering
    | .neither => { f with strikes := 0, goodRun := 0 }
  | .failed =>
    match k with
    | .strike => { f with strikes := Config.strikesMax, goodRun := 0 }
    | .good => f.recovering
    | .neither => { f with goodRun := 0 }

/-- One T2 tick of a fan's supervision (R139). -/
def FanRec.supervised (f : FanRec) : FanRec :=
  if f.present then
    if 0 < f.grace then { f with grace := f.grace - 1, strikes := 0, goodRun := 0 }
    else if f.minDuty ≤ f.commanded then f.judged f.speedClass
    else { f with strikes := 0, goodRun := 0 }
  else f

end Sys2Proof.Machine
end

