-- ==== Sys2Proof/Machine/Profile.lean ====
section
/-! DEFINITION. Ramp tables, the move profile and the coil sequence (R7 to R9, R15, R17, R18, R25). -/

namespace Sys2Proof.Machine

/-- A(L): the sum of the lengths of levels 0 to L−1 (1.3). -/
def rampDistance (table : List RampLevel) (level : Nat) : Nat :=
  ((table.take level).map (·.length)).sum

/-- The length of a level. -/
def levelLength (table : List RampLevel) (level : Nat) : Nat :=
  match table[level]? with
  | some l => l.length
  | none => 0

/-- The highest-numbered level of a table (1.3). -/
def topLevel (table : List RampLevel) : Nat := table.length - 1

/-- The highest level no higher than `top` that passes a test, level 0 when none above it does. -/
def highestLevel (ok : Nat → Bool) : Nat → Nat
  | 0 => 0
  | n + 1 => if ok (n + 1) then n + 1 else highestLevel ok n

/-- The peak level of a segment of `distance` microsteps: the highest with 2·A(Lp) ≤ D (R8). -/
def peakLevel (table : List RampLevel) (distance : Nat) : Nat :=
  highestLevel (fun l => decide (2 * rampDistance table l ≤ distance)) (topLevel table)

/-- The highest level L′ with A(L′) ≤ r (R25). -/
def levelWithin (table : List RampLevel) (r : Nat) : Nat :=
  highestLevel (fun l => decide (rampDistance table l ≤ r)) (topLevel table)

/-- The ramp position with nothing left at level 0: a segment or a deceleration is over (R13). Every axis at rest after a
motion shows it (log 57). -/
def rampOver : RampPos := ⟨0, 0, .decel⟩

/-- Deceleration from a level: the levels below it, each for its length (R8, R15). -/
def decelFrom (table : List RampLevel) (level : Nat) : RampPos :=
  match level with
  | 0 => rampOver
  | l + 1 => ⟨l, levelLength table l, .decel⟩

/-- One microstep of a deceleration (R15). -/
def decelStep (table : List RampLevel) (rp : RampPos) : RampPos :=
  if 1 < rp.left then { rp with left := rp.left - 1 } else decelFrom table rp.level

/-- The ramp position at the start of a profile whose highest level is `peak` and that covers `distance` (R8, R17). A jog
whose level is 0 shows CRUISE at once, with what is left to its DECEL (log 55). -/
def rampBegin (table : List RampLevel) (peak distance : Nat) : RampPos :=
  if peak = 0 then ⟨0, distance, .cruise⟩ else ⟨0, levelLength table 0, .accel⟩

/-- A run at `level` with `r` microsteps to go: DECEL begins when r equals A of the level in progress (R8, R18). -/
def cruiseAt (table : List RampLevel) (level r : Nat) : RampPos :=
  if r ≤ rampDistance table level then decelFrom table level
  else ⟨level, r - rampDistance table level, .cruise⟩

/-- The ramp position on reaching `level` while climbing, with `r` to go and `peak` the highest level of the run. A jog that
reaches its requested level shows CRUISE at once, with what is left to its DECEL (log 55). -/
def climbTo (table : List RampLevel) (peak level r : Nat) : RampPos :=
  if r ≤ rampDistance table level then decelFrom table level
  else if level < peak then ⟨level, levelLength table level, .accel⟩
  else ⟨level, r - rampDistance table level, .cruise⟩

/-- One microstep of a move or jog, `r` being the distance left after it. `mayClimb` is the test for the next level:
R8 and R25 for a move, R17 for a jog. -/
def rampStep (table : List RampLevel) (peak : Nat) (mayClimb : Nat → Bool) (r : Nat) (rp : RampPos) : RampPos :=
  match rp.part with
  | .decel => decelStep table rp
  | .cruise => cruiseAt table rp.level r
  | .accel =>
    if r ≤ rampDistance table rp.level then decelFrom table rp.level
    else if 1 < rp.left then { rp with left := rp.left - 1 }
    else if rp.level < peak && mayClimb (rp.level + 1) then climbTo table peak (rp.level + 1) r
    else cruiseAt table rp.level r

/-- The climbing test of a move: the distance left is at least A of the next level (R25; without a re-sync it always
is). -/
def moveMayClimb (table : List RampLevel) (r : Nat) (next : Nat) : Bool :=
  decide (rampDistance table next ≤ r)

/-- The climbing test of a jog: the distance to the soft limit ahead is greater than 2·A(L+1) (R17). -/
def jogMayClimb (table : List RampLevel) (r : Nat) (next : Nat) : Bool :=
  decide (2 * rampDistance table next < r)

/-- The ramp position after a re-sync that leaves `r` microsteps, r being above 0 (R25). The microsteps at the level it keeps
or drops to are shown as CRUISE, but for those of an axis that still climbs (log 53). -/
def rampResync (table : List RampLevel) (r : Nat) (rp : RampPos) : RampPos :=
  if rampDistance table rp.level ≤ r then
    match rp.part with
    | .accel => if r ≤ rampDistance table rp.level then decelFrom table rp.level else rp
    | .cruise => cruiseAt table rp.level r
    | .decel => cruiseAt table rp.level r
  else cruiseAt table (levelWithin table r) r

/-- Microsteps a deceleration still has to run (R25). -/
def decelLeft (table : List RampLevel) (rp : RampPos) : Nat := rp.left + rampDistance table rp.level

/-- The ramp position of a STOPPING axis after a re-sync that leaves `r` microsteps to its end point, r being above 0:
unchanged when r covers the deceleration, otherwise shortened to end exactly there (R25). The microsteps at the level it
drops to are shown as DECEL (log 53). -/
def rampResyncStopping (table : List RampLevel) (r : Nat) (rp : RampPos) : RampPos :=
  if decelLeft table rp ≤ r then rp
  else
    let level := levelWithin table r
    if r ≤ rampDistance table level then decelFrom table level
    else ⟨level, r - rampDistance table level, .decel⟩

/-- The first ramp position of the FAST phase with homing level `hl` (R20). The cruise of homing has no planned end, so
nothing is counted down in it (log 54). -/
def homingBegin (table : List RampLevel) (hl : Nat) : RampPos :=
  if hl = 0 then ⟨0, 0, .cruise⟩ else ⟨0, levelLength table 0, .accel⟩

/-- The homing level: level 3, or the top level of a shorter table (R20). -/
def homingLevelOf (table : List RampLevel) : Nat := min Config.homingLevel (topLevel table)

/-- One microstep of the FAST phase while it runs: it climbs to the homing level and stays there (R20). -/
def homingStep (table : List RampLevel) (hl : Nat) (rp : RampPos) : RampPos :=
  match rp.part with
  | .accel =>
    if 1 < rp.left then { rp with left := rp.left - 1 }
    else if rp.level + 1 < hl then ⟨rp.level + 1, levelLength table (rp.level + 1), .accel⟩
    else ⟨hl, 0, .cruise⟩
  | .cruise => rp
  | .decel => decelStep table rp

/-- The table c(i) of R9 for i from 0 to 8. -/
def coilTable : Nat → Int
  | 0 => 100
  | 1 => 98
  | 2 => 92
  | 3 => 83
  | 4 => 71
  | 5 => 56
  | 6 => 38
  | 7 => 20
  | _ => 0

/-- The currents of coils A and B at an entry of the sequence, in percent. Eight entries on, coil A is minus coil B and
coil B is coil A (R9). -/
def coilPattern (i : Nat) : Int × Int :=
  match i / 8 % 4 with
  | 0 => (coilTable (i % 8), coilTable (8 - i % 8))
  | 1 => (-coilTable (8 - i % 8), coilTable (i % 8))
  | 2 => (-coilTable (i % 8), -coilTable (8 - i % 8))
  | _ => (coilTable (8 - i % 8), -coilTable (i % 8))

/-- The entry next to `i` in a direction, modulo 32 (R9). -/
def nextEntry (d : Dir) (i : Nat) : Nat :=
  match d with
  | .pos => (i + 1) % Config.phaseEntries
  | .neg => (i + Config.phaseEntries - 1) % Config.phaseEntries

end Sys2Proof.Machine
end

