-- ==== Sys2Proof/Machine/Channels.lean ====
section
/-! DEFINITION. What one axis channel does with a grant, a step event, a stop or a switch event (R9 to R25), apart from
what it reports to the scheduler. -/

namespace Sys2Proof.Machine

/-! ### Coils -/

/-- The coils driven with the entry of the phase index (R10). -/
def Channel.driven (c : Channel) : Channel :=
  { c with
    energized := true, coilA := (coilPattern c.phaseIndex).1, coilB := (coilPattern c.phaseIndex).2 }

/-- The coils at a grant: energized if they are not, and the hold timer stopped (R10). -/
def Channel.energize (c : Channel) : Channel :=
  if c.energized then { c with holdTimer := 0 } else { c.driven with holdTimer := 0 }

/-- The coils released (R11). -/
def Channel.release (c : Channel) : Channel :=
  { c with energized := false, holdTimer := 0, coilA := 0, coilB := 0 }

/-! ### Segments and grants -/

/-- The distance to an end point counted in a direction of travel. -/
def distanceTo (d : Dir) (position endPoint : Int) : Int :=
  match d with
  | .pos => endPoint - position
  | .neg => position - endPoint

/-- Setting off in a direction: the buffer is loaded for it (R9). -/
def Channel.setOff (c : Channel) (d : Dir) : Channel := { c with dir := d, buffer := nextEntry d c.phaseIndex }

/-- The start of a segment to an end point that differs from the position (R8, R12). -/
def Channel.beginSegment (c : Channel) (seg : Segment) (endPoint : Int) : Channel :=
  let dist := (endPoint - c.position).natAbs
  let peak := peakLevel c.table dist
  { c.setOff (if c.position < endPoint then .pos else .neg) with
    segment := some seg, segEnd := endPoint, peak := peak, ramp := rampBegin c.table peak dist }

/-- The end point of the first segment of a two-segment move, `none` for a move of one segment (R12). -/
def approachPoint (st : Settings) (position target : Int) : Option Int :=
  if st.backlash = 0 then none
  else
    match st.approach with
    | .pos => if target < position then some (max (target - st.backlash) 0) else none
    | .neg => if position < target then some (min (target + st.backlash) st.travel) else none
    | .unset => none

/-- A move ended at its target (R14). The hold timer is restarted when the coils are energized; released coils stay
released. -/
def Channel.moveDone (c : Channel) : Channel :=
  { c with
    state := .idle, target := none, segment := none, lastResult := some .done, ramp := rampOver
    holdTimer := if c.energized then Config.holdTicks else c.holdTimer }

/-- Running the segments of a move from the present position to a target other than it (R12). A move that starts where
the approach would, at T − b for POS, takes none of the two-segment bullets and shows one segment, 1 of 1 (log 50). -/
def Channel.runMove (c : Channel) (target : Int) : Channel :=
  match approachPoint c.settings c.position target with
  | some p => if p = c.position then c.beginSegment .twoOfTwo target else c.beginSegment .oneOfTwo p
  | none => c.beginSegment .oneOfOne target

/-- What became of a grant or a step: the channel goes on, or it is at rest with a result. -/
inductive Progress where
  | running (c : Channel)
  | ended (c : Channel) (e : Ending)
deriving DecidableEq, Repr

/-- Starting or resuming a move to a target, clamped to the soft limits (R12). A move that is already there ends at once
without energizing the coils (R14). -/
def Channel.startMove (c : Channel) (target : Int) : Progress :=
  let t := softClamp c.settings target
  if t = c.position then .ended c.moveDone .done
  else .running (({ c with state := .moving, target := some t }.energize).runMove t)

/-- Starting the BACKOFF phase: positive at level 0, the count from 0 (R21). Its ramp position is CRUISE with 0 left up to
its end (log 54). -/
def Channel.startBackoff (c : Channel) : Channel :=
  { c.setOff .pos with homing := some ⟨.backoff, 0, .running⟩, ramp := ⟨0, 0, .cruise⟩ }

/-- Starting a homing run (R20). -/
def Channel.startHome (c : Channel) : Channel :=
  let c1 := { c with state := .homing, referenced := false, heldHome := false }.energize
  if c.switch.filtered then c1.startBackoff
  else
    { c1.setOff .neg with
      homing := some ⟨.fast, 0, .running⟩, ramp := homingBegin c.table (homingLevelOf c.table) }

/-- The soft limit ahead of a direction (R17). -/
def softAhead (st : Settings) (d : Dir) : Int :=
  match d with
  | .pos => st.softMax
  | .neg => st.softMin

/-- An axis at rest after motion: the coils stay energized and the hold timer starts (R11), and what belongs to the
motion is absent (R16). Its ramp part is DECEL (log 57). -/
def Channel.atRest (c : Channel) (st : AxisState) : Channel :=
  { c with
    state := st, segment := none, jog := none, homing := none, stopCause := none, ramp := rampOver
    holdTimer := Config.holdTicks }

/-- A jog on its soft limit (R18). -/
def Channel.jogDone (c : Channel) : Channel := { c.atRest .idle with lastResult := some .done }

/-- Starting a jog, its level held to the top level (R17). -/
def Channel.startJog (c : Channel) (d : Dir) (level : Nat) : Progress :=
  let l := min level (topLevel c.table)
  let dist := distanceTo d c.position (softAhead c.settings d)
  let c1 := ({ c with state := .jogging, jog := some ⟨d, l⟩ }.energize).setOff d
  if dist ≤ 0 then .ended c1.jogDone .done
  else .running { c1 with peak := l, ramp := rampBegin c.table l dist.toNat }

/-! ### Step events -/

/-- The four actions of a step event but for the ramp position (R9). -/
def Channel.microstep (c : Channel) : Channel :=
  { c with
    coilA := (coilPattern c.buffer).1, coilB := (coilPattern c.buffer).2, phaseIndex := c.buffer
    position :=
      match c.dir with
      | .pos => c.position + 1
      | .neg => c.position - 1
    buffer := nextEntry c.dir c.buffer }

/-- A segment is over: the next segment begins, or the move ends at its target (R13). -/
def Channel.segmentOver (c : Channel) : Progress :=
  match c.target with
  | some t => if t = c.position then .ended c.moveDone .done else .running (c.beginSegment .twoOfTwo t)
  | none => .ended c.moveDone .done

/-- A step event of a MOVING axis (R8, R9, R13). -/
def Channel.moveStep (c : Channel) : Progress :=
  let c1 := c.microstep
  let r := (distanceTo c1.dir c1.position c1.segEnd).toNat
  let rp := rampStep c1.table c1.peak (moveMayClimb c1.table r) r c1.ramp
  let c2 := { c1 with ramp := rp }
  if rp = rampOver then c2.segmentOver else .running c2

/-- The distance of a jog to the soft limit ahead of it. -/
def Channel.jogDistance (c : Channel) : Int := distanceTo c.dir c.position (softAhead c.settings c.dir)

/-- A step event of a JOGGING axis (R9, R17, R18). -/
def Channel.jogStep (c : Channel) : Progress :=
  let c1 := c.microstep
  let r := c1.jogDistance.toNat
  let rp := rampStep c1.table c1.peak (jogMayClimb c1.table r) r c1.ramp
  let c2 := { c1 with ramp := rp }
  if rp = rampOver then .ended c2.jogDone .done else .running c2

/-- A homing run that failed, at rest (R22). -/
def Channel.homeFailed (c : Channel) (why : FailReason) : Channel :=
  { c.atRest .unreferenced with lastResult := some (.failed why) }

/-- A deceleration of the FAST phase that has reached rest: BACKOFF begins, or the run has failed (R20, R22). -/
def Channel.fastOver (c : Channel) (h : Homing) : Progress :=
  match h.run with
  | .slowing => .running c.startBackoff
  | .failing => .ended (c.homeFailed .homeNotFound) (.failed .homeNotFound)
  | .running => .running c

/-- The FAST phase decelerating from the level in progress, as a stop does (R15, R20, R22). -/
def Channel.slowFast (c : Channel) (h : Homing) (run : HomingRun) : Progress :=
  let c1 := { c with homing := some { h with run := run }, ramp := decelFrom c.table c.ramp.level }
  if c.ramp.level = 0 then c1.fastOver { h with run := run } else .running c1

/-- A step event of a HOMING axis (R20 to R22). -/
def Channel.homeStep (c : Channel) : Progress :=
  let c1 := c.microstep
  match c1.homing with
  | none => .running c1
  | some h =>
    match h.phase with
    | .backoff =>
      let c2 := { c1 with homing := some { h with count := h.count + 1 } }
      if Config.backoffLimit ≤ h.count + 1 then .ended (c2.homeFailed .homeStuck) (.failed .homeStuck)
      else .running c2
    | .fast =>
      match h.run with
      | .running =>
        let h1 := { h with count := h.count + 1 }
        let c2 := { c1 with homing := some h1, ramp := homingStep c1.table (homingLevelOf c1.table) c1.ramp }
        if c1.settings.travel + Config.homeExtra ≤ h1.count then c2.slowFast h1 .failing else .running c2
      | .slowing =>
        let rp := decelStep c1.table c1.ramp
        if rp = rampOver then { c1 with ramp := rp }.fastOver h else .running { c1 with ramp := rp }
      | .failing =>
        let rp := decelStep c1.table c1.ramp
        if rp = rampOver then { c1 with ramp := rp }.fastOver h else .running { c1 with ramp := rp }

/-! ### Stops -/

/-- What a STOPPING axis was doing (R16): a jog keeps its jog field, a move its target (R1). -/
def Channel.stoppedKind (c : Channel) : MotionKind :=
  if c.jog.isSome then .jog 0 else if c.target.isSome then .move else .home

/-- How a stop ends (R16): at rest with a result, or HELD. -/
inductive StopEnd where
  | result (c : Channel) (e : Ending)
  | heldOn (c : Channel)
deriving DecidableEq, Repr

/-- A stop whose result is STOPPED (R16). -/
def Channel.stopped (c : Channel) : StopEnd :=
  match c.stoppedKind with
  | .move => .result { c.atRest .idle with target := none, lastResult := some .stopped } .stopped
  | .jog _ => .result { c.atRest .idle with target := none, lastResult := some .stopped } .stopped
  | .home => .result { c.atRest .unreferenced with target := none, lastResult := some .stopped } .stopped

/-- The deceleration of a stop has reached rest (R16). -/
def Channel.stopEnd (c : Channel) : StopEnd :=
  match c.stopCause with
  | some .lost =>
    .result { c.atRest .unreferenced with target := none, lastResult := some (.failed .lost) } (.failed .lost)
  | some .allowance =>
    match c.stoppedKind with
    | .move => .heldOn (c.atRest .held)
    | .home => .heldOn { c.atRest .held with heldHome := true, target := none }
    | .jog _ => c.stopped
  | some .stop => c.stopped
  | some .expiry => c.stopped
  | none => c.stopped

/-- A stop taken by an axis in MOVING, HOMING or JOGGING: it enters STOPPING and runs the levels below the one in
progress (R15, R16). -/
def Channel.stopping (c : Channel) (cause : StopCause) : Channel :=
  { c with state := .stopping, stopCause := some cause, homing := none, ramp := decelFrom c.table c.ramp.level }

/-- A held motion dropped: target absent, held_home no, IDLE if referenced and UNREFERENCED otherwise (R32, R41,
R45). -/
def Channel.dropHeld (c : Channel) : Channel :=
  { c with target := none, heldHome := false, state := if c.referenced then .idle else .unreferenced }

/-- The ending of a held motion is the last on its axis, under the origin of its record (R1; log 41). -/
def Channel.heldEnded (c : Channel) (e : Ending) (m : Option MotionRec) : Channel :=
  { c with lastResult := some e, lastOrigin := (m.map (·.origin)).or c.lastOrigin }

/-! ### Home switch -/

/-- The raw home switch input changes: the edge position is recorded and the stability time started, or the change in
progress is dropped (R19). -/
def Channel.switchChange (c : Channel) (level : Bool) : Channel :=
  if level = c.switch.pin then c
  else if level = c.switch.filtered then { c with switch := { c.switch with pin := level, stable := false } }
  else
    { c with
      switch :=
        { c.switch with
          pin := level, stable := true, edgePos := c.position
          edgeUp := inMotion c.state && decide (c.dir = .pos) } }

/-- The stability time has run out: the change is taken (R19). -/
def Channel.switchTaken (c : Channel) : Channel :=
  { c with switch := { c.switch with filtered := c.switch.pin, stable := false } }

/-- Homing ended at a release: the edge position reads home_offset (R21). -/
def Channel.homed (c : Channel) : Channel :=
  { c.atRest .idle with
    position := c.settings.homeOffset + (c.position - c.switch.edgePos), homeEdge := c.settings.homeOffset
    referenced := true, lastResult := some .done }

/-- The error e of a pass of the home edge (R23). -/
def Channel.edgeError (c : Channel) : Int := c.switch.edgePos - c.homeEdge

/-- Whether a release starts the lost-step check: the raw release came while the axis moved positive, and the axis moves
positive when the release is taken (R23). -/
def Channel.checksEdge (c : Channel) : Bool :=
  c.referenced && c.switch.edgeUp && decide (c.dir = .pos)
    && match c.state with
      | .moving => true
      | .jogging => true
      | .stopping => true
      | .absent => false
      | .unreferenced => false
      | .homing => false
      | .idle => false
      | .held => false

end Sys2Proof.Machine
end

