-- ==== Sys2Proof/Machine/Tracking.lean ====
section
/-! DEFINITION. The focus tracker's record: reference, gain, endings (R167 to R172). Its tick is in Ticks.lean, since it offers moves to the scheduler. -/

namespace Sys2Proof.Machine

/-- A LENS reading is usable when LIVE or HELD (R168). -/
def lensUsable (t : Tracker) : Bool := t.lensStatus = .live || t.lensStatus = .held

/-- T_lens, or absent when the LENS status is SUBSTITUTED or none (R168, R172, R173). -/
def tLensUsable (t : Tracker) : Option Int := if lensUsable t then t.tLens else none

/-- The tracker keeps each LENS reading; a SUBSTITUTED one leaves T_lens (R167). -/
def Tracker.takeReading (t : Tracker) (r : Reading) : Tracker :=
  match r.status with
  | .live => { t with lensStatus := .live, tLens := r.temp }
  | .held => { t with lensStatus := .held, tLens := r.temp }
  | .substituted => { t with lensStatus := .substituted }
  | .unread => t

/-- Re-anchoring at a position: base there, applied 0, T_ref from T_lens (R168, R172, R173). -/
def Tracker.anchor (t : Tracker) (base : Option Int) : Tracker :=
  { t with base := base, applied := 0, tRef := tLensUsable t }

/-- The base taken up from FC as it stands (R168). -/
def fcBase (s : State) : Option Int := if (s.chan .fc).referenced then some (s.chan .fc).position else none

/-- The tracker takes up the reference (R168). -/
def takeUpReference (s : State) : State := s.withTrack (s.track.anchor (fcBase s))

/-- The zoom position q_k (R169). -/
def gainPosition (travel k : Nat) : Nat := k * travel / 4

/-- The k-th gain. -/
def Gains.get (g : Gains) : Nat → Int
  | 0 => g.g0
  | 1 => g.g1
  | 2 => g.g2
  | 3 => g.g3
  | _ => g.g4

/-- Floor interpolation of the gain between q_k and q_(k+1) (R169). -/
def gainBetween (g : Gains) (travel k : Nat) (p : Nat) : Int :=
  g.get k
    + floorDiv ((g.get (k + 1) - g.get k) * ((p : Int) - gainPosition travel k))
        (gainPosition travel (k + 1) - gainPosition travel k)

/-- The gain at a ZM position, which is first taken into 0..travel (R169). -/
def gainAt (g : Gains) (travel : Nat) (position : Int) : Int :=
  let p := (clampInt 0 travel position).toNat
  if travel ≤ p then g.g4
  else if p < gainPosition travel 1 then gainBetween g travel 0 p
  else if p < gainPosition travel 2 then gainBetween g travel 1 p
  else if p < gainPosition travel 3 then gainBetween g travel 2 p
  else gainBetween g travel 3 p

/-- The tracking offset clamped to −limit..+limit (R170, R171). -/
def Tracker.limitClamp (t : Tracker) (x : Int) : Int := clampInt (-(t.limit : Int)) t.limit x

/-- The compensation for a gain and a temperature difference (R170, step 3). -/
def Tracker.compFor (t : Tracker) (gain dT : Int) : Int := t.limitClamp (roundHalfAway (gain * dT) 160)

/-- The ending of a FOCUS_TRACK entry or motion: applied takes the distance moved (R171). -/
def trackEnding (m : MotionRec) (e : Ending) (position : Int) (t : Tracker) : Tracker :=
  match e with
  | .failed .lost => t
  | .done => { t with applied := t.limitClamp (t.applied + if m.ran then position - m.startPos else 0) }
  | .stopped => { t with applied := t.limitClamp (t.applied + if m.ran then position - m.startPos else 0) }
  | .replaced => { t with applied := t.limitClamp (t.applied + if m.ran then position - m.startPos else 0) }
  | .failed .homeNotFound => t
  | .failed .homeStuck => t
  | .failed .settings => t
  | .failed .absent => t

/-- The ending of a user's FC MOVE or HOME re-anchors the record (R172). A DONE move stands at its target (R13). A HOME
that ran and ends STOPPED leaves the record (log 48). -/
def userFocusEnding (m : MotionRec) (e : Ending) (position : Int) (t : Tracker) : Tracker :=
  match m.kind with
  | .move =>
    match e with
    | .done => t.anchor (some position)
    | .stopped => if m.ran then t.anchor (some position) else t
    | .replaced => t
    | .failed _ => t
  | .home =>
    match e with
    | .done => t.anchor (some position)
    | .stopped => t
    | .replaced => t
    | .failed _ => t
  | .jog _ => t

end Sys2Proof.Machine
end

