-- ==== Sys2Proof/Machine/Results.lean ====
section
/-! DEFINITION. Delivering the ending of a motion or entry (R34, R54, R66, R157, R171, R172). -/

namespace Sys2Proof.Machine

/-- The close test of a park: the set is empty and the placing is over (R157). -/
def parkSettle (s : State) : State :=
  if s.phase.park = .running && !s.phase.parkSet.any && !s.phase.parkPlacing then
    s.withPhase { s.phase with park := if s.phase.parkClean then .parked else .incomplete }
  else s

/-- The ending of a PARK entry or motion reaches the phase controller: it is recorded while a park of that number runs
(R157). -/
def parkEnding (a : Axis) (number : Option Byte) (e : Ending) (s : State) : State :=
  if s.phase.park = .running && number = some s.phase.parkNumber then
    parkSettle
      (s.withPhase
        { s.phase with
          parkSet := s.phase.parkSet.set a false, parkClean := s.phase.parkClean && decide (e = .done) })
  else s

/-- A result notice to the port of an origin (R34). -/
def notifyMove (a : Axis) (m : MotionRec) (e : Ending) (s : State) : State :=
  match originPort m.origin with
  | some p => notify p (.move a (m.tag.getD 0) e) s
  | none => s

/-- Whether the result of an entry that completes at once is told by the response alone: a port's entry with no recall
link (R33). -/
inductive Told where
  | byNotice
  | byResponse
deriving DecidableEq, Repr

/-- The destination of R34: the recall context for a linked entry, otherwise by origin. -/
def deliverTo (told : Told) (a : Axis) (m : MotionRec) (e : Ending) (s : State) : State :=
  match m.link with
  | some l => recallEnding a l e s
  | none =>
    match m.origin with
    | .focusTrack => s.withTrack (trackEnding m e (s.chan a).position s.track)
    | .park => parkEnding a m.parkNo e s
    | .system =>
      match told with
      | .byNotice => notifyMove a m e s
      | .byResponse => s
    | .picture =>
      match told with
      | .byNotice => notifyMove a m e s
      | .byResponse => s

/-- The ending of a user's FC motion goes to the tracker as well (R172). -/
def deliverFocus (a : Axis) (m : MotionRec) (e : Ending) (s : State) : State :=
  if a = .fc && (originPort m.origin).isSome then
    s.withTrack (userFocusEnding m e (s.chan a).position s.track)
  else s

/-- Delivering an ending: the shift and memory unit first (R66), then the tracker's copy, then the destination of
R34. -/
def deliver (told : Told) (a : Axis) (m : MotionRec) (e : Ending) (s : State) : State :=
  deliverTo told a m e (deliverFocus a m e (shiftEnding a m e s))

/-- The motion record an entry makes (R28); `ran` says that it has been granted, at `position`. -/
def recordOf (e : Entry) (ran : Bool) (position : Int) : MotionRec :=
  { kind :=
      match e.motion with
      | .move _ => .move
      | .home => .home
      | .jog _ _ keep => .jog keep
    origin := e.origin, tag := e.tag, shift := e.shift, link := e.link, parkNo := e.parkNo, ran := ran,
    startPos := position }

/-- The ending of an entry that was never granted (R54: it ended without running). -/
def deliverEntry (told : Told) (en : Entry) (e : Ending) (s : State) : State :=
  deliver told en.axis (recordOf en false (s.chan en.axis).position) e s

end Sys2Proof.Machine
end

