-- ==== Sys2Proof/Machine/Scheduling.lean ====
section
/-! DEFINITION. The move scheduler: slots, grants, stops, held axes, admission and removal (R27 to R48). -/

namespace Sys2Proof.Machine

/-! ### Slots and allowance -/

/-- The axis a slot is GRANTED to. -/
def Slot.grantee : Slot → Option Axis
  | .granted a => some a
  | .free => none
  | .rundown _ => none

/-- The axis a slot is taken by, GRANTED or RUNDOWN. -/
def Slot.holder : Slot → Option Axis
  | .granted a => some a
  | .free => none
  | .rundown a => some a

/-- A slot FREE again when it is taken by an axis that has come to rest (R29). -/
def Slot.freed (a : Axis) (sl : Slot) : Slot := if sl.holder = some a then .free else sl

/-- A slot RUNDOWN when it was GRANTED to an axis that enters STOPPING (R29). -/
def Slot.runDown (a : Axis) (sl : Slot) : Slot := if sl.grantee = some a then .rundown a else sl

/-- The number of GRANTED slots. -/
def Scheduler.grantedCount (q : Scheduler) : Nat := q.slot1.grantee.isSome.toNat + q.slot2.grantee.isSome.toNat

/-- Whether a slot is FREE. -/
def Scheduler.hasFree (q : Scheduler) : Bool := decide (q.slot1 = .free) || decide (q.slot2 = .free)

/-- A FREE slot becomes GRANTED and the later one (R29); the first slot is taken when both are FREE (log 17). -/
def Scheduler.takeSlot (q : Scheduler) (a : Axis) : Scheduler :=
  if q.slot1 = .free then { q with slot1 := .granted a, later := some .one }
  else { q with slot2 := .granted a, later := some .two }

/-- The slot of an axis at rest becomes FREE (R29). -/
def Scheduler.freeSlot (q : Scheduler) (a : Axis) : Scheduler :=
  { q with slot1 := q.slot1.freed a, slot2 := q.slot2.freed a }

/-- The slot of an axis that enters STOPPING becomes RUNDOWN (R29). -/
def Scheduler.runDownSlot (q : Scheduler) (a : Axis) : Scheduler :=
  { q with slot1 := q.slot1.runDown a, slot2 := q.slot2.runDown a }

/-- The GRANTED axis granted later, or the only one (R29, R40). -/
def Scheduler.laterAxis (q : Scheduler) : Option Axis :=
  match q.later with
  | some .one => q.slot1.grantee.or q.slot2.grantee
  | some .two => q.slot2.grantee.or q.slot1.grantee
  | none => q.slot1.grantee.or q.slot2.grantee

/-- The phase allowance (R35). -/
def phaseAllowance : Phase → Nat
  | .start => 0
  | .fault => 0
  | .dark => 2
  | .warmup => 2
  | .lit => 2
  | .cooldown => 2

/-- The motion allowance (R35). -/
def allowance (s : State) : Nat := min (phaseAllowance s.phase.phase) s.sched.dieAllow

/-- The queued entry of an axis. -/
def Scheduler.entryOf (q : Scheduler) (a : Axis) : Option Entry := q.queue.find? fun e => e.axis = a

/-- The queue without the entry of an axis; the entries behind it move up (R27). -/
def Scheduler.without (q : Scheduler) (a : Axis) : Scheduler :=
  { q with queue := q.queue.filter fun e => e.axis ≠ a }

/-- The queue with the entry of an axis rewritten in its place (R31). -/
def Scheduler.rewrite (q : Scheduler) (en : Entry) : Scheduler :=
  { q with queue := q.queue.map fun e => if e.axis = en.axis then en else e }

/-- An entry joining the tail of the queue (R31). -/
def Scheduler.append (q : Scheduler) (en : Entry) : Scheduler := { q with queue := q.queue ++ [en] }

/-- Writing or discarding the motion record of an axis (R28). -/
def Scheduler.setRecord (q : Scheduler) (a : Axis) (m : Option MotionRec) : Scheduler :=
  { q with records := q.records.set a m }

/-- The held list without an axis (R28). -/
def Scheduler.unheld (q : Scheduler) (a : Axis) : Scheduler := { q with held := q.held.filter fun b => b ≠ a }

/-! ### Endings -/

/-- The motion record of an axis is discarded and its ending delivered (R39, R41). -/
def deliverRecord (a : Axis) (e : Ending) (s : State) : State :=
  match s.sched.records.get a with
  | some m => deliver .byNotice a m e (s.withSched (s.sched.setRecord a none))
  | none => s

/-- An axis has come to rest with a result: its slot becomes FREE and the result is delivered (R39). The grant pass
that follows is its caller's. -/
def endMotion (a : Axis) (c : Channel) (e : Ending) (s : State) : State :=
  let s1 := s.setChan a c
  deliverRecord a e (s1.withSched (s1.sched.freeSlot a))

/-- What a grant or a step leaves: the channel running, or the motion ended. -/
def settleMotion (a : Axis) (p : Progress) (s : State) : State :=
  match p with
  | .running c => s.setChan a c
  | .ended c e => endMotion a c e s

/-! ### Grants -/

/-- The origin a grant writes into the record of the axis (R12, R17, R20). -/
def Channel.from (c : Channel) (o : Origin) : Channel := { c with lastOrigin := some o }

/-- A grant of a queue entry (R38): the entry leaves the queue, a record is made, a slot is GRANTED, the channel starts.
A grant that ends at once frees its slot again. -/
def grantEntry (en : Entry) (s : State) : State :=
  let c := (s.chan en.axis).from en.origin
  let q := ((s.sched.without en.axis).setRecord en.axis (some (recordOf en true c.position))).takeSlot en.axis
  let s1 := s.withSched q
  match en.motion with
  | .move t => settleMotion en.axis (c.startMove t) s1
  | .home => s1.setChan en.axis c.startHome
  | .jog d l _ => settleMotion en.axis (c.startJog d l) s1

/-- A grant to a held axis (R42): it leaves the held list, a slot is GRANTED, the channel resumes. The motion record is
kept. -/
def resume (a : Axis) (s : State) : State :=
  let q := s.sched.unheld a
  match s.sched.records.get a with
  | none => s.withSched q
  | some m =>
    let c := (s.chan a).from m.origin
    let s1 := s.withSched (q.takeSlot a)
    if c.heldHome then s1.setChan a c.startHome
    else
      match c.target with
      | some t => settleMotion a (c.startMove t) s1
      | none => s1

/-- Whether a queue entry is a candidate: its axis is IDLE or UNREFERENCED (R37). -/
def isCandidate (s : State) (en : Entry) : Bool :=
  (s.chan en.axis).state = .idle || (s.chan en.axis).state = .unreferenced

/-- A grant pass with at most `n` grants: held axes from the head of the held list first, then queue entries from the
head (R37). -/
def grantPassN : Nat → State → State
  | 0, s => s
  | n + 1, s =>
    if s.sched.hasFree && decide (s.sched.grantedCount < allowance s) then
      match s.sched.held with
      | a :: _ => grantPassN n (resume a s)
      | [] =>
        match s.sched.queue.find? (isCandidate s) with
        | some en => grantPassN n (grantEntry en s)
        | none => s
    else s

/-- A grant pass (R37). Every grant takes an axis off the held list or an entry off the queue, so there are no more
grants than these hold. -/
def grantPass (s : State) : State := grantPassN (s.sched.held.length + s.sched.queue.length) s

/-! ### Stops and held axes -/

/-- An axis that comes to rest in HELD (R41): its slot is FREE; it joins the held list, or a queued entry drops its held
motion. A grant pass follows. -/
def enterHeld (a : Axis) (c : Channel) (s : State) : State :=
  let s1 := s.setChan a c
  let s2 := s1.withSched (s1.sched.freeSlot a)
  match s2.sched.entryOf a with
  | none => grantPass (s2.withSched { s2.sched with held := s2.sched.held ++ [a] })
  | some _ => grantPass (deliverRecord a .replaced (s2.setChan a (c.dropHeld.heldEnded .replaced (s2.sched.records.get a))))

/-- The deceleration of a stop has reached rest (R16, R39, R41). -/
def finishStop (a : Axis) (s : State) : State :=
  match (s.chan a).stopEnd with
  | .result c e => grantPass (endMotion a c e s)
  | .heldOn c => enterHeld a c s

/-- A stop ordered for an axis in MOVING, HOMING or JOGGING: the slot becomes RUNDOWN, and a stop at level 0 is at rest
at once (R15, R16, R29). -/
def orderStop (a : Axis) (cause : StopCause) (s : State) : State :=
  let c := s.chan a
  let s1 := (s.setChan a (c.stopping cause)).withSched (s.sched.runDownSlot a)
  if c.ramp.level = 0 then finishStop a s1 else s1

/-- Withdrawing one grant, the later first, while there are more than the allowance (R40). -/
def withdrawOne (s : State) : State :=
  if allowance s < s.sched.grantedCount then
    match s.sched.laterAxis with
    | some a => orderStop a .allowance s
    | none => s
  else s

/-- After a change of the allowance from `old`: grants are withdrawn, or a rise gives a grant pass (R35, R37, R40). Two
slots allow two withdrawals. -/
def allowanceChanged (old : Nat) (s : State) : State :=
  if old < allowance s then grantPass s else withdrawOne (withdrawOne s)

/-- A new die allowance (R35, R36). -/
def setDieAllow (n : Nat) (s : State) : State :=
  allowanceChanged (allowance s) (s.withSched { s.sched with dieAllow := n })

/-- A held motion dropped with an ending (R32, R45): the axis leaves the held list and its record is discarded. -/
def dropHeldMotion (a : Axis) (e : Ending) (s : State) : State :=
  let c := (s.chan a).dropHeld.heldEnded e (s.sched.records.get a)
  deliverRecord a e ((s.setChan a c).withSched (s.sched.unheld a))

/-- A queued entry removed with an ending (R43, R45, R46, R47, R157). -/
def removeEntry (en : Entry) (e : Ending) (s : State) : State :=
  deliverEntry .byNotice en e (s.withSched (s.sched.without en.axis))

/-! ### Admission -/

/-- The checks of R30, in order; `none` when all pass. -/
def admissionCheck (s : State) (a : Axis) (m : Motion) (o : Origin) : Option Status :=
  if (s.chan a).state = .absent then some .absent
  else if (originPort o).isSome
      && (s.phase.phase = .start || s.phase.phase = .cooldown || s.phase.phase = .fault) then
    some .wrongPhase
  else if decide (m ≠ .home) && !(s.chan a).referenced then some .notReferenced
  else none

/-- A motion as it is placed: a MOVE target clamped to the soft limits, a JOG of a shift axis inverted in CEILING and its
level held to 11 (R31). -/
def placedMotion (s : State) (a : Axis) (m : Motion) : Motion :=
  match m with
  | .move t => .move (softClamp (s.chan a).settings t)
  | .home => .home
  | .jog d l keep =>
    .jog
      (if isShift a && s.geom.inputs.orientation = .ceiling then
        match d with
        | .pos => .neg
        | .neg => .pos
      else d)
      (min l Config.jogLevelMax) keep

/-- Whether placing a motion moves its target or level, which sets CLAMPED (R31). -/
def placingClamps (s : State) (a : Axis) (m : Motion) : Bool :=
  match m with
  | .move t => decide (softClamp (s.chan a).settings t ≠ t)
  | .home => false
  | .jog _ l _ => decide (Config.jogLevelMax < l)

/-- How an entry was admitted: placed, or completed at once (R30). -/
inductive Admitted where
  | queued
  | atOnce
deriving DecidableEq, Repr

/-- Whether a MOVE completes at once: the axis is IDLE, has no queued entry, and stands at the clamped target (R33). -/
def completesAtOnce (s : State) (en : Entry) : Bool :=
  (s.chan en.axis).state = .idle && (s.sched.entryOf en.axis).isNone
    && decide (en.motion = .move (s.chan en.axis).position)

/-- How a result at once is told: a port's own MOVE by its response, everything else under R34 (R33). A linked entry is
delivered to its context in either case. -/
def completeNow (en : Entry) (s : State) : State :=
  deliverEntry .byResponse en .done (s.setChan en.axis ((s.chan en.axis).from en.origin).moveDone)

/-- A request for a HELD axis acts on the held motion (R32). A replacement in place is a held motion itself, which a STOP
drops as one that ran (R54; log 25). -/
def placeHeld (en : Entry) (s : State) : State :=
  let a := en.axis
  let c := s.chan a
  let replaceWith (c : Channel) : State :=
    let s1 := deliverRecord a .replaced (s.setChan a (c.heldEnded .replaced (s.sched.records.get a)))
    s1.withSched (s1.sched.setRecord a (some (recordOf en true c.position)))
  let dropAndQueue : State :=
    let s1 := dropHeldMotion a .replaced s
    s1.withSched (s1.sched.append en)
  match en.motion with
  | .move t => if c.target.isSome then replaceWith { c with target := some t } else dropAndQueue
  | .home => if c.heldHome then replaceWith c else dropAndQueue
  | .jog _ _ _ => dropAndQueue

/-- Placing an entry whose motion is already as R31 has it. No grant pass is made here. -/
def placeEntry (en : Entry) (s : State) : State × Admitted :=
  match s.sched.entryOf en.axis with
  | some old => (deliverEntry .byNotice old .replaced (s.withSched (s.sched.rewrite en)), .queued)
  | none =>
    if (s.chan en.axis).state = .held then (placeHeld en s, .queued)
    else if completesAtOnce s en then (completeNow en s, .atOnce)
    else (s.withSched (s.sched.append en), .queued)

/-- Admission under R31, without the grant pass: the motion is clamped and inverted, then placed. -/
def admission (en : Entry) (s : State) : State × Admitted :=
  placeEntry { en with motion := placedMotion s en.axis en.motion } s

/-- The reply of an admitted request (R30, R33): OK with the result DONE at once, otherwise QUEUED. -/
def admittedReply (how : Admitted) (clamped : Bool) : Reply :=
  match how with
  | .queued => { status := .queued, clamped := clamped }
  | .atOnce => { status := .ok, clamped := clamped, result := true, data := [.u 1 1] }

/-- A motion request of a port: the checks of R30, admission, and the grant pass (R31). `clamped` says that the demand
was already clamped before admission. -/
def motionRequest (r : Req) (a : Axis) (m : Motion) (shift : Option ShiftPart) (clamped : Bool) (s : State) :
    State × Reply :=
  match admissionCheck s a m (portOrigin r.port) with
  | some st => (s, refuse st)
  | none =>
    let en : Entry :=
      { axis := a, motion := m, origin := portOrigin r.port, tag := some r.tag, shift := shift, link := none,
        parkNo := none }
    let p := admission en s
    (match p.2 with
      | .queued => grantPass p.1
      | .atOnce => p.1,
      admittedReply p.2 (clamped || placingClamps s a m))

/-! ### STOP, jog keep-alive, loss of reference -/

/-- What STOP does to the motion of an axis (R45). -/
def stopMotion (a : Axis) (s : State) : State :=
  let c := s.chan a
  match c.state with
  | .moving => orderStop a .stop s
  | .homing => orderStop a .stop s
  | .jogging => orderStop a .stop s
  | .stopping => if c.stopCause = some .allowance then s.setChan a { c with stopCause := some .stop } else s
  | .held => s
  | .absent => s
  | .unreferenced => s
  | .idle => s

/-- What STOP does to the held motion of an axis (R45). -/
def stopHeld (a : Axis) (s : State) : State :=
  if (s.chan a).state = .held then dropHeldMotion a .stopped s else s

/-- What STOP does to the queued entry of an axis (R45). -/
def stopEntry (a : Axis) (s : State) : State :=
  match s.sched.entryOf a with
  | some en => removeEntry en .stopped s
  | none => s

/-- Whether STOP takes something off the queue or the held list, which a grant pass follows (R45). -/
def stopTakes (l : List Axis) (s : State) : Bool :=
  l.any fun a => (s.sched.entryOf a).isSome || (s.chan a).state = .held

/-- STOP of the axes of a list (R45). Entries and held motions go before any motion is stopped, so that no end of a
motion grants work that the same STOP takes away (log 5). -/
def stopAxes (l : List Axis) (s : State) : State :=
  let s1 := l.foldl (fun s a => stopMotion a s) (l.foldl (fun s a => stopHeld a s) (l.foldl (fun s a => stopEntry a s) s))
  if stopTakes l s then grantPass s1 else s1

/-- A queued entry that an unreferenced axis may not keep is removed, a HOME stays (R46). -/
def loseReference (a : Axis) (why : FailReason) (s : State) : State :=
  match s.sched.entryOf a with
  | some en => if en.motion = .home then s else removeEntry en (.failed why) s
  | none => s

/-- Every queued entry of an axis that has become absent is removed, and a grant pass follows (R47). -/
def becomeAbsent (a : Axis) (s : State) : State :=
  grantPass
    (match s.sched.entryOf a with
    | some en => removeEntry en (.failed .absent) s
    | none => s)

/-- One T32 tick off a keep count above 0 (R43). -/
def keepDown : MotionKind → MotionKind
  | .jog k => .jog (k - 1)
  | .move => .move
  | .home => .home

/-- One T32 tick off the keep count of a queued jog (R43). -/
def entryKeepDown (en : Entry) : Entry :=
  match en.motion with
  | .jog d l k => { en with motion := .jog d l (k - 1) }
  | .move _ => en
  | .home => en

/-- Whether a queued entry is a jog whose keep count stands at `k` or below. -/
def entryExpires (k : Nat) (en : Entry) : Bool :=
  match en.motion with
  | .jog _ _ n => decide (n ≤ k)
  | .move _ => false
  | .home => false

/-- Whether the motion record of a JOGGING axis has a keep count at `k` or below. -/
def recordExpires (k : Nat) (s : State) (a : Axis) : Bool :=
  (s.chan a).state = .jogging
    && match s.sched.records.get a with
      | some m =>
        match m.kind with
        | .jog n => decide (n ≤ k)
        | .move => false
        | .home => false
      | none => false

/-- A queued jog of an axis expires when its keep count is at `k` or below (R43). -/
def expireQueued (k : Nat) (a : Axis) (s : State) : State :=
  match s.sched.entryOf a with
  | some en => if entryExpires k en then removeEntry en .stopped s else s
  | none => s

/-- A running jog of an axis expires when its keep count is at `k` or below (R43). -/
def expireRunning (k : Nat) (a : Axis) (s : State) : State :=
  if recordExpires k s a then orderStop a .expiry s else s

/-- The keep count of the record of a JOGGING axis falls by one (R43). -/
def recordKeepDown (a : Axis) (s : State) : State :=
  if (s.chan a).state = .jogging then
    match s.sched.records.get a with
    | some m => s.withSched (s.sched.setRecord a (some { m with kind := keepDown m.kind }))
    | none => s
  else s

/-- The scheduler's T32 tick: every keep count falls, then the queued jogs at 0 expire, then the running ones (R43;
log 5). -/
def keepTick (s : State) : State :=
  let s1 := allAxes.foldl (fun s a => recordKeepDown a s) (s.withSched { s.sched with queue := s.sched.queue.map entryKeepDown })
  allAxes.foldl (fun s a => expireRunning 0 a s) (allAxes.foldl (fun s a => expireQueued 0 a s) s1)

end Sys2Proof.Machine
end

