-- ==== Sys2Proof/Machine/Phases.lean ====
section
/-! DEFINITION. The phase controller: changes of phase, park, cool-down and warm-up ticks, and what it does with what is
handed to it (R147 to R164). -/

namespace Sys2Proof.Machine

/-! ### Lines and changes of phase -/

/-- The phases with light (R162). -/
def isLight (p : Phase) : Bool := decide (p = .warmup) || decide (p = .lit)

/-- The three output lines follow the phase and the latches (R162 to R164). -/
def followLines (s : State) : State :=
  s.withPhase
    { s.phase with
      lightPermit := isLight s.phase.phase, coolDone := decide (s.phase.phase = .dark)
      faultN := decide (s.phase.phase = .fault) || latched s }

/-- The entry to LIT is handed to the tracker (R148, R168). -/
def handTracker (p : Phase) (s : State) : State := if p = .lit then takeUpReference s else s

/-- A change of phase (R148): the lines follow, PHASE is raised on both ports, and the cooling controller, the tracker
and the scheduler take the new phase. The ramp level is absent outside WARMUP (R147). -/
def setPhase (p : Phase) (why : Reason) (ramp : Option Nat) (s : State) : State :=
  let s1 := followLines (s.withPhase { s.phase with phase := p, reason := why, rampLevel := ramp })
  allowanceChanged (allowance s) (handTracker p (coolRefresh (raiseBoth .phase s1)))

/-- The temperature of Z0 (R147). -/
def z0Temp (s : State) : Option Int := s.cool.zones.z0.temperature

/-- Z0's temperature is present and below a limit (log 36). -/
def z0Below (limit : Int) (s : State) : Bool :=
  match z0Temp s with
  | some t => decide (t < limit)
  | none => false

/-! ### Park -/

/-- The park target of an axis that gets a PARK entry: present, referenced, with a target (R156). -/
def parkTarget (s : State) (a : Axis) : Option Nat :=
  let c := s.chan a
  if c.state ≠ .absent && c.referenced then c.settings.park else none

/-- A PARK entry goes through admission (R156). The checks of R30 pass, since the axis is present and referenced and the
origin is internal. -/
def placePark (a : Axis) (target : Nat) (s : State) : State :=
  (admission
    { axis := a, motion := .move target, origin := .park, tag := none, shift := none, link := none,
      parkNo := some s.phase.parkNumber }
    s).1

/-- The PARK entry of an axis that was to have one (R156). -/
def placeParkOf (targets : PerAxis (Option Nat)) (s : State) (a : Axis) : State :=
  match targets.get a with
  | some t => placePark a t s
  | none => s

/-- The start of a park (R156). -/
def startPark (s : State) : State :=
  let targets : PerAxis (Option Nat) := ⟨parkTarget s .sh, parkTarget s .sv, parkTarget s .zm, parkTarget s .fc⟩
  let s1 :=
    s.withPhase
      { s.phase with
        parkNumber := s.phase.parkNumber + 1, park := .running, parkTimer := 0
        parkSet := ⟨targets.sh.isSome, targets.sv.isSome, targets.zm.isSome, targets.fc.isSome⟩
        parkPlacing := true, parkClean := true }
  let s2 := allAxes.foldl (placeParkOf targets) s1
  grantPass (parkSettle (s2.withPhase { s2.phase with parkPlacing := false }))

/-- A RUNNING park ends PARK_INCOMPLETE and its set is emptied (R157). -/
def endPark (s : State) : State :=
  if s.phase.park = .running then s.withPhase { s.phase with park := .incomplete, parkSet := noAxes } else s

/-- The PARK entry of an axis is removed, and its held PARK motion dropped, as a STOP does (R157). -/
def withdrawPark (s : State) (a : Axis) : State :=
  let s1 :=
    match s.sched.entryOf a with
    | some en => if en.origin = .park then removeEntry en .stopped s else s
    | none => s
  if (s1.chan a).state = .held then
    match s1.sched.records.get a with
    | some m => if m.origin = .park then dropHeldMotion a .stopped s1 else s1
    | none => s1
  else s1

/-- Whether an axis has a queued PARK entry or a held PARK motion. -/
def hasParkWork (s : State) (a : Axis) : Bool :=
  (match s.sched.entryOf a with
    | some en => decide (en.origin = .park)
    | none => false)
  || (decide ((s.chan a).state = .held)
    && match s.sched.records.get a with
      | some m => decide (m.origin = .park)
      | none => false)

/-- The park is ended on leaving COOLDOWN for WARMUP (R157); a grant pass follows a removal (R45). What is left of a
park that timed out goes as well (log 38). -/
def endParkForWarmup (s : State) : State :=
  let s1 := allAxes.foldl withdrawPark (endPark s)
  if allAxes.any (hasParkWork s) then grantPass s1 else s1

/-! ### Entries to the phases -/

/-- Entry to COOLDOWN (R155). -/
def enterCooldown (why : Reason) (s : State) : State :=
  let s1 := setPhase .cooldown why none (s.withPhase { s.phase with coolTimer := 0, restrike := false })
  if isLight s.phase.phase then startPark s1 else s1

/-- Entry to WARMUP (R152). -/
def enterWarmup (s : State) : State :=
  setPhase .warmup .noReason (some Config.rampStart) (s.withPhase { s.phase with rampCount := 0, restrike := false })

/-- Entry to WARMUP from COOLDOWN: restrike pending becomes no and the park is ended first (R150, R158). -/
def restrikeNow (s : State) : State :=
  enterWarmup (endParkForWarmup (s.withPhase { s.phase with restrike := false }))

/-- Entry to FAULT; a cause taken in FAULT changes nothing (R159). -/
def enterFault (why : Reason) (s : State) : State :=
  if s.phase.phase = .fault then s
  else setPhase .fault why none (endPark (s.withPhase { s.phase with restrike := false }))

/-- Entry to DARK (R149, R158). -/
def enterDark (s : State) : State := setPhase .dark .noReason none s

/-! ### Ticks -/

/-- Steps 1 and 2 of a COOLDOWN tick: the timers rise, and the park may time out (R157, R158). -/
def coolTimers (s : State) : State :=
  let p := { s.phase with coolTimer := min (s.phase.coolTimer + 1) Config.coolDownMax }
  if p.park = .running then
    let s1 := s.withPhase { p with parkTimer := p.parkTimer + 1 }
    if Config.parkMax ≤ p.parkTimer + 1 then endPark s1 else s1
  else s.withPhase p

/-- A T2 tick in COOLDOWN (R158). -/
def coolDownTick (s : State) : State :=
  let s1 := coolTimers s
  if s1.phase.restrike && z0Below Config.restrikeTemp s1 then restrikeNow s1
  else if z0Below Config.releaseTemp s1 && decide (s1.phase.park ≠ .running) then enterDark s1
  else if Config.coolDownMax ≤ s1.phase.coolTimer then enterFault .timeout s1
  else s1

/-- A step of the warm-up ramp: the level rises by 10, and LIT is entered at 100 (R152). -/
def rampRiseStep (s : State) : State :=
  let level := s.phase.rampLevel.getD Config.rampStart + Config.rampRise
  let s1 := s.withPhase { s.phase with rampCount := 0, rampLevel := some level }
  if 100 ≤ level then setPhase .lit .noReason none s1 else coolRefresh s1

/-- A T2 tick in WARMUP (R152). -/
def warmupTick (s : State) : State :=
  if Config.rampTicks ≤ s.phase.rampCount + 1 then rampRiseStep s
  else s.withPhase { s.phase with rampCount := s.phase.rampCount + 1 }

/-- The phase controller's T2 tick (R152, R158). -/
def phaseTick (s : State) : State :=
  match s.phase.phase with
  | .warmup => warmupTick s
  | .cooldown => coolDownTick s
  | .start => s
  | .dark => s
  | .lit => s
  | .fault => s

/-! ### What is handed to the phase controller -/

/-- The scan complete event (R149). -/
def scanComplete (s : State) : State :=
  if s.phase.phase = .start then
    if latched s then enterCooldown .trip s
    else
      match z0Temp s with
      | some t => if s.cool.zones.z0.warm ≤ t then enterCooldown .resume s else enterDark s
      | none => enterDark s
  else s

/-- The setting of a trip latch, by phase (R154). FAULT_N follows the latch (R164). -/
def tripInPhase (s : State) : State :=
  let s1 := followLines s
  match s.phase.phase with
  | .start => s1
  | .dark => enterCooldown .trip s1
  | .warmup => enterCooldown .trip s1
  | .lit => enterCooldown .trip s1
  | .cooldown => s1.withPhase { s1.phase with reason := .trip, restrike := false }
  | .fault => s1

/-- A zone state that is CRITICAL, by phase (R153). -/
def criticalHanded (s : State) : State :=
  match s.phase.phase with
  | .warmup => enterCooldown .critical s
  | .lit => enterCooldown .critical s
  | .cooldown => s.withPhase { s.phase with restrike := false }
  | .start => s
  | .dark => s
  | .fault => s

/-- The number of FAILED fans handed (R142, R159, R160): a rise to two or more from below two enters FAULT. -/
def failedHanded (n : Nat) (s : State) : State :=
  let s1 := s.withPhase { s.phase with failedFans := n }
  if s.phase.failedFans < 2 && decide (2 ≤ n) then enterFault .fans s1 else s1

end Sys2Proof.Machine
end

