-- ==== Sys2Proof/Machine/Measurement.lean ====
section
/-! DEFINITION. The measurement unit: conversion (R113 to R117), readings and their users (R118), comparators (R119 to
R122), tach rings (R123). -/

namespace Sys2Proof.Machine

/-! ### Conversion of codes -/

/-- A code is in range (R111). -/
def inRange (code : Nat) : Bool := decide (Config.codeMin ≤ code) && decide (code ≤ Config.codeMax)

/-- A value of a thermistor table. -/
def tableAt (table : List Int) (k : Nat) : Int := table[k]?.getD 0

/-- A thermistor code through a table (R114). -/
def thermTemp (table : List Int) (code : Nat) : Int :=
  tableAt table (code / 256)
    + floorDiv ((tableAt table (code / 256 + 1) - tableAt table (code / 256)) * (code % 256 : Nat) + 128) 256

/-- A DIE code (R114). -/
def dieTemp (code : Nat) : Int := max (((code * 2000 / 4096 : Nat) : Int) - 500) Config.tempMin

/-- Whether a channel converts with table B, with table A, or with no table (R114). -/
def tableOf : Chan → Option Bool
  | .laser => some true
  | .wheel => some true
  | .imager => some false
  | .psu => some false
  | .intake => some false
  | .exhaust => some false
  | .lens => some false
  | .spare => some false
  | .die => none

/-- The temperature of a code on a channel (R114). -/
def tempOf (m : Measure) (ch : Chan) (code : Nat) : Int :=
  match tableOf ch with
  | some true => thermTemp m.tableB code
  | some false => thermTemp m.tableA code
  | none => dieTemp code

/-- The mean of a ring, the fraction dropped (R113). -/
def ringMean (ring : List Nat) : Nat := ring.sum / ring.length

/-- A code joining the tail of a ring of at most four (R113). -/
def ringPush (ring : List Nat) (code : Nat) : List Nat :=
  (if ring.length < Config.ringSize then ring else ring.drop 1) ++ [code]

/-- The channel after the one under conversion (R111). -/
def nextChan : Chan → Chan
  | .laser => .wheel
  | .wheel => .imager
  | .imager => .psu
  | .psu => .intake
  | .intake => .exhaust
  | .exhaust => .lens
  | .lens => .spare
  | .spare => .die
  | .die => .laser

/-! ### Channel records -/

/-- What a conversion or a tick leaves of a channel record, with the reading it delivers. -/
structure Converted where
  chan : ChanRec
  reading : Option Reading
deriving DecidableEq, Repr

/-- A LIVE reading from a ring (R113, R117). -/
def liveFrom (m : Measure) (ch : Chan) (r : ChanRec) : Converted :=
  let t := tempOf m ch (ringMean r.ring)
  { chan := { r with filtered := some t, lastValid := some t, status := .live }, reading := some ⟨.live, some t⟩ }

/-- An in-range code on an OK channel (R113). -/
def okInRange (m : Measure) (ch : Chan) (code : Nat) (r : ChanRec) : Converted :=
  liveFrom m ch { r with ring := ringPush r.ring code, badRun := 0 }

/-- The failure of a channel (R115). -/
def failChannel (r : ChanRec) : Converted :=
  let r1 := { r with failed := true, ring := [], badRun := 0, failureAge := 0 }
  match r.lastValid with
  | some t => { chan := { r1 with status := .held }, reading := some ⟨.held, some t⟩ }
  | none =>
    { chan := { r1 with failureAge := Config.failureAgeMax, status := .substituted }
      reading := some ⟨.substituted, none⟩ }

/-- An out-of-range code on an OK channel (R115). -/
def okOutOfRange (r : ChanRec) : Converted :=
  if Config.ringSize ≤ r.badRun + 1 then failChannel r
  else { chan := { r with badRun := r.badRun + 1 }, reading := none }

/-- A code on a FAILED channel (R117). -/
def failedCode (m : Measure) (ch : Chan) (code : Nat) (r : ChanRec) : Converted :=
  if inRange code then
    let r1 := { r with ring := ringPush r.ring code }
    if Config.ringSize ≤ r1.ring.length then liveFrom m ch { r1 with failed := false, failureAge := 0, badRun := 0 }
    else { chan := r1, reading := none }
  else { chan := { r with ring := [] }, reading := none }

/-- A conversion complete event on a channel record (R113, R115, R117). -/
def convert (m : Measure) (ch : Chan) (code : Nat) (r : ChanRec) : Converted :=
  let r1 := { r with lastCode := some code }
  if r.failed then failedCode m ch code r1
  else if inRange code then okInRange m ch code r1
  else okOutOfRange r1

/-- One T2 tick of a channel record (R116). -/
def ChanRec.ageTick (r : ChanRec) : Converted :=
  if r.failed && decide (r.failureAge < Config.failureAgeMax) then
    if Config.failureAgeMax ≤ r.failureAge + 1 then
      { chan := { r with failureAge := r.failureAge + 1, status := .substituted }
        reading := some ⟨.substituted, r.lastValid⟩ }
    else { chan := { r with failureAge := r.failureAge + 1 }, reading := none }
  else { chan := r, reading := none }

/-! ### Delivery of readings -/

/-- The cooling controller takes a reading: it is kept, and the zones of the channel are formed again (R127). -/
def coolReading (ch : Chan) (r : Reading) (s : State) : State :=
  let readings := s.cool.readings.set ch r
  let zones := s.cool.zones.map fun z => if z.members.get ch then z.formed readings else z
  coolRefresh (s.withCool { s.cool with readings := readings, zones := zones })

/-- The die allowance for a DIE temperature, given the old one (R36). -/
def dieAllowFor (old : Nat) (t : Int) : Nat :=
  if t < 950 then 2
  else if t < 1000 then if old = 2 then 2 else 1
  else if t < 1100 then 1
  else if t < 1150 then if old = 0 then 0 else 1
  else 0

/-- The die allowance for a DIE reading (R36). After a substitution the next temperature finds 1; a channel that recovers
while it is only HELD finds the allowance as it stands (log 51). -/
def dieAllowOf (old : Nat) (r : Reading) : Nat :=
  match r.status with
  | .substituted => 1
  | .live => match r.temp with
    | some t => dieAllowFor old t
    | none => old
  | .held => match r.temp with
    | some t => dieAllowFor old t
    | none => old
  | .unread => old

/-- A reading is handed to the blocks that take the channel (R118). -/
def deliverReading (ch : Chan) (r : Reading) (s : State) : State :=
  let s1 := coolReading ch r s
  match ch with
  | .die => setDieAllow (dieAllowOf s1.sched.dieAllow r) s1
  | .lens => s1.withTrack (s1.track.takeReading r)
  | .laser => s1
  | .wheel => s1
  | .imager => s1
  | .psu => s1
  | .intake => s1
  | .exhaust => s1
  | .spare => s1

/-- Writing a channel record, and delivering its reading if it has one. -/
def takeConverted (ch : Chan) (x : Converted) (s : State) : State :=
  let s1 := s.withMeas { s.meas with chans := s.meas.chans.set ch x.chan }
  match x.reading with
  | some r => deliverReading ch r s1
  | none => s1

/-- A channel is settled: it has delivered a reading since the last device reset (R118). -/
def ChanRec.settled (r : ChanRec) : Bool := decide (r.status ≠ .unread)

/-- The check at the end of a pass (R118): the scan complete event is given once. -/
def passEnd (s : State) : State :=
  if !s.meas.scanGiven && (allChans.all fun ch => (s.meas.chans.get ch).settled) then
    scanComplete (s.withMeas { s.meas with scanGiven := true })
  else s

/-- A conversion complete event of the channel under conversion (R111). A pass ends with DIE. -/
def conversionComplete (code : Nat) (s : State) : State :=
  let ch := s.meas.scan
  let s1 :=
    takeConverted ch (convert s.meas ch code (s.meas.chans.get ch)) (s.withMeas { s.meas with scan := nextChan ch })
  if ch = .die then passEnd s1 else s1

/-- The measurement unit's T2 tick on one channel (R116). -/
def ageChannel (s : State) (ch : Chan) : State := takeConverted ch (s.meas.chans.get ch).ageTick s

/-- The measurement unit's T2 tick (R116). -/
def ageChannels (s : State) : State := allChans.foldl ageChannel s

/-- The tenth tick of a FAILED channel, taken by itself (log 3). -/
def sensorSubstitution (ch : Chan) (s : State) : State :=
  if (s.meas.chans.get ch).failureAge + 1 = Config.failureAgeMax then ageChannel s ch else s

/-! ### Trip comparators -/

/-- A comparator by name. -/
def Measure.comp (m : Measure) (c : Comp) : Comparator :=
  match c with
  | .laser => m.laser
  | .wheel => m.wheel

/-- Writing a comparator. -/
def Measure.setComp (m : Measure) (c : Comp) (x : Comparator) : Measure :=
  match c with
  | .laser => { m with laser := x }
  | .wheel => { m with wheel := x }

/-- The comparator compares: active follows the input, and a change starts or stops the persistence time (R119). -/
def Comparator.compare (x : Comparator) : Comparator :=
  let hot := decide (x.level < 256 * x.k)
  if hot = x.active then x else { x with active := hot, running := hot }

/-- The persistence time reaches 2 ms: with the latch clear it sets, TRIP is raised on both ports and the setting is
handed on (R119, R120). With no time running nothing is reached (log 27). -/
def tripLatchSet (c : Comp) (s : State) : State :=
  let x := s.meas.comp c
  if x.running && !x.latch then
    coolRefresh (tripInPhase (raiseBoth .trip (s.withMeas (s.meas.setComp c { x with latch := true }))))
  else s

/-- The clearing of latches is handed on: FAULT_N and the fan targets follow (R121, R135, R164). -/
def tripCleared (s : State) : State := coolRefresh (followLines s)

/-! ### Tach rings -/

/-- A tach pulse (R123). -/
def Tach.pulse (t : Tach) : Tach := { t with accumulator := min (t.accumulator + 1) Config.tachMax }

/-- The speed a ring gives (R123). -/
def rpmOf (buckets : List Nat) : Nat := buckets.sum * Config.rpmPerPulse

/-- The T8 tick of a tach ring (R123). -/
def Tach.shift (t : Tach) : Tach :=
  let buckets := t.buckets.drop 1 ++ [t.accumulator]
  { accumulator := 0, buckets := buckets, rpm := rpmOf buckets }

/-- The rpm handed to a fan; an absent fan ignores it (R123; log 31). -/
def FanRec.takeRpm (f : FanRec) (rpm : Nat) : FanRec := if f.present then { f with reading := rpm } else f

/-- The measurement unit's T8 tick: every ring shifts and its rpm is handed to the cooling controller (R123). -/
def tachTick (s : State) : State :=
  let tach := s.meas.tach.map Tach.shift
  (s.withMeas { s.meas with tach := tach }).withCool
    { s.cool with
      fans :=
        ⟨s.cool.fans.f0.takeRpm tach.f0.rpm, s.cool.fans.f1.takeRpm tach.f1.rpm, s.cool.fans.f2.takeRpm tach.f2.rpm,
          s.cool.fans.f3.takeRpm tach.f3.rpm⟩ }

end Sys2Proof.Machine
end

