-- ==== Sys2Proof/Machine/Responses.lean ====
section
/-! DEFINITION. The codes and data of the responses (R190, 11.3), the bytes of a response frame, and read transactions
(R179). Widths and counts that R190 leaves open are log 12. -/

namespace Sys2Proof.Machine

/-! ### Field codes -/

def statusCode : Status → Nat
  | .ok => 0
  | .queued => 1
  | .busy => 2
  | .denied => 4
  | .range => 5
  | .notReferenced => 6
  | .absent => 7
  | .wrongPhase => 8
  | .empty => 9
  | .notJogging => 10
  | .faulted => 11
  | .badRequest => 12
  | .nothing => 13

def axisCode : Axis → Nat
  | .sh => 0
  | .sv => 1
  | .zm => 2
  | .fc => 3

def axisStateCode : AxisState → Nat
  | .absent => 0
  | .unreferenced => 1
  | .homing => 2
  | .idle => 3
  | .moving => 4
  | .jogging => 5
  | .stopping => 6
  | .held => 7

def segmentCode : Option Segment → Nat
  | none => 0
  | some .oneOfOne => 1
  | some .oneOfTwo => 2
  | some .twoOfTwo => 3

def dirCode : Dir → Nat
  | .pos => 0
  | .neg => 1

def approachCode : Approach → Nat
  | .pos => 0
  | .neg => 1
  | .unset => 2

/-- An ending code, 0 for none (11.3). -/
def endingCode : Option Ending → Nat
  | none => 0
  | some .done => 1
  | some .stopped => 2
  | some .replaced => 3
  | some (.failed .lost) => 4
  | some (.failed .homeNotFound) => 5
  | some (.failed .homeStuck) => 6
  | some (.failed .settings) => 7
  | some (.failed .absent) => 8

def originCode : Option Origin → Nat
  | some .system => 0
  | some .picture => 1
  | some .focusTrack => 2
  | some .park => 3
  | none => 255

def motionCode : Motion → Nat
  | .move _ => 0
  | .home => 1
  | .jog _ _ _ => 2

def recordKindCode : MotionKind → Nat
  | .move => 0
  | .home => 1
  | .jog _ => 2

def slotStateCode : Slot → Nat
  | .free => 0
  | .granted _ => 1
  | .rundown _ => 2

/-- The axis of a slot, 255 when it is FREE (R49; codes: log 44). -/
def slotAxisCode (sl : Slot) : Nat :=
  match sl.holder with
  | some a => axisCode a
  | none => 255

def writeKindCode : Option WriteKind → Nat
  | some .store => 0
  | some .erase => 1
  | none => 255

def orientationCode : Orientation → Nat
  | .floor => 0
  | .ceiling => 1

def engineCode : EngineState → Nat
  | .idle => 0
  | .computing => 1
  | .swapPending => 2

def bankStateCode : BankState → Nat
  | .invalid => 0
  | .filling => 1
  | .valid => 2

def bankCode : Option BankName → Nat
  | some .a => 0
  | some .b => 1
  | none => 255

def modeCode : StreamMode → Nat
  | .off => 0
  | .frame => 1
  | .band => 2

def activityCode : Activity → Nat
  | .idle => 0
  | .header => 1
  | .points => 2
  | .row => 3

def overrunCode : Overrun → Nat
  | .never => 0
  | .frame => 1
  | .band => 2

def readStatusCode : ReadStatus → Nat
  | .unread => 0
  | .live => 1
  | .held => 2
  | .substituted => 3

def zoneStateCode : ZoneState → Nat
  | .normal => 0
  | .warm => 1
  | .hot => 2
  | .critical => 3

def fanStateCode : FanState → Nat
  | .ok => 0
  | .suspect => 1
  | .failed => 2

def phaseCode : Phase → Nat
  | .start => 0
  | .dark => 1
  | .warmup => 2
  | .lit => 3
  | .cooldown => 4
  | .fault => 5

def reasonCode : Reason → Nat
  | .noReason => 0
  | .off => 1
  | .trip => 2
  | .critical => 3
  | .resume => 4
  | .fans => 5
  | .timeout => 6

def parkCode : Park → Nat
  | .never => 0
  | .running => 1
  | .parked => 2
  | .incomplete => 3

def actionCode : TrackAction → Nat
  | .never => 0
  | .placed => 1
  | .deadband => 2
  | .busy => 3
  | .limit => 4

def causeCode : ResetCause → Nat
  | .power => 0
  | .pin => 1
  | .soft => 2

def picCauseCode : PicResetCause → Nat
  | .never => 0
  | .presentLow => 1
  | .resync => 2

def portCode : Port → Nat
  | .system => 0
  | .picture => 1

def unitCode : UnitMode → Nat
  | .steps => 1
  | .permille => 2

def recallOutcomeCode : RecallOutcome → Nat
  | .complete => 0
  | .partly => 1
  | .superseded => 2

def axisSetBits (q : PerAxis Bool) : Nat := q.sh.toNat + 2 * q.sv.toNat + 4 * q.zm.toNat + 8 * q.fc.toNat

def zoneSetBits (q : PerZone Bool) : Nat := q.z0.toNat + 2 * q.z1.toNat + 4 * q.z2.toNat + 8 * q.z3.toNat

def chanSetBits (q : PerChan Bool) : Nat :=
  q.laser.toNat + 2 * q.wheel.toNat + 4 * q.imager.toNat + 8 * q.psu.toNat + 16 * q.intake.toNat + 32 * q.exhaust.toNat
    + 64 * q.lens.toNat + 128 * q.spare.toNat + 256 * q.die.toNat

/-! ### Fields -/

def u1 (v : Nat) : Field := .u 1 v
def u2 (v : Nat) : Field := .u 2 v
def s2 (v : Int) : Field := .s 2 v
def s4 (v : Int) : Field := .s 4 v

/-- A yes or no field, or the level of a line. -/
def yn (b : Bool) : Field := .u 1 b.toNat

/-- An unsigned field that may be absent: the largest value of its width stands for absent (R190). -/
def optU (width : Nat) (v : Option Nat) : Field := .u width (v.getD (256 ^ width - 1))

/-- A signed field that may be absent: the most negative value of its width stands for absent (R190). -/
def optS (width : Nat) (v : Option Int) : Field := .s width (v.getD (-((256 ^ width / 2 : Nat) : Int)))

/-- The bytes of a field, least significant first (R190). -/
def fieldBytes : Field → List Byte
  | .u w v => natBytes w v
  | .s w v => natBytes w (intNat w v)

/-! ### Response frames -/

/-- The response flags byte (R190). -/
def responseFlags (r : Response) : Nat := r.clamped.toNat + 2 * r.result.toNat + 4 * r.events.toNat

/-- The bytes of the data of a response. -/
def dataBytes (l : List Field) : List Byte := l.flatMap fieldBytes

/-- The bytes of a response frame (R190). -/
def responseBytes (r : Response) : List Byte :=
  natBytes 2 (5 + (dataBytes r.data).length)
    ++ [BitVec.ofNat 8 (statusCode r.status), r.tag, BitVec.ofNat 8 (responseFlags r)] ++ dataBytes r.data

/-- The NONE response (R179). -/
def noneResponse : Response :=
  { status := .nothing, tag := 0, clamped := false, result := false, events := false, data := [] }

/-- The first `n` bytes a read drives: the response, then zeros (R176, R177). -/
def drivenBytes (r : Response) (n : Nat) : List Byte :=
  (responseBytes r).take n ++ List.replicate (n - (responseBytes r).length) 0

/-- A read transaction of `n` bytes: an unread response read to its last byte has been read (R179). -/
def PortRec.read (p : PortRec) (n : Nat) : PortRec :=
  match p.unread with
  | none => { p with lastRead := drivenBytes noneResponse n }
  | some r =>
    { p with
      lastRead := drivenBytes r n
      unread := if (responseBytes r).length ≤ n then none else some r }

/-- The bytes of the response that a read transaction finds (R179). -/
def PortRec.response (p : PortRec) : List Byte := responseBytes (p.unread.getD noneResponse)

/-- The byte that SDO carries at a place of a transaction with this first byte on SDI: 0 all through a request, and in a
read the response from the second byte on, then zeros (R177). The first byte of a read carries 0 too (log 52). -/
def sdoByte (p : PortRec) (first : Byte) : Nat → Byte
  | 0 => 0
  | k + 1 => if first = 0 then p.response[k]?.getD 0 else 0

/-- SDO at the `n`-th bit of a transaction, the most significant bit of each byte first: bit 0 from the fall of CS_N, each
later one from a falling edge of SCK. It is idle, `none`, while the picture port takes no transaction (R177). -/
def sdoBit (s : State) (first : Byte) (n : Nat) : Option Bool :=
  if portTakes s .picture then some ((sdoByte s.picPort first (n / 8)).getMsbD (n % 8)) else none

/-! ### General data -/

/-- GET_IDENT (R181; widths: log 12). -/
def identData (s : State) (p : Port) : List Field :=
  [u2 Config.partCode, u1 Config.revision, yn s.addrStrap, u1 (portCode p)]

/-- The generation of the live bank, absent when there is none. -/
def liveGeneration (s : State) : Option Nat := s.banks.live.map fun n => (s.banks.get n).generation.toNat

/-- GET_STATUS (R187). -/
def statusData (s : State) (p : Port) : List Field :=
  let r := s.port p
  [u1 (causeCode s.resetCause), u1 (phaseCode s.phase.phase), u1 (reasonCode s.phase.reason), yn s.phase.lightPermit,
    yn s.phase.coolDone, yn s.phase.faultN, yn s.meas.laser.latch, yn s.meas.wheel.latch, u1 (allowance s),
    yn s.presence.present, u1 s.presence.resetCount.toNat, u1 (picCauseCode s.presence.lastCause),
    u1 (modeCode s.stream.mode), u1 (bankCode s.banks.live), optU 2 (liveGeneration s), u1 (engineCode s.geom.engine),
    u2 r.flags.toNat, u2 r.mask.toNat, u1 (unitCode r.unit), u1 r.notices.length, yn r.lost]

/-- A notice of READ_EVENTS, before its zeros (11.3). -/
def noticeFields : Notice → List Field
  | .move a tag e => [u1 1, u1 (axisCode a), u1 tag.toNat, u1 (endingCode (some e))]
  | .recalled slot tag o applied e =>
    [u1 2, u1 slot.toNat, u1 tag.toNat, u1 (recallOutcomeCode o), yn applied, u1 (endingCode e.sh), u1 (endingCode e.sv),
      u1 (endingCode e.zm), u1 (endingCode e.fc)]
  | .store slot tag k => [u1 3, u1 slot, u1 tag.toNat, u1 (writeKindCode (some k))]

/-- A notice as ten bytes (11.3). -/
def noticeData (n : Notice) : List Field := noticeFields n ++ List.replicate (10 - (noticeFields n).length) (u1 0)

/-- READ_EVENTS (R185, 11.3). -/
def eventsData (r : PortRec) : List Field :=
  [u2 r.flags.toNat, yn r.lost, u1 (r.notices.drop Config.noticesRead).length,
      u1 (r.notices.take Config.noticesRead).length]
    ++ (r.notices.take Config.noticesRead).flatMap noticeData

/-! ### Motion data -/

/-- The settings set (R4). -/
def settingsData (c : Channel) : List Field :=
  let st := c.settings
  [yn st.present, u2 st.travel, u2 st.softMin, u2 st.softMax, u2 st.homeOffset, u1 st.tolerance, u1 st.backlash,
    u1 (approachCode st.approach), optU 2 st.park, u2 st.centre, u2 st.k]

/-- The ramp table (R7): a level count, then each level. -/
def rampData (t : List RampLevel) : List Field := u1 t.length :: t.flatMap fun l => [u2 l.interval, u1 l.length]

/-- A position in the unit of a request (R183). -/
def positionIn (u : UnitMode) (a : Axis) (c : Channel) (o : Orientation) (position : Int) : Int :=
  match u with
  | .steps => position
  | .permille => permilleOf a c.settings o position

/-- GET_AXIS (R6). -/
def axisData (s : State) (a : Axis) (u : UnitMode) : List Field :=
  let c := s.chan a
  let o := s.geom.inputs.orientation
  settingsData c ++ rampData c.table
    ++ [u1 (axisStateCode c.state), s4 (positionIn u a c o c.position), yn c.referenced,
      optS 4 (c.target.map (positionIn u a c o)), yn c.heldHome, u1 (segmentCode c.segment), u1 c.ramp.level,
      yn c.energized, s4 c.homeEdge, u1 (endingCode c.lastResult), u1 (originCode c.lastOrigin)]

/-- Which GRANTED slot is the later (R29, R49): 0 or 1, 255 for none, a lone one being the later (codes: log 44). -/
def laterCode (q : Scheduler) : Nat :=
  match q.slot1.grantee, q.slot2.grantee with
  | none, none => 255
  | some _, none => 0
  | none, some _ => 1
  | some _, some _ => if q.later = some .two then 1 else 0

/-- A place of the held list (R49). -/
def heldData (s : State) (a : Axis) : List Field :=
  match s.sched.records.get a with
  | some m =>
    [u1 (axisCode a), u1 (recordKindCode m.kind), u1 (originCode (some m.origin)), optU 1 (m.tag.map (·.toNat))]
  | none => [u1 (axisCode a), u1 0, u1 255, u1 255]

/-- What a queue entry has of its kind (R49). -/
def motionData (s : State) (a : Axis) (u : UnitMode) : Motion → List Field
  | .move t => [s4 (positionIn u a (s.chan a) s.geom.inputs.orientation t)]
  | .home => []
  | .jog d l k => [u1 (dirCode d), u1 l, u1 k]

/-- A queue entry (R49). -/
def entryData (s : State) (u : UnitMode) (en : Entry) : List Field :=
  [u1 (motionCode en.motion), u1 (axisCode en.axis), u1 (originCode (some en.origin)), optU 1 (en.tag.map (·.toNat))]
    ++ motionData s en.axis u en.motion ++ [yn en.shift.isSome, yn en.link.isSome]

/-- GET_QUEUE (R49). -/
def queueData (s : State) (u : UnitMode) : List Field :=
  [u1 (allowance s), u1 (phaseAllowance s.phase.phase), u1 s.sched.dieAllow, u1 (slotStateCode s.sched.slot1),
      u1 (slotAxisCode s.sched.slot1), u1 (slotStateCode s.sched.slot2), u1 (slotAxisCode s.sched.slot2),
      u1 (laterCode s.sched), u1 s.sched.held.length]
    ++ s.sched.held.flatMap (heldData s) ++ [u1 s.sched.queue.length] ++ s.sched.queue.flatMap (entryData s u)

/-- The shift excess and demand carried by the queued entry of an axis, or by its motion record (R57). The queued
entry's is returned when both carry one (log 45). -/
def carriedShift (s : State) (a : Axis) : Option ShiftPart :=
  ((s.sched.entryOf a).bind (·.shift)).or ((s.sched.records.get a).bind (·.shift))

/-- One axis of GET_SHIFT (R57). -/
def shiftAxisData (s : State) (a : Axis) (d : DemandRec) : List Field :=
  let p := carriedShift s a
  [u1 (axisStateCode (s.chan a).state), s2 d.demand, s2 d.excess, yn d.current, s2 (positionPermille s a),
    optS 2 (p.map (·.excess)), optS 2 (p.map (·.demand))]

/-- GET_SHIFT (R57). -/
def shiftData (s : State) : List Field := shiftAxisData s .sh s.shift.sh ++ shiftAxisData s .sv s.shift.sv

/-- GET_MEMORY (R58, R63). An EMPTY record holds no other fields; they are sent as absent. -/
def memoryData (m : Memories) (slot : Nat) : List Field :=
  let p := memoryImage m slot
  let writing := m.job.filter fun j => decide (j.slot = slot)
  [yn p.isSome, optS 4 (p.bind (·.position.sh)), optS 4 (p.bind (·.position.sv)), optS 4 (p.bind (·.position.zm)),
    optS 4 (p.bind (·.position.fc)), optS 2 (p.bind (·.demandSh)), optS 2 (p.bind (·.demandSv)), optS 2 (p.map (·.kv)),
    optS 2 (p.map (·.kh)), yn writing.isSome, u1 (writeKindCode (writing.map (·.kind)))]

/-! ### Geometry and stream data -/

/-- The geometry inputs record (R70). -/
def inputsData (i : Inputs) : List Field :=
  [s2 i.kv, s2 i.kh, s2 i.excessH, s2 i.excessV, u1 (orientationCode i.orientation), u2 i.w, u2 i.h, u1 i.g,
    yn i.keystoneClamped, yn i.shiftClamped]

/-- A point, as in a point word (R191). -/
def pointData (p : Point) : List Field := [u2 p.x.toNat, u2 p.y.toNat]

/-- The result summary, or the mark that there is none (R76, R90; widths: log 12). -/
def summaryData : Option Summary → List Field
  | none => [u1 0]
  | some r =>
    [u1 1] ++ pointData r.corners.tl ++ pointData r.corners.tr ++ pointData r.corners.bl ++ pointData r.corners.br
      ++ [s2 r.dxPx, s2 r.dyPx, .u 4 r.s16.toNat, yn r.shiftClamped] ++ inputsData r.snapshot

/-- GET_GEOMETRY (R90). -/
def geometryData (s : State) : List Field :=
  inputsData s.geom.inputs ++ [u1 (engineCode s.geom.engine), yn s.geom.restart, u1 (bankCode s.geom.bank)]
    ++ summaryData s.geom.summary ++ [u1 (bankCode s.banks.live), optU 2 (liveGeneration s)]

/-- READ_GRID of a row of a bank (R107). -/
def gridData (n : BankName) (b : Bank) (row : Nat) : List Field :=
  [u1 (bankCode (some n)), u2 b.generation.toNat, u2 b.w, u2 b.h, u1 b.g, yn b.keystoneClamped, yn b.shiftClamped,
      u1 row]
    ++ ((b.points.drop (row * b.g)).take b.g).flatMap pointData

/-- A bank header (R91). -/
def bankData (b : Bank) : List Field :=
  [u1 (bankStateCode b.state), u2 b.generation.toNat, u2 b.w, u2 b.h, u1 b.g, yn b.keystoneClamped, yn b.shiftClamped]

/-- GET_STREAM (R108). -/
def streamData (s : State) : List Field :=
  let st := s.stream
  [yn s.presence.present, u1 (modeCode st.mode), u1 (activityCode st.activity), u1 (bankCode st.frameBank),
      u2 st.frameGen.toNat, u2 st.wordCount, u1 st.rowPtr, yn st.bandPending, u1 (overrunCode st.lastOverrun),
      u1 (bankCode s.banks.live)]
    ++ bankData s.banks.a ++ bankData s.banks.b

/-! ### Thermal data -/

/-- The table a channel uses: A 0, B 1 (R124), and 255 for DIE, which uses none (log 44). -/
def tableCode (ch : Chan) : Nat :=
  match tableOf ch with
  | some false => 0
  | some true => 1
  | none => 255

/-- One channel of GET_SENSORS (R124). -/
def chanData (m : Measure) (ch : Chan) : List Field :=
  let r := m.chans.get ch
  [yn r.failed, u1 r.ring.length] ++ r.ring.map u2
    ++ [u1 r.badRun, optS 2 r.filtered, optS 2 r.lastValid, u1 r.failureAge, u1 (readStatusCode r.status),
      optU 2 r.lastCode, u1 (tableCode ch)]

/-- A comparator (R124). -/
def compData (x : Comparator) : List Field := [u1 x.k, yn x.active, yn x.running, yn x.latch]

/-- A tach ring (R124). -/
def tachData (t : Tach) : List Field := t.buckets.map u1 ++ [u1 t.accumulator, u2 t.rpm]

/-- GET_SENSORS (R124). -/
def sensorsData (s : State) : List Field :=
  let m := s.meas
  [u1 s.divider.toNat] ++ allChans.flatMap (chanData m) ++ [yn m.scanGiven] ++ compData m.laser ++ compData m.wheel
    ++ tachData m.tach.f0 ++ tachData m.tach.f1 ++ tachData m.tach.f2 ++ tachData m.tach.f3

/-- GET_THERM_TABLE (R124). -/
def tableData (t : List Int) : List Field := t.map s2

/-- A zone (R145). -/
def zoneData (z : ZoneRec) : List Field :=
  [u2 (chanSetBits z.members), s2 z.warm, s2 z.hot, s2 z.crit, u1 z.derate, optS 2 z.temperature,
    u1 (zoneStateCode z.state), u1 z.age]

/-- A fan, and whether it is forced (R145). -/
def fanData (s : State) (f : Fan) : List Field :=
  let r := s.cool.fans.get f
  [yn r.present, u1 (zoneSetBits r.served), u1 r.minDuty, u2 r.rpmMin, u2 r.rpmMax, u1 r.target, u1 r.commanded,
    u1 (fanStateCode r.state), u1 r.strikes, u1 r.goodRun, u1 r.grace, u2 r.reading, yn (forced s f)]

/-- GET_THERMAL (R145). Each derate has its place, absent when it is not in force. -/
def thermalData (s : State) : List Field :=
  let q := s.cool
  allZones.flatMap (fun z => zoneData (q.zones.get z)) ++ [u1 (orientationCode s.geom.inputs.orientation)]
    ++ allFans.flatMap (fanData s) ++ [yn q.quietOn, u1 q.quietCap, u1 q.quietLevel, yn (quietSuspended s), u1 q.lightCap]
    ++ (derates s).map (optU 1) ++ [yn s.phase.lightPermit]

/-- GET_CURVE (R145). -/
def curveData (l : List CurvePoint) : List Field := l.flatMap fun p => [s2 p.t, u1 p.d]

/-! ### Light and tracking data -/

/-- GET_PHASE (R165). -/
def phaseData (s : State) : List Field :=
  let p := s.phase
  [u1 (phaseCode p.phase), u1 (reasonCode p.reason), u2 p.coolTimer, yn p.restrike, optU 1 p.rampLevel, u1 p.rampCount,
    u1 p.failedFans, u1 (parkCode p.park), u1 (axisSetBits p.parkSet), u1 p.parkTimer, yn p.lightPermit, yn p.coolDone,
    yn p.faultN, yn s.meas.laser.latch, yn s.meas.wheel.latch]

/-- Whether a FOCUS_TRACK entry or motion is in the scheduler (R173). -/
def trackInScheduler (s : State) : Bool :=
  (match s.sched.entryOf .fc with
    | some en => decide (en.origin = .focusTrack)
    | none => false)
  || match s.sched.records.get .fc with
    | some m => decide (m.origin = .focusTrack)
    | none => false

/-- GET_TRACKING (R173; widths: log 12). -/
def trackingData (s : State) : List Field :=
  let t := s.track
  [optS 4 t.base, s2 t.applied, optS 2 t.tRef, s2 t.gains.g0, s2 t.gains.g1, s2 t.gains.g2, s2 t.gains.g3, s2 t.gains.g4,
    u2 t.limit, u1 t.deadband, yn t.active, optS 2 t.comp, u1 (actionCode t.lastAction), optS 2 t.tLens,
    u1 (readStatusCode t.lensStatus), optS 2 t.gainUsed, optS 4 t.zmUsed, yn (trackInScheduler s)]

end Sys2Proof.Machine
end

