-- ==== Sys2Proof/Machine/General.lean ====
section
/-! DEFINITION. The meanings of the general requests, port transactions and resets (R176 to R189). -/

namespace Sys2Proof.Machine

/-- GET_IDENT (R181). -/
def execGetIdent (r : Req) (s : State) : Host.Outcome State Fault Refusal :=
  reading r s fun s => dataReply (identData s r.port)

/-- GET_STATUS (R187). -/
def execGetStatus (r : Req) (s : State) : Host.Outcome State Fault Refusal :=
  reading r s fun s => dataReply (statusData s r.port)

/-- READ_EVENTS (R185). -/
def execReadEvents (r : Req) (s : State) : Host.Outcome State Fault Refusal :=
  request r .bothPorts s fun s =>
    (s.setPort r.port (s.port r.port).afterRead, dataReply (eventsData (s.port r.port)))

/-- SET_MASK (R186, R190). -/
def execSetMask (r : Req) (flags : Half) (s : State) : Host.Outcome State Fault Refusal :=
  request r .bothPorts s fun s =>
    (s.setPort r.port (PortRec.settle { s.port r.port with mask := flags &&& maskBits }), okReply)

/-- SET_UNITS (R183). -/
def execSetUnits (r : Req) (unit : Byte) (s : State) : Host.Outcome State Fault Refusal :=
  request r .bothPorts s fun s =>
    match unitOfCode unit with
    | some u => (s.setPort r.port { s.port r.port with unit := u }, okReply)
    | none => (s, refuse .range)

/-- SOFT_RESET: a device reset with no response (R188). -/
def execSoftReset (r : Req) (s : State) : Host.Outcome State Fault Refusal :=
  if portTakes s r.port then
    if allowedOn .systemOnly r.port then .next (deviceReset .soft s.addrPin s)
    else .next (respond r.port r.tag (refuse .denied) s)
  else .next s

/-- RESYNC: a picture-port reset, then an OK response (R189). -/
def execResync (r : Req) (s : State) : Host.Outcome State Fault Refusal :=
  request r .pictureOnly s fun s => (picturePortReset .resync s, okReply)

/-- The bytes of a request transaction that were taken: on the system port a byte beyond the length is not acknowledged
(R176; log 39). -/
def takenBytes (port : Port) (frame : List Byte) : List Byte :=
  match port with
  | .system => frame.take (bytesAcked frame)
  | .picture => frame

/-- The tag of a BAD_REQUEST response: that of the frame when at least three bytes were taken (R178). -/
def badTag (port : Port) (frame : List Byte) : Byte := (takenBytes port frame)[2]?.getD 0

/-- A malformed frame that is not cut short: checks 2 and 3 of R178. -/
def execBadRequest (port : Port) (frame : List Byte) (s : State) : Host.Outcome State Fault Refusal :=
  if portTakes s port then .next (respond port (badTag port frame) (refuse .badRequest) s) else .next s

/-- A frame cut short is discarded and forms no response (check 1 of R178). -/
def execFrameCutShort (_port : Port) (s : State) : Host.Outcome State Fault Refusal := .next s

/-- A read transaction of `n` response bytes (R176, R177, R179). -/
def execReadResponse (port : Port) (n : Nat) (s : State) : Host.Outcome State Fault Refusal :=
  if portTakes s port then .next (s.setPort port ((s.port port).read n)) else .next s

/-- A power-on reset (R188). -/
def execPowerOn (addr : Bool) (s : State) : Host.Outcome State Fault Refusal := .next (deviceReset .power addr s)

/-- A RESET pin reset (R188); with no supply it resets nothing (log 8). -/
def execResetPin (addr : Bool) (s : State) : Host.Outcome State Fault Refusal :=
  event s (deviceReset .pin addr)

/-- The supply fails (R62). -/
def execPowerFail (s : State) : Host.Outcome State Fault Refusal := event s powerLost

/-- PIC_PRESENT changes (R177). The pin keeps its level with no supply (log 8). -/
def execPicPresentChange (level : Bool) (s : State) : Host.Outcome State Fault Refusal :=
  if s.powered then .next (s.withPresence (s.presence.pinChange level))
  else .next (s.withPresence { s.presence with pin := level })

/-- The new PIC_PRESENT level has held for 1 ms (R177). -/
def execPresentFilterExpiry (s : State) : Host.Outcome State Fault Refusal := event s presentFilterDone

end Sys2Proof.Machine
end

