-- ==== Sys2Proof/Machine/AxisEvents.lean ====
section
/-! DEFINITION. The events of an axis channel with what follows from them in the scheduler: step events (R9, R13, R16,
R18, R20 to R22), switch events (R20, R21, R23 to R25) and the hold timer (R11). -/

namespace Sys2Proof.Machine

/-- What a grant or a step leaves, with the grant pass that follows an end of motion (R39). -/
def settleAndGrant (a : Axis) (p : Progress) (s : State) : State :=
  match p with
  | .running c => s.setChan a c
  | .ended c e => grantPass (endMotion a c e s)

/-- A step event of a STOPPING axis: one microstep of its deceleration, and its end when the last is taken (R15, R16). -/
def stopStep (a : Axis) (s : State) : State :=
  let c := (s.chan a).microstep
  let rp := decelStep c.table c.ramp
  let s1 := s.setChan a { c with ramp := rp }
  if rp = rampOver then finishStop a s1 else s1

/-- A step event, by the state of the axis (R9). An axis at rest takes none (log 27). -/
def axisStep (a : Axis) (s : State) : State :=
  let c := s.chan a
  match c.state with
  | .moving => settleAndGrant a c.moveStep s
  | .jogging => settleAndGrant a c.jogStep s
  | .homing => settleAndGrant a c.homeStep s
  | .stopping => stopStep a s
  | .absent => s
  | .unreferenced => s
  | .idle => s
  | .held => s

/-! ### Switch events -/

/-- A switch assertion: the FAST phase of a homing run decelerates (R20); one taken in the HOME_NOT_FOUND deceleration
does not save the run (R22). -/
def switchAsserted (a : Axis) (s : State) : State :=
  let c := s.chan a
  if c.state = .homing then
    match c.homing with
    | some ⟨.fast, n, .running⟩ => settleAndGrant a (c.slowFast ⟨.fast, n, .running⟩ .slowing) s
    | some _ => s
    | none => s
  else s

/-- The distance left to the end point of a channel in MOVING, JOGGING or STOPPING (R25). -/
def Channel.distanceLeft (c : Channel) : Int :=
  if c.jog.isSome then c.jogDistance else distanceTo c.dir c.position c.segEnd

/-- A MOVING channel goes on from a corrected position (R25). One that has no microstep left ends its segment; one beyond
its end point computes its segments afresh. -/
def Channel.moveResync (c : Channel) : Progress :=
  let r := c.distanceLeft
  if 0 < r then .running { c with ramp := rampResync c.table r.toNat c.ramp }
  else if r = 0 then c.segmentOver
  else
    match c.target with
    | some t => c.startMove t
    | none => .ended c.moveDone .done

/-- A JOGGING channel goes on from a corrected position (R25). -/
def Channel.jogResync (c : Channel) : Progress :=
  let r := c.distanceLeft
  if 0 < r then .running { c with ramp := rampResync c.table r.toNat c.ramp } else .ended c.jogDone .done

/-- A STOPPING axis goes on from a corrected position (R25). -/
def stopResync (a : Axis) (c : Channel) (s : State) : State :=
  let r := c.distanceLeft
  if 0 < r then s.setChan a { c with ramp := rampResyncStopping c.table r.toNat c.ramp }
  else finishStop a (s.setChan a c)

/-- A pass of the home edge within tolerance: the error is taken from the position and the run goes on (R23, R25). -/
def resync (a : Axis) (s : State) : State :=
  let c0 := s.chan a
  if c0.edgeError = 0 then s
  else
    let c := { c0 with position := c0.position - c0.edgeError }
    match c.state with
    | .moving => settleAndGrant a c.moveResync s
    | .jogging => settleAndGrant a c.jogResync s
    | .stopping => stopResync a c s
    | .absent => s
    | .unreferenced => s
    | .homing => s
    | .idle => s
    | .held => s

/-- A pass of the home edge beyond tolerance (R24): referenced becomes no, the shift demand is not current (R55), the
queued MOVE or JOG is removed (R46), and the axis stops with cause LOST. -/
def lostStep (a : Axis) (s : State) : State :=
  let s1 := loseReference a .lost (uncurrent a (s.setChan a { s.chan a with referenced := false }))
  if (s1.chan a).state = .stopping then s1.setChan a { s1.chan a with stopCause := some .lost }
  else orderStop a .lost s1

/-- A switch release: the end of BACKOFF (R21), or the lost-step check (R23, R24). -/
def switchReleased (a : Axis) (s : State) : State :=
  let c := s.chan a
  if c.state = .homing then
    match c.homing with
    | some ⟨.backoff, _, _⟩ => grantPass (endMotion a c.homed .done s)
    | some ⟨.fast, _, _⟩ => s
    | none => s
  else if c.checksEdge then
    if c.edgeError.natAbs ≤ c.settings.tolerance then resync a s else lostStep a s
  else s

/-- The stability time of a home switch runs out: the change is taken and its event given (R19). With the time idle
nothing runs out (log 27). -/
def homeFilterDone (a : Axis) (s : State) : State :=
  if (s.chan a).switch.stable then
    let c := (s.chan a).switchTaken
    if c.switch.filtered then switchAsserted a (s.setChan a c) else switchReleased a (s.setChan a c)
  else s

/-! ### Hold timer -/

/-- One T32 tick of the hold timer of an axis at rest; at 0 the coils are released (R11). -/
def Channel.holdTick (c : Channel) : Channel :=
  if inMotion c.state then c
  else if 1 < c.holdTimer then { c with holdTimer := c.holdTimer - 1 }
  else if c.holdTimer = 1 then c.release
  else c

/-- The T32 tick of the four axis channels (R110). -/
def holdTicks (s : State) : State :=
  s.withAxes ⟨s.axes.sh.holdTick, s.axes.sv.holdTick, s.axes.zm.holdTick, s.axes.fc.holdTick⟩

/-- The last tick of a hold timer, taken by itself (log 3). -/
def coilRelease (a : Axis) (s : State) : State :=
  if (s.chan a).holdTimer = 1 then s.setChan a (s.chan a).holdTick else s

end Sys2Proof.Machine
end

