-- ==== Sys2Proof/Machine/Ticks.lean ====
section
/-! DEFINITION. The ticks of the time base (R109, R110) as each block takes them: zone evaluation (R128, R129),
supervision (R140 to R142), tracking (R168, R170), and the divider. -/

namespace Sys2Proof.Machine

/-! ### Zone evaluation -/

/-- The rise level of a zone at a temperature (R128). -/
def riseLevel (z : ZoneRec) (t : Int) : ZoneState :=
  if z.crit ≤ t then .critical else if z.hot ≤ t then .hot else if z.warm ≤ t then .warm else .normal

/-- The place of a zone state in rising order. -/
def zoneRank : ZoneState → Nat
  | .normal => 0
  | .warm => 1
  | .hot => 2
  | .critical => 3

/-- The threshold of a state, and the state just below it; NORMAL has neither. -/
def ZoneRec.floorOf (z : ZoneRec) : Option (Int × ZoneState) :=
  match z.state with
  | .normal => none
  | .warm => some (z.warm, .normal)
  | .hot => some (z.hot, .warm)
  | .critical => some (z.crit, .hot)

/-- The state of a zone after an evaluation at a temperature (R128). -/
def ZoneRec.nextState (z : ZoneRec) (t : Int) : ZoneState :=
  if zoneRank z.state < zoneRank (riseLevel z t) then riseLevel z t
  else
    match z.floorOf with
    | some (threshold, below) => if t < threshold - Config.hysteresis then below else z.state
    | none => z.state

/-- The CRITICAL age after an evaluation (R129). -/
def ZoneRec.nextAge (z : ZoneRec) (next : ZoneState) : Nat :=
  if next = .critical then
    if z.state = .critical then min (z.age + 1) Config.criticalAgeMax else 0
  else if z.state = .critical then 0
  else z.age

/-- A zone evaluated; one whose temperature is absent is not (R128). -/
def ZoneRec.evaluated (z : ZoneRec) : ZoneRec :=
  match z.temperature with
  | some t => { z with state := z.nextState t, age := z.nextAge (z.nextState t) }
  | none => z

/-- A zone has entered CRITICAL. -/
def enteredCritical (old new : ZoneRec) : Bool := decide (old.state ≠ .critical) && decide (new.state = .critical)

/-- The CRITICAL age of a zone has reached 60 (R129). -/
def persisted (old new : ZoneRec) : Bool :=
  decide (old.age < Config.criticalAgeMax) && decide (new.age = Config.criticalAgeMax)

/-- A new CRITICAL state is handed to the phase controller (R128, R153). -/
def handCritical (old new : PerZone ZoneRec) (s : State) (z : Zone) : State :=
  if enteredCritical (old.get z) (new.get z) then criticalHanded s else s

/-- A critical persisted notice is handed to the phase controller (R129, R159). -/
def handPersisted (old new : PerZone ZoneRec) (s : State) (z : Zone) : State :=
  if persisted (old.get z) (new.get z) then enterFault .critical s else s

/-- The cooling controller's T2 tick on the zones (R128, R129). All states are written before any is handed on, so the
light cap never shows a value between (R144; log 5). -/
def evaluateZones (s : State) : State :=
  let old := s.cool.zones
  let new := old.map ZoneRec.evaluated
  let s1 := s.withCool { s.cool with zones := new }
  let s2 :=
    if allZones.any fun z => decide ((old.get z).state ≠ (new.get z).state) then raiseBoth .thermalChange s1 else s1
  coolRefresh (allZones.foldl (handPersisted old new) (allZones.foldl (handCritical old new) s2))

/-- The evaluation that brings the CRITICAL age of one zone to 60, taken by itself: a zone whose temperature is absent is
not evaluated, and one that the evaluation takes out of CRITICAL gives no notice (R128, R129; log 3). -/
def criticalPersisted (z : Zone) (s : State) : State :=
  let old := s.cool.zones.get z
  if persisted old old.evaluated then
    enterFault .critical (s.withCool { s.cool with zones := s.cool.zones.set z old.evaluated })
  else s

/-! ### Supervision -/

/-- A fan has become FAILED. -/
def becameFailed (old new : FanRec) : Bool := decide (old.state ≠ .failed) && decide (new.state = .failed)

/-- The set of FAILED fans of one record set differs from that of another. -/
def failedSetChanged (old new : PerFan FanRec) : Bool :=
  allFans.any fun f => (old.get f).isFailed != (new.get f).isFailed

/-- What follows a change of the set of FAILED fans (R142). The count after the whole change is handed once (log 47). -/
def failedSetEffects (old : PerFan FanRec) (s : State) : State :=
  if failedSetChanged old s.cool.fans then coolRefresh (failedHanded (failedCount s.cool) s) else s

/-- The cooling controller's T2 tick on the fans: all are judged on their duties as they stand (R139 to R142; log 5). -/
def superviseFans (s : State) : State :=
  let old := s.cool.fans
  let new := old.map FanRec.supervised
  let s1 := s.withCool { s.cool with fans := new }
  let s2 := if allFans.any fun f => becameFailed (old.get f) (new.get f) then raiseBoth .fanFault s1 else s1
  failedSetEffects old s2

/-! ### Tracking -/

/-- The four conditions of tracking (R168). -/
def trackingRuns (s : State) : Bool :=
  decide (s.phase.phase = .lit) && (s.chan .fc).referenced && (s.chan .zm).referenced && lensUsable s.track

/-- A T2 tick that finds FC unreferenced clears the reference (R168). -/
def Tracker.unreferenced (t : Tracker) : Tracker := { t with base := none, applied := 0, tRef := none }

/-- Steps 5 to 7 of R170: a correction is placed, unless FC is busy or stands at its limit. -/
def placeCorrection (c : Int) (s : State) : State :=
  let fc := s.chan .fc
  if fc.state ≠ .idle || (s.sched.entryOf .fc).isSome then s.withTrack { s.track with lastAction := .busy }
  else
    let target := softClamp fc.settings (fc.position + c)
    if target = fc.position then s.withTrack { s.track with lastAction := .limit }
    else
      let en : Entry :=
        { axis := .fc, motion := .move target, origin := .focusTrack, tag := none, shift := none, link := none,
          parkNo := none }
      grantPass (admission en (s.withTrack { s.track with lastAction := .placed })).1

/-- A tick at which tracking is ACTIVE with T_ref present (R170). -/
def trackActive (tRef : Int) (s : State) : State :=
  let zm := s.chan .zm
  let gain := gainAt s.track.gains zm.settings.travel zm.position
  let comp := s.track.compFor gain (s.track.tLens.getD tRef - tRef)
  let s1 := s.withTrack { s.track with comp := some comp, gainUsed := some gain, zmUsed := some zm.position }
  let c := comp - s.track.applied
  if c.natAbs < s.track.deadband then s1.withTrack { s1.track with lastAction := .deadband }
  else placeCorrection c s1

/-- The focus tracker's T2 tick (R168, R170). -/
def trackTick (s : State) : State :=
  let on := trackingRuns s
  let s1 := s.withTrack { s.track with active := on }
  if on then
    match s.track.tRef with
    | some t => trackActive t s1
    | none => takeUpReference s1
  else if (s.chan .fc).referenced then s1
  else s1.withTrack s1.track.unreferenced

/-! ### The divider -/

/-- The divider period of each taker's tick: T32, T8 or T2 (R109, R110). -/
def takerPeriod : Taker → Nat
  | .holdTimers => 8
  | .keepCounts => 8
  | .tachAndSlew => 32
  | .failureAges => 128
  | .zones => 128
  | .supervision => 128
  | .phaseTimers => 128
  | .tracking => 128

/-- What a taker does with its tick (R110). -/
def takeTick (s : State) : Taker → State
  | .holdTimers => holdTicks s
  | .keepCounts => keepTick s
  | .tachAndSlew => slewFans (tachTick s)
  | .failureAges => ageChannels s
  | .zones => evaluateZones s
  | .supervision => superviseFans s
  | .phaseTimers => phaseTick s
  | .tracking => trackTick s

/-- The order in which the takers are taken when an order leaves one out. -/
abbrev allTakers : List Taker :=
  [.holdTimers, .keepCounts, .tachAndSlew, .failureAges, .zones, .supervision, .phaseTimers, .tracking]

/-- Each taker once: as an order names them, then the ones it leaves out (log 4). -/
def fullOrder (order : List Taker) : List Taker := (order ++ allTakers).eraseDups

/-- The takers whose tick is given at a divider count, in an order (R109). -/
def dueTakers (count : Byte) (order : List Taker) : List Taker :=
  (fullOrder order).filter fun t => decide (count.toNat % takerPeriod t = 0)

/-- The divider count advances and gives its ticks (R109, R110). -/
def dividerAdvance (order : List Taker) (s : State) : State :=
  (dueTakers (s.divider + 1) order).foldl takeTick (s.withDivider (s.divider + 1))

end Sys2Proof.Machine
end

