-- ==== Sys2Proof/Machine/LightCmds.lean ====
section
/-! DEFINITION. The meanings of the light and tracking requests, of the axis and timer events, and of the divider (R9, R11,
R19, R43, R109, R150 to R173). -/

namespace Sys2Proof.Machine

/-! ### Light -/

/-- Some zone is CRITICAL. -/
def anyCritical (s : State) : Bool := allZones.any fun z => decide ((s.cool.zones.get z).state = .critical)

/-- Some zone is HOT or CRITICAL. -/
def anyHot (s : State) : Bool := allZones.any fun z => (s.cool.zones.get z).isHot

/-- LIGHT_ON in COOLDOWN, lines 5 and 6 of R150 (log 36). -/
def lightOnCooling (s : State) : State × Reply :=
  if z0Below Config.restrikeTemp s then (restrikeNow s, okReply)
  else (s.withPhase { s.phase with restrike := true }, { status := .queued })

/-- LIGHT_ON by the table of R150. -/
def lightOnRequest (s : State) : State × Reply :=
  match s.phase.phase with
  | .start => (s, refuse .wrongPhase)
  | .warmup => (s, okReply)
  | .lit => (s, okReply)
  | .fault => (s, refuse .faulted)
  | .dark => if latched s || anyCritical s then (s, refuse .faulted) else (enterWarmup s, okReply)
  | .cooldown => if latched s || anyCritical s then (s, refuse .faulted) else lightOnCooling s

/-- LIGHT_ON (R150). -/
def execLightOn (r : Req) (s : State) : Host.Outcome State Fault Refusal := request r .systemOnly s lightOnRequest

/-- LIGHT_OFF by the table of R151. -/
def lightOffEffect (s : State) : State :=
  match s.phase.phase with
  | .warmup => enterCooldown .off s
  | .lit => enterCooldown .off s
  | .cooldown => s.withPhase { s.phase with restrike := false }
  | .start => s
  | .dark => s
  | .fault => s

/-- LIGHT_OFF (R151). -/
def execLightOff (r : Req) (s : State) : Host.Outcome State Fault Refusal :=
  request r .systemOnly s fun s => (lightOffEffect s, okReply)

/-- CLEAR_FAULT by its three conditions (R161). -/
def clearFaultRequest (s : State) : State × Reply :=
  if s.phase.phase = .fault then
    if latched s || decide (2 ≤ s.phase.failedFans) || anyHot s then (s, refuse .busy)
    else (enterCooldown .resume s, okReply)
  else (s, okReply)

/-- CLEAR_FAULT (R161). -/
def execClearFault (r : Req) (s : State) : Host.Outcome State Fault Refusal :=
  request r .systemOnly s clearFaultRequest

/-- GET_PHASE (R165). -/
def execGetPhase (r : Req) (s : State) : Host.Outcome State Fault Refusal :=
  reading r s fun s => dataReply (phaseData s)

/-! ### Tracking -/

/-- The gain table a SET_TRACKING carries. -/
def gainsOf (p : TrackParams) : Gains := ⟨p.g0.toInt, p.g1.toInt, p.g2.toInt, p.g3.toInt, p.g4.toInt⟩

/-- A gain within −512 to +512. -/
def gainInRange (g : Int) : Bool := decide (-512 ≤ g) && decide (g ≤ 512)

/-- The ranges of SET_TRACKING (R173). -/
def trackingInRange (p : TrackParams) : Bool :=
  gainInRange p.g0.toInt && gainInRange p.g1.toInt && gainInRange p.g2.toInt && gainInRange p.g3.toInt
    && gainInRange p.g4.toInt && decide (p.limit.toNat ≤ 2000) && decide (1 ≤ p.deadband.toNat)

/-- An accepted SET_TRACKING: new gains or a new limit re-anchor the record (R173). The comp of the last ACTIVE tick is
kept under a new limit (R167; log 49). -/
def writeTracking (p : TrackParams) (s : State) : State :=
  let t := { s.track with gains := gainsOf p, limit := p.limit.toNat, deadband := p.deadband.toNat }
  if gainsOf p = s.track.gains && decide (p.limit.toNat = s.track.limit) then s.withTrack t
  else s.withTrack (t.anchor (fcBase s))

/-- SET_TRACKING (R173). -/
def execSetTracking (r : Req) (p : TrackParams) (s : State) : Host.Outcome State Fault Refusal :=
  request r .systemOnly s fun s =>
    if trackingInRange p then (writeTracking p s, okReply) else (s, refuse .range)

/-- GET_TRACKING (R173). -/
def execGetTracking (r : Req) (s : State) : Host.Outcome State Fault Refusal :=
  reading r s fun s => dataReply (trackingData s)

/-! ### Axis events -/

/-- A step event of an axis (R9). -/
def execStepEvent (axis : Axis) (s : State) : Host.Outcome State Fault Refusal := event s (axisStep axis)

/-- The raw home switch input changes (R19). The switch keeps its level with no supply (log 8). -/
def execHomeSwitchChange (axis : Axis) (level : Bool) (s : State) : Host.Outcome State Fault Refusal :=
  let c := s.chan axis
  .next
    (s.setChan axis (if s.powered then c.switchChange level else { c with switch := { c.switch with pin := level } }))

/-- The 1 ms stability time of a home switch runs out (R19). -/
def execHomeFilterExpiry (axis : Axis) (s : State) : Host.Outcome State Fault Refusal := event s (homeFilterDone axis)

/-! ### Timers -/

/-- The divider count advances (R109). -/
def execDividerAdvance (order : List Taker) (s : State) : Host.Outcome State Fault Refusal :=
  event s (dividerAdvance order)

/-- The hold timer of an axis reaches 0 (R11; log 3). -/
def execCoilRelease (axis : Axis) (s : State) : Host.Outcome State Fault Refusal := event s (coilRelease axis)

/-- The keep count of a jog reaches 0, queued or running (R43; log 3). -/
def jogExpiry (axis : Axis) (place : JogPlace) (s : State) : State :=
  match place with
  | .queued => expireQueued 1 axis s
  | .running => expireRunning 1 axis s

/-- The expiry of a jog (R43). -/
def execJogExpiry (axis : Axis) (place : JogPlace) (s : State) : Host.Outcome State Fault Refusal :=
  event s (jogExpiry axis place)

/-- The cool-down tick that brings its timer to 600 (R158; log 3). -/
def cooldownTimeout (s : State) : State :=
  if s.phase.phase = .cooldown && decide (Config.coolDownMax ≤ s.phase.coolTimer + 1) then coolDownTick s else s

/-- The cool-down timer reaches 600 (R158). -/
def execCooldownTimeout (s : State) : Host.Outcome State Fault Refusal := event s cooldownTimeout

/-- The cool-down tick that brings the park timer to 40 (R157, R158; log 3). -/
def parkTimeout (s : State) : State :=
  if s.phase.phase = .cooldown && decide (s.phase.park = .running)
      && decide (Config.parkMax ≤ s.phase.parkTimer + 1) then
    coolDownTick s
  else s

/-- The park timer reaches 40 (R157). -/
def execParkTimeout (s : State) : Host.Outcome State Fault Refusal := event s parkTimeout

/-- The warm-up tick that brings the ramp count to 4 (R152; log 3). -/
def rampStepDue (s : State) : State :=
  if s.phase.phase = .warmup && decide (Config.rampTicks ≤ s.phase.rampCount + 1) then warmupTick s else s

/-- The ramp count reaches 4 (R152). -/
def execRampStep (s : State) : Host.Outcome State Fault Refusal := event s rampStepDue

end Sys2Proof.Machine
end

