-- ==== Sys2Proof/Machine/MotionCmds.lean ====
section
/-! DEFINITION. The meanings of the motion requests (R30 to R57) and of SET_AXIS and SET_RAMP (R3, R4, R7). -/

namespace Sys2Proof.Machine

/-- A request that names an axis: an axis code that is not listed is refused RANGE (R190). -/
def onAxis (code : Byte) (s : State) (f : Axis → State × Reply) : State × Reply :=
  match axisOfCode code with
  | some a => f a
  | none => (s, refuse .range)

/-- A shift request: a SHIFT, or a MOVE of SH or SV in PERMILLE (R52, R53). -/
def shiftRequest (r : Req) (a : Axis) (p : Int) (s : State) : State × Reply :=
  let q := demandClamp p
  let clamped := decide (q ≠ p)
  if (s.chan a).state = .absent then (demandAbsent a q s, { status := .ok, clamped := clamped })
  else
    let st := (s.chan a).settings
    let o := s.geom.inputs.orientation
    motionRequest r a (.move (softClamp st (shiftRaw st o q))) (some ⟨q, shiftExcess st o q⟩) clamped s

/-- A MOVE of ZM or FC in PERMILLE (R56). -/
def travelRequest (r : Req) (a : Axis) (q : Int) (s : State) : State × Reply :=
  motionRequest r a (.move (travelTarget (s.chan a).settings q)) none (decide (clampInt 0 1000 q ≠ q)) s

/-- A MOVE in the unit of its request (R183). -/
def moveRequest (r : Req) (a : Axis) (target : Int) (s : State) : State × Reply :=
  match unitOf (s.port r.port).unit r.qual with
  | .steps => motionRequest r a (.move target) none false s
  | .permille => if isShift a then shiftRequest r a target s else travelRequest r a target s

/-- MOVE (R31, R52, R56). -/
def execMove (r : Req) (axis : Byte) (target : Quadword) (s : State) : Host.Outcome State Fault Refusal :=
  request r .bothPorts s fun s => onAxis axis s fun a => moveRequest r a target.toInt s

/-- SHIFT (R52, R53); an axis other than SH and SV is refused RANGE (log 10). -/
def execShift (r : Req) (axis : Byte) (demand : Half) (s : State) : Host.Outcome State Fault Refusal :=
  request r .bothPorts s fun s =>
    match shiftAxisOfCode axis with
    | some a => shiftRequest r a demand.toInt s
    | none => (s, refuse .range)

/-- HOME (R31). -/
def execHome (r : Req) (axis : Byte) (s : State) : Host.Outcome State Fault Refusal :=
  request r .bothPorts s fun s => onAxis axis s fun a => motionRequest r a .home none false s

/-- JOG (R31). -/
def execJog (r : Req) (axis dir level : Byte) (s : State) : Host.Outcome State Fault Refusal :=
  request r .bothPorts s fun s =>
    onAxis axis s fun a =>
      match dirOfCode dir with
      | some d => motionRequest r a (.jog d level.toNat Config.keepCount) none false s
      | none => (s, refuse .range)

/-- Whether a queued entry is a jog of an origin (R44). -/
def isJogOf (o : Origin) (en : Entry) : Bool :=
  match en.motion with
  | .jog _ _ _ => decide (en.origin = o)
  | .move _ => false
  | .home => false

/-- Whether a motion record is a jog of an origin (R44). -/
def isJogRecOf (o : Origin) (m : MotionRec) : Bool :=
  match m.kind with
  | .jog _ => decide (m.origin = o)
  | .move => false
  | .home => false

/-- The keep count of a queued jog restarted (R44). -/
def restartEntry (en : Entry) : Entry :=
  match en.motion with
  | .jog d l _ => { en with motion := .jog d l Config.keepCount }
  | .move _ => en
  | .home => en

/-- Whether the queued entry of an axis is a jog that a JOG_KEEP of an origin is taken for (R44). -/
def keepsQueued (s : State) (a : Axis) (o : Origin) : Bool :=
  match s.sched.entryOf a with
  | some en => isJogOf o en
  | none => false

/-- Whether the motion record of a JOGGING axis is a jog that a JOG_KEEP of an origin is taken for (R44). -/
def keepsRunning (s : State) (a : Axis) (o : Origin) : Bool :=
  (s.chan a).state = .jogging
    && match s.sched.records.get a with
      | some m => isJogRecOf o m
      | none => false

/-- The queued jog of an axis has its keep count restarted. -/
def restartQueued (a : Axis) (s : State) : State :=
  match s.sched.entryOf a with
  | some en => s.withSched (s.sched.rewrite (restartEntry en))
  | none => s

/-- The running jog of an axis has its keep count restarted. -/
def restartRunning (a : Axis) (s : State) : State :=
  match s.sched.records.get a with
  | some m => s.withSched (s.sched.setRecord a (some { m with kind := .jog Config.keepCount }))
  | none => s

/-- JOG_KEEP on an axis: every jog of the port on it is kept (R44; log 22). -/
def jogKeep (a : Axis) (o : Origin) (s : State) : State × Reply :=
  if (s.chan a).state = .absent then (s, refuse .absent)
  else if keepsQueued s a o || keepsRunning s a o then
    let s1 := if keepsQueued s a o then restartQueued a s else s
    (if keepsRunning s a o then restartRunning a s1 else s1, okReply)
  else (s, refuse .notJogging)

/-- JOG_KEEP (R44). -/
def execJogKeep (r : Req) (axis : Byte) (s : State) : Host.Outcome State Fault Refusal :=
  request r .bothPorts s fun s => onAxis axis s fun a => jogKeep a (portOrigin r.port) s

/-- STOP of the axes it names; one that names a single ABSENT axis is answered ABSENT (R45). -/
def stopRequest (l : List Axis) (s : State) : State × Reply :=
  match l with
  | [a] => if (s.chan a).state = .absent then (s, refuse .absent) else (stopAxes [a] s, okReply)
  | l => (stopAxes l s, okReply)

/-- STOP (R45). -/
def execStop (r : Req) (axis : Byte) (s : State) : Host.Outcome State Fault Refusal :=
  request r .bothPorts s fun s =>
    match stopAxesOfCode axis with
    | some l => stopRequest l s
    | none => (s, refuse .range)

/-- GET_AXIS (R6). -/
def execGetAxis (r : Req) (axis : Byte) (s : State) : Host.Outcome State Fault Refusal :=
  request r .bothPorts s fun s =>
    onAxis axis s fun a => (s, dataReply (axisData s a (unitOf (s.port r.port).unit r.qual)))

/-- GET_QUEUE (R49). -/
def execGetQueue (r : Req) (s : State) : Host.Outcome State Fault Refusal :=
  reading r s fun s => dataReply (queueData s (unitOf (s.port r.port).unit r.qual))

/-- GET_SHIFT (R57). -/
def execGetShift (r : Req) (s : State) : Host.Outcome State Fault Refusal :=
  reading r s fun s => dataReply (shiftData s)

/-! ### Settings -/

/-- Settings may be written while the axis is IDLE, UNREFERENCED or ABSENT (R4, R7). -/
def settable (st : AxisState) : Bool :=
  match st with
  | .idle => true
  | .unreferenced => true
  | .absent => true
  | .homing => false
  | .moving => false
  | .jogging => false
  | .stopping => false
  | .held => false

/-- The ranges of R4 that do not depend on the axis. -/
def settingsInRange (x : Settings) : Bool :=
  decide (1000 ≤ x.travel) && decide (x.travel ≤ 60000) && decide (x.softMin < x.softMax)
    && decide (x.softMax ≤ x.travel) && decide (x.homeOffset ≤ x.softMin) && decide (1 ≤ x.tolerance)
    && match x.park with
      | some p => decide (x.softMin ≤ p) && decide (p ≤ x.softMax)
      | none => true

/-- The ranges of the centre and k of SH and SV (R4). -/
def shiftInRange (x : Settings) : Bool :=
  decide (x.softMin ≤ x.centre) && decide (x.centre ≤ x.softMax) && decide (256 ≤ x.k) && decide (x.k ≤ 25600)

/-- The settings a SET_AXIS carries for an axis, `none` when a code or a range fails (R4). The centre and k of ZM and FC
are neither checked nor written. -/
def settingsOf (a : Axis) (old : Settings) (p : AxisParams) : Option Settings :=
  match yesNoOfCode p.present, approachOfCode p.approach with
  | some present, some approach =>
    let x : Settings :=
      { present := present, travel := p.travel.toNat, softMin := p.softMin.toNat, softMax := p.softMax.toNat
        homeOffset := p.homeOffset.toNat, tolerance := p.tolerance.toNat, backlash := p.backlash.toNat
        approach := approach, park := parkOfCode p.park
        centre := if isShift a then p.centre.toNat else old.centre, k := if isShift a then p.k.toNat else old.k }
    if settingsInRange x && (!isShift a || shiftInRange x) then some x else none
  | some _, none => none
  | none, some _ => none
  | none, none => none

/-- An axis that becomes absent (R3, R47, R55). Only its absence counts when the same SET_AXIS changes travel or
home_offset, or the centre or k of a shift axis, as well (log 43). -/
def axisGone (a : Axis) (x : Settings) (s : State) : State :=
  let c := s.chan a
  let s1 := s.setChan a { c.release with settings := x, referenced := false, state := .absent }
  let s2 :=
    match s1.shift.get a with
    | some d => writeDemand a { d with excess := if d.current then d.demand else 0, current := true } s1
    | none => s1
  becomeAbsent a s2

/-- An axis that becomes present (R3, R55). -/
def axisFitted (a : Axis) (x : Settings) (s : State) : State :=
  let s1 := s.setChan a { s.chan a with settings := x, state := .unreferenced, position := 0 }
  match s1.shift.get a with
  | some _ => writeDemand a { demand := 0, excess := 0, current := false } s1
  | none => s1

/-- Travel or home_offset changed on a referenced axis: the reference is lost (R4, R46, R55). -/
def axisUnreferenced (a : Axis) (s : State) : State :=
  let c := s.chan a
  loseReference a .settings
    (uncurrent a
      (s.setChan a { c with referenced := false, state := if c.state = .idle then .unreferenced else c.state }))

/-- Centre or k changed on a present shift axis (R55). -/
def axisRecentred (a : Axis) (s : State) : State :=
  if (s.chan a).referenced then
    writeDemand a { demand := positionPermille s a, excess := 0, current := true } s
  else writeDemand a { demand := 0, excess := 0, current := false } s

/-- New settings on an axis that stays as fitted as it was (R4, R55; log 21). -/
def axisKept (a : Axis) (x : Settings) (s : State) : State :=
  let c := s.chan a
  let s1 := s.setChan a { c with settings := x }
  let s2 :=
    if c.referenced && (decide (x.travel ≠ c.settings.travel) || decide (x.homeOffset ≠ c.settings.homeOffset)) then
      axisUnreferenced a s1
    else s1
  if isShift a && x.present && (decide (x.centre ≠ c.settings.centre) || decide (x.k ≠ c.settings.k)) then
    axisRecentred a s2
  else s2

/-- An accepted SET_AXIS (R3, R4). -/
def applySettings (a : Axis) (x : Settings) (s : State) : State :=
  match (s.chan a).settings.present, x.present with
  | true, false => axisGone a x s
  | false, true => axisFitted a x s
  | true, true => axisKept a x s
  | false, false => axisKept a x s

/-- SET_AXIS (R4). -/
def execSetAxis (r : Req) (axis : Byte) (p : AxisParams) (s : State) : Host.Outcome State Fault Refusal :=
  request r .systemOnly s fun s =>
    onAxis axis s fun a =>
      if settable (s.chan a).state then
        match settingsOf a (s.chan a).settings p with
        | some x => (applySettings a x s, okReply)
        | none => (s, refuse .range)
      else (s, refuse .busy)

/-- The intervals of a table do not rise from a level to the next (R7). -/
def intervalsFall : List RampLevel → Bool
  | [] => true
  | [_] => true
  | x :: y :: rest => decide (y.interval ≤ x.interval) && intervalsFall (y :: rest)

/-- The checks of a ramp table (R7). -/
def tableInRange (t : List RampLevel) : Bool :=
  decide (1 ≤ t.length) && decide (t.length ≤ 12)
    && (t.all fun l =>
      decide (50 ≤ l.interval) && decide (l.interval ≤ 5000) && decide (1 ≤ l.length) && decide (l.length ≤ 255))
    && intervalsFall t

/-- The ramp table a SET_RAMP carries. -/
def tableOfParams (l : List LevelParam) : List RampLevel := l.map fun x => ⟨x.interval.toNat, x.length.toNat⟩

/-- The most levels a request frame can carry: 6 + 3·22 is 72 (R178, R190). -/
abbrev levelsMax : Nat := 22

/-- A request whose parameters cannot stand in a frame of its kind fails check 3 of R178. -/
def malformed (r : Req) (s : State) : Host.Outcome State Fault Refusal :=
  if portTakes s r.port then .next (respond r.port r.tag (refuse .badRequest) s) else .next s

/-- SET_RAMP (R7). -/
def execSetRamp (r : Req) (axis : Byte) (levels : List LevelParam) (s : State) : Host.Outcome State Fault Refusal :=
  if levels.length ≤ levelsMax then
    request r .systemOnly s fun s =>
      onAxis axis s fun a =>
        if settable (s.chan a).state then
          if tableInRange (tableOfParams levels) then
            (s.setChan a { s.chan a with table := tableOfParams levels }, okReply)
          else (s, refuse .range)
        else (s, refuse .busy)
  else malformed r s

end Sys2Proof.Machine
end

