-- ==== Sys2Proof/Machine/MemoryCmds.lean ====
section
/-! DEFINITION. The meanings of the lens memory requests and of the end of a write (R58 to R68). -/

namespace Sys2Proof.Machine

/-! ### RECALL -/

/-- What a recall does with one axis (R65). -/
inductive RecallWork where
  | place (target : Int) (shift : Option ShiftPart)
  | wholeDemand (p : Int)
  | leave
deriving DecidableEq, Repr

/-- The stored shift demand of an axis. -/
def Picture.demandOf (p : Picture) : Axis → Option Int
  | .sh => p.demandSh
  | .sv => p.demandSv
  | .zm => none
  | .fc => none

/-- The work of a recall on an axis (R65). -/
def recallWork (p : Picture) (s : State) (a : Axis) : RecallWork :=
  let st := (s.chan a).settings
  let o := s.geom.inputs.orientation
  if (s.chan a).state = .absent then
    match p.demandOf a with
    | some d => .wholeDemand d
    | none => .leave
  else
    match p.demandOf a with
    | some d => .place (softClamp st (shiftRaw st o d)) (some ⟨d, shiftExcess st o d⟩)
    | none =>
      match p.position.get a with
      | some t => .place t none
      | none => .leave

/-- An axis joins the outstanding set of the open context (R65). -/
def joinOutstanding (a : Axis) (s : State) : State :=
  match s.recallUnit.ctx with
  | some c => s.withRecall { s.recallUnit with ctx := some { c with outstanding := c.outstanding.set a true } }
  | none => s

/-- The entry of a recall for an axis (R65). -/
def recallEntry (r : Req) (number : Byte) (a : Axis) (target : Int) (shift : Option ShiftPart) : Entry :=
  { axis := a, motion := .move target, origin := portOrigin r.port, tag := some r.tag, shift := shift,
    link := some number, parkNo := none }

/-- A recall acts on one axis (R65). -/
def recallAxis (r : Req) (number : Byte) (p : Picture) (s : State) (a : Axis) : State :=
  match recallWork p s a with
  | .place t shift => (admission (recallEntry r number a t shift) (joinOutstanding a s)).1
  | .wholeDemand d => demandAbsent a d s
  | .leave => s

/-- Whether admission moves the target a recall has for an axis (R64). -/
def recallClamps (p : Picture) (s : State) (a : Axis) : Bool :=
  match recallWork p s a with
  | .place t _ => placingClamps s a (.move t)
  | .wholeDemand _ => false
  | .leave => false

/-- A new context is opened (R66). -/
def openRecall (r : Req) (slot : Byte) (p : Picture) (s : State) : State :=
  s.withRecall
    { ctx :=
        some
          { number := s.recallUnit.nextNumber, slot := slot, port := r.port, tag := r.tag, outstanding := noAxes
            endings := ⟨none, none, none, none⟩, kv := p.kv, kh := p.kh, cancelled := false, placing := true }
      nextNumber := s.recallUnit.nextNumber + 1 }

/-- The placing is over, and the close test is made (R67). -/
def endPlacing (s : State) : State :=
  match s.recallUnit.ctx with
  | some c => recallSettle (s.withRecall { s.recallUnit with ctx := some { c with placing := false } })
  | none => s

/-- An accepted RECALL (R65). -/
def startRecall (r : Req) (slot : Byte) (p : Picture) (s : State) : State :=
  let s1 := openRecall r slot p (supersedeRecall s)
  grantPass (endPlacing (allAxes.foldl (recallAxis r s.recallUnit.nextNumber p) s1))

/-- RECALL on a slot, by the checks of R64. -/
def recallRequest (r : Req) (code : Byte) (s : State) : State × Reply :=
  match slotOfCode code with
  | none => (s, refuse .range)
  | some slot =>
    if s.phase.phase = .start || s.phase.phase = .cooldown || s.phase.phase = .fault then (s, refuse .wrongPhase)
    else
      match memoryImage s.mem slot with
      | none => (s, refuse .empty)
      | some p =>
        if allAxes.any fun a => decide ((s.chan a).state ≠ .absent) && !(s.chan a).referenced then
          (s, refuse .notReferenced)
        else
          (startRecall r code p s,
            { status := .queued, clamped := allAxes.any (recallClamps p s) })

/-- RECALL (R64, R65). -/
def execRecall (r : Req) (slot : Byte) (s : State) : Host.Outcome State Fault Refusal :=
  request r .bothPorts s fun s => recallRequest r slot s

/-! ### STORE, ERASE, GET_MEMORY -/

/-- The position a STORE takes of an axis (R60). -/
def storedPosition (s : State) (a : Axis) : Option Int :=
  if (s.chan a).state = .absent then none else some (s.chan a).position

/-- The demand a STORE takes of a shift axis (R60). -/
def storedDemand (d : DemandRec) : Option Int := if d.current then some d.demand else none

/-- The snapshot of a STORE (R60). -/
def snapshotOf (s : State) : Picture :=
  { position := ⟨storedPosition s .sh, storedPosition s .sv, storedPosition s .zm, storedPosition s .fc⟩
    demandSh := storedDemand s.shift.sh, demandSv := storedDemand s.shift.sv
    kv := s.geom.inputs.kv, kh := s.geom.inputs.kh }

/-- Check 3 of R60: a present axis is not both IDLE and referenced, or has a queued entry. -/
def storeBusy (s : State) (a : Axis) : Bool :=
  decide ((s.chan a).state ≠ .absent)
    && (decide ((s.chan a).state ≠ .idle) || !(s.chan a).referenced || (s.sched.entryOf a).isSome)

/-- STORE on a slot, by the checks of R60. -/
def storeRequest (r : Req) (code : Byte) (s : State) : State × Reply :=
  match slotOfCode code with
  | none => (s, refuse .range)
  | some slot =>
    if s.mem.job.isSome || allAxes.any (storeBusy s) then (s, refuse .busy)
    else (s.withMem (beginWrite s.mem slot .store r.port r.tag (some (snapshotOf s))), okReply)

/-- STORE (R60). -/
def execStore (r : Req) (slot : Byte) (s : State) : Host.Outcome State Fault Refusal :=
  request r .bothPorts s fun s => storeRequest r slot s

/-- ERASE on a slot (R61). -/
def eraseRequest (r : Req) (code : Byte) (s : State) : State × Reply :=
  match slotOfCode code with
  | none => (s, refuse .range)
  | some slot =>
    if s.mem.job.isSome then (s, refuse .busy)
    else (s.withMem (beginWrite s.mem slot .erase r.port r.tag none), okReply)

/-- ERASE (R61). -/
def execErase (r : Req) (slot : Byte) (s : State) : Host.Outcome State Fault Refusal :=
  request r .bothPorts s fun s => eraseRequest r slot s

/-- GET_MEMORY (R63). -/
def execGetMemory (r : Req) (slot : Byte) (s : State) : Host.Outcome State Fault Refusal :=
  reading r s fun s =>
    match slotOfCode slot with
    | some n => dataReply (memoryData s.mem n)
    | none => refuse .range

/-- The write completes: STORE_DONE is raised on the port of origin (R62). With no write there is none (log 27). -/
def writeDone (s : State) : State :=
  match s.mem.job with
  | some j => notify j.port (.store j.slot j.tag j.kind) (s.withMem (endWrite s.mem j))
  | none => s

/-- The completion of a write (R62). -/
def execWriteComplete (s : State) : Host.Outcome State Fault Refusal := event s writeDone

end Sys2Proof.Machine
end

