-- ==== Sys2Proof/Machine/PictureCmds.lean ====
section
/-! DEFINITION. The meanings of the geometry and stream requests (R70 to R108) and of the strobes, the word clock and the
end of a compute. -/

namespace Sys2Proof.Machine

/-! ### Geometry -/

/-- A keystone clamped to ±60 (R72). -/
def keystoneClamp (k : Int) : Int := clampInt (-Config.keystoneMax) Config.keystoneMax k

/-- SET_KEYSTONE of two values (R72). -/
def keystoneRequest (kv kh : Int) (s : State) : State × Reply :=
  let clamped := decide (keystoneClamp kv ≠ kv) || decide (keystoneClamp kh ≠ kh)
  (writeInputs { s.geom.inputs with kv := keystoneClamp kv, kh := keystoneClamp kh, keystoneClamped := clamped }
      (cancelRecallKeystone s),
    { status := .ok, clamped := clamped })

/-- SET_KEYSTONE (R72). -/
def execSetKeystone (r : Req) (kv kh : Half) (s : State) : Host.Outcome State Fault Refusal :=
  request r .bothPorts s fun s => keystoneRequest kv.toInt kh.toInt s

/-- A change of orientation, handed to the shift unit and the cooling controller (R55, R74, R132). -/
def changeOrientation (o : Orientation) (s : State) : State :=
  if o = s.geom.inputs.orientation then s
  else coolRefresh (uncurrent .sv (uncurrent .sh (writeInputs { s.geom.inputs with orientation := o } s)))

/-- SET_ORIENTATION (R74). -/
def execSetOrientation (r : Req) (orientation : Byte) (s : State) : Host.Outcome State Fault Refusal :=
  request r .systemOnly s fun s =>
    match orientationOfCode orientation with
    | some o => (changeOrientation o s, okReply)
    | none => (s, refuse .range)

/-- The ranges of SET_PANEL (R75). -/
def panelInRange (w h g : Nat) : Bool :=
  decide (640 ≤ w) && decide (w ≤ 3840) && decide (360 ≤ h) && decide (h ≤ 2160)
    && (decide (g = 5) || decide (g = 9) || decide (g = 17))

/-- A bank marked INVALID unless it is FILLING; the live bank is never FILLING (R95). -/
def Bank.invalidated (b : Bank) : Bank := if b.state = .filling then b else { b with state := .invalid }

/-- Both banks marked INVALID at an accepted SET_PANEL (R95). -/
def invalidateBanks (b : Banks) : Banks := { b with a := b.a.invalidated, b := b.b.invalidated }

/-- An accepted SET_PANEL: it acts as a recompute request whether or not a field changes (R75, R84, R95). -/
def changePanel (w h g : Nat) (s : State) : State :=
  recompute
    ((s.withBanks (invalidateBanks s.banks)).withGeom { s.geom with inputs := { s.geom.inputs with w := w, h := h, g := g } })

/-- SET_PANEL (R75, R95). -/
def execSetPanel (r : Req) (w h : Half) (g : Byte) (s : State) : Host.Outcome State Fault Refusal :=
  request r .systemOnly s fun s =>
    if s.stream.mode ≠ .off then (s, refuse .busy)
    else if panelInRange w.toNat h.toNat g.toNat then (changePanel w.toNat h.toNat g.toNat s, okReply)
    else (s, refuse .range)

/-- GET_GEOMETRY (R90). -/
def execGetGeometry (r : Req) (s : State) : Host.Outcome State Fault Refusal :=
  reading r s fun s => dataReply (geometryData s)

/-- The completion of the compute in progress (R86). With no compute there is none (log 27). -/
def computeDone (s : State) : State :=
  match s.geom.engine, s.geom.bank, s.geom.snapshot with
  | .computing, some n, some i => completeCompute n i s
  | .computing, some _, none => s
  | .computing, none, _ => s
  | .idle, _, _ => s
  | .swapPending, _, _ => s

/-- The completion of a compute (R86). -/
def execComputeComplete (s : State) : Host.Outcome State Fault Refusal := event s computeDone

/-! ### Stream -/

/-- A new stream mode (R97). -/
def changeMode (m : StreamMode) (s : State) : State :=
  if m = s.stream.mode then s
  else if m = .off then exchangePending .both (clearStream .off s)
  else if s.stream.mode = .off then s.withStream { s.stream with mode := m }
  else clearStream m s

/-- SET_STREAM (R97). -/
def execSetStream (r : Req) (mode : Byte) (s : State) : Host.Outcome State Fault Refusal :=
  request r .pictureOnly s fun s =>
    match modeOfCode mode with
    | some m => (changeMode m s, okReply)
    | none => (s, refuse .range)

/-- READ_GRID of a row, by the checks of R107. -/
def gridReply (row : Nat) (s : State) : Reply :=
  match s.banks.live with
  | none => refuse .empty
  | some n =>
    let b := s.banks.get n
    if b.state ≠ .valid then refuse .empty
    else if row < b.g then dataReply (gridData n b row)
    else refuse .range

/-- READ_GRID (R107). -/
def execReadGrid (r : Req) (row : Byte) (s : State) : Host.Outcome State Fault Refusal :=
  reading r s (gridReply row.toNat)

/-- GET_STREAM (R108). -/
def execGetStream (r : Req) (s : State) : Host.Outcome State Fault Refusal :=
  reading r s fun s => dataReply (streamData s)

/-- A frame strobe (R98, R103). -/
def execFrameStrobe (s : State) : Host.Outcome State Fault Refusal := event s frameStrobe

/-- A band strobe (R100, R101). -/
def execBandStrobe (s : State) : Host.Outcome State Fault Refusal := event s bandStrobe

/-- A word of the grid stream is completed (R96, R99 to R101). -/
def execStreamWordSent (s : State) : Host.Outcome State Fault Refusal := event s wordSent

end Sys2Proof.Machine
end

