-- ==== Sys2Proof/Machine/ThermalCmds.lean ====
section
/-! DEFINITION. The meanings of the thermal requests and of the measurement events (R111 to R145). -/

namespace Sys2Proof.Machine

/-- A temperature within −400 to +1500 tenths. -/
def tempInRange (t : Int) : Bool := decide (Config.tempMin ≤ t) && decide (t ≤ Config.tempMax)

/-! ### Zones and curves -/

/-- The ranges of SET_ZONE (R130). -/
def zoneInRange (members : PerChan Bool) (warm hot crit : Int) (derate : Nat) : Bool :=
  members.any && tempInRange warm && tempInRange hot && tempInRange crit && decide (warm < hot) && decide (hot < crit)
    && decide (10 ≤ derate) && decide (derate ≤ 100)

/-- An accepted SET_ZONE: state and CRITICAL age are kept, the temperature is formed again (R130). -/
def writeZone (z : Zone) (members : PerChan Bool) (p : ZoneParams) (s : State) : State :=
  let x : ZoneRec :=
    { s.cool.zones.get z with
      members := members, warm := p.warm.toInt, hot := p.hot.toInt, crit := p.crit.toInt, derate := p.derate.toNat }
  coolRefresh (s.withCool { s.cool with zones := s.cool.zones.set z (x.formed s.cool.readings) })

/-- SET_ZONE (R130). -/
def execSetZone (r : Req) (zone : Byte) (p : ZoneParams) (s : State) : Host.Outcome State Fault Refusal :=
  request r .systemOnly s fun s =>
    match zoneOfCode zone, chanSetOfBits p.members with
    | some z, some m =>
      if zoneInRange m p.warm.toInt p.hot.toInt p.crit.toInt p.derate.toNat then (writeZone z m p s, okReply)
      else (s, refuse .range)
    | some _, none => (s, refuse .range)
    | none, some _ => (s, refuse .range)
    | none, none => (s, refuse .range)

/-- The points a SET_CURVE carries. -/
def pointsOf (l : List PointParam) : List CurvePoint := l.map fun p => ⟨p.t.toInt, p.d.toNat⟩

/-- Temperatures strictly rise and duties do not fall along a curve (R131). -/
def curveRises : List CurvePoint → Bool
  | [] => true
  | [_] => true
  | x :: y :: rest => decide (x.t < y.t) && decide (x.d ≤ y.d) && curveRises (y :: rest)

/-- The checks of SET_CURVE (R132). -/
def curveInRange (l : List CurvePoint) : Bool :=
  (l.all fun p => tempInRange p.t && decide (p.d ≤ 100)) && curveRises l

/-- A curve replaced (R132). -/
def writeCurve (o : Orientation) (z : Zone) (l : List CurvePoint) (s : State) : State :=
  coolRefresh
    (match o with
    | .floor => s.withCool { s.cool with floorSet := s.cool.floorSet.set z l }
    | .ceiling => s.withCool { s.cool with ceilingSet := s.cool.ceilingSet.set z l })

/-- SET_CURVE (R132). -/
def execSetCurve (r : Req) (set zone : Byte) (points : List PointParam) (s : State) :
    Host.Outcome State Fault Refusal :=
  if points.length = 6 then
    request r .systemOnly s fun s =>
      match orientationOfCode set, zoneOfCode zone with
      | some o, some z =>
        if curveInRange (pointsOf points) then (writeCurve o z (pointsOf points) s, okReply) else (s, refuse .range)
      | some _, none => (s, refuse .range)
      | none, some _ => (s, refuse .range)
      | none, none => (s, refuse .range)
  else malformed r s

/-- GET_CURVE (R145). -/
def execGetCurve (r : Req) (set zone : Byte) (s : State) : Host.Outcome State Fault Refusal :=
  reading r s fun s =>
    match orientationOfCode set, zoneOfCode zone with
    | some o, some z => dataReply (curveData ((s.cool.curveSet o).get z))
    | some _, none => refuse .range
    | none, some _ => refuse .range
    | none, none => refuse .range

/-! ### Fans -/

/-- The ranges of SET_FAN (R137). -/
def fanInRange (minDuty rpmMin rpmMax : Nat) : Bool :=
  decide (10 ≤ minDuty) && decide (minDuty ≤ 60) && decide (100 ≤ rpmMin) && decide (rpmMax ≤ 20000)
    && decide (rpmMin < rpmMax)

/-- The settings of a fan written (R137). -/
def FanRec.settings (f : FanRec) (present : Bool) (served : PerZone Bool) (p : FanParams) : FanRec :=
  { f with
    present := present, served := served, minDuty := p.minDuty.toNat, rpmMin := p.rpmMin.toNat
    rpmMax := p.rpmMax.toNat }

/-- The values of an absent fan (R133). -/
def FanRec.absent (f : FanRec) : FanRec :=
  { f with target := 0, commanded := 0, state := .ok, strikes := 0, goodRun := 0, grace := 0 }

/-- The values of a fan that becomes present, with the reading its tach ring gives (R137). -/
def FanRec.fitted (f : FanRec) (rpm : Nat) : FanRec :=
  { f with commanded := 0, state := .ok, strikes := 0, goodRun := 0, grace := 0, reading := rpm }

/-- A fan after an accepted SET_FAN, before its target is computed (R137). -/
def FanRec.afterSet (f : FanRec) (present : Bool) (served : PerZone Bool) (p : FanParams) (rpm : Nat) : FanRec :=
  match f.present, present with
  | true, false => (f.settings present served p).absent
  | false, true => (f.settings present served p).fitted rpm
  | true, true => f.settings present served p
  | false, false => f.settings present served p

/-- An accepted SET_FAN (R137, R141, R142). -/
def writeFan (f : Fan) (present : Bool) (served : PerZone Bool) (p : FanParams) (s : State) : State :=
  let rpm := rpmOf (s.meas.tach.get f).buckets
  let x := (s.cool.fans.get f).afterSet present served p rpm
  coolRefresh (failedSetEffects s.cool.fans (s.withCool { s.cool with fans := s.cool.fans.set f x }))

/-- SET_FAN of a fan (R137, R190). -/
def fanRequest (f : Fan) (p : FanParams) (s : State) : State × Reply :=
  match yesNoOfCode p.present, zoneSetOfBits p.served with
  | some present, some served =>
    if fanInRange p.minDuty.toNat p.rpmMin.toNat p.rpmMax.toNat then (writeFan f present served p s, okReply)
    else (s, refuse .range)
  | some _, none => (s, refuse .range)
  | none, some _ => (s, refuse .range)
  | none, none => (s, refuse .range)

/-- SET_FAN (R137). -/
def execSetFan (r : Req) (fan : Byte) (p : FanParams) (s : State) : Host.Outcome State Fault Refusal :=
  request r .systemOnly s fun s =>
    match fanOfCode fan with
    | some f => fanRequest f p s
    | none => (s, refuse .range)

/-- SET_QUIET of three values (R138). -/
def quietRequest (on : Bool) (cap level : Nat) (s : State) : State × Reply :=
  if decide (cap ≤ 100) && decide (50 ≤ level) && decide (level ≤ 100) then
    (coolRefresh
        (s.withCool { s.cool with quietOn := on, quietCap := max cap Config.quietCapMin, quietLevel := level }),
      { status := .ok, clamped := decide (cap < Config.quietCapMin) })
  else (s, refuse .range)

/-- SET_QUIET (R138). -/
def execSetQuiet (r : Req) (on cap level : Byte) (s : State) : Host.Outcome State Fault Refusal :=
  request r .bothPorts s fun s =>
    match yesNoOfCode on with
    | some b => quietRequest b cap.toNat level.toNat s
    | none => (s, refuse .range)

/-- GET_THERMAL (R145). -/
def execGetThermal (r : Req) (s : State) : Host.Outcome State Fault Refusal :=
  reading r s fun s => dataReply (thermalData s)

/-! ### Measurement -/

/-- No value of a table is greater than the one before it (R114). -/
def tableFalls : List Int → Bool
  | [] => true
  | [_] => true
  | x :: y :: rest => decide (y ≤ x) && tableFalls (y :: rest)

/-- A thermistor table replaced: B when `b` is true (R114). -/
def writeTable (b : Bool) (l : List Int) (s : State) : State :=
  if b then s.withMeas { s.meas with tableB := l } else s.withMeas { s.meas with tableA := l }

/-- SET_THERM_TABLE (R114). -/
def execSetThermTable (r : Req) (table : Byte) (values : List Half) (s : State) :
    Host.Outcome State Fault Refusal :=
  if values.length = 17 then
    request r .systemOnly s fun s =>
      match tableOfCode table with
      | some b =>
        let l := values.map (·.toInt)
        if l.all tempInRange && tableFalls l then (writeTable b l s, okReply) else (s, refuse .range)
      | none => (s, refuse .range)
  else malformed r s

/-- GET_THERM_TABLE (R124). -/
def execGetThermTable (r : Req) (table : Byte) (s : State) : Host.Outcome State Fault Refusal :=
  reading r s fun s =>
    match tableOfCode table with
    | some true => dataReply (tableData s.meas.tableB)
    | some false => dataReply (tableData s.meas.tableA)
    | none => refuse .range

/-- GET_SENSORS (R124). -/
def execGetSensors (r : Req) (s : State) : Host.Outcome State Fault Refusal :=
  reading r s fun s => dataReply (sensorsData s)

/-- SET_TRIP (R122). -/
def execSetTrip (r : Req) (comp k : Byte) (s : State) : Host.Outcome State Fault Refusal :=
  request r .systemOnly s fun s =>
    match compOfCode comp with
    | some c =>
      if decide (1 ≤ k.toNat) && decide (k.toNat ≤ 15) then
        (s.withMeas (s.meas.setComp c (Comparator.compare { s.meas.comp c with k := k.toNat })), okReply)
      else (s, refuse .range)
    | none => (s, refuse .range)

/-- A latch cleared. -/
def clearLatch (m : Measure) (c : Comp) : Measure := m.setComp c { m.comp c with latch := false }

/-- CLEAR_TRIP of the comparators of a list (R121). -/
def clearTripRequest (l : List Comp) (s : State) : State × Reply :=
  if l.any fun c => (s.meas.comp c).latch && (s.meas.comp c).active then (s, refuse .busy)
  else if l.any fun c => (s.meas.comp c).latch then (tripCleared (s.withMeas (l.foldl clearLatch s.meas)), okReply)
  else (s, okReply)

/-- CLEAR_TRIP (R121). -/
def execClearTrip (r : Req) (comp : Byte) (s : State) : Host.Outcome State Fault Refusal :=
  request r .systemOnly s fun s =>
    match compsOfCode comp with
    | some l => clearTripRequest l s
    | none => (s, refuse .range)

/-- An ADC conversion ends with a code (R111, R113 to R118). -/
def execConversionComplete (code : BitVec 12) (s : State) : Host.Outcome State Fault Refusal :=
  event s (conversionComplete code.toNat)

/-- The input of a comparator changes (R119; log 28). The input keeps its level with no supply (log 8). -/
def execTripInputChange (comp : Comp) (level : Nat) (s : State) : Host.Outcome State Fault Refusal :=
  let x := { s.meas.comp comp with level := level }
  .next (s.withMeas (s.meas.setComp comp (if s.powered then x.compare else x)))

/-- The persistence time of a comparator reaches 2 ms (R119, R120). -/
def execTripLatchSet (comp : Comp) (s : State) : Host.Outcome State Fault Refusal := event s (tripLatchSet comp)

/-- A tach pulse of a fan (R123). -/
def execTachPulse (fan : Fan) (s : State) : Host.Outcome State Fault Refusal :=
  event s fun s => s.withMeas { s.meas with tach := s.meas.tach.set fan (s.meas.tach.get fan).pulse }

/-- A FAILED channel's failure age reaches 10 (R116; log 3). -/
def execSensorSubstitution (chan : Chan) (s : State) : Host.Outcome State Fault Refusal :=
  event s (sensorSubstitution chan)

/-- A zone's CRITICAL age reaches 60 (R129; log 3). -/
def execCriticalPersisted (zone : Zone) (s : State) : Host.Outcome State Fault Refusal :=
  event s (criticalPersisted zone)

end Sys2Proof.Machine
end

