-- ==== Sys2Proof/Machine/Dispatch.lean ====
section
/-! DEFINITION. One arm per command: the direct call of its meaning. -/

namespace Sys2Proof.Machine

/-- The effect of a command on everything but the queue of waiting commands. -/
def exec (i : Instr) (s : State) : Host.Outcome State Fault Refusal :=
  match i with
  | .getIdent r => Sys2Proof.Machine.execGetIdent r s
  | .getStatus r => Sys2Proof.Machine.execGetStatus r s
  | .readEvents r => Sys2Proof.Machine.execReadEvents r s
  | .setMask r flags => Sys2Proof.Machine.execSetMask r flags s
  | .setUnits r unit => Sys2Proof.Machine.execSetUnits r unit s
  | .softReset r => Sys2Proof.Machine.execSoftReset r s
  | .resync r => Sys2Proof.Machine.execResync r s
  | .move r axis target => Sys2Proof.Machine.execMove r axis target s
  | .shift r axis demand => Sys2Proof.Machine.execShift r axis demand s
  | .home r axis => Sys2Proof.Machine.execHome r axis s
  | .jog r axis dir level => Sys2Proof.Machine.execJog r axis dir level s
  | .jogKeep r axis => Sys2Proof.Machine.execJogKeep r axis s
  | .stop r axis => Sys2Proof.Machine.execStop r axis s
  | .getAxis r axis => Sys2Proof.Machine.execGetAxis r axis s
  | .getQueue r => Sys2Proof.Machine.execGetQueue r s
  | .getShift r => Sys2Proof.Machine.execGetShift r s
  | .setAxis r axis p => Sys2Proof.Machine.execSetAxis r axis p s
  | .setRamp r axis levels => Sys2Proof.Machine.execSetRamp r axis levels s
  | .recallMemory r slot => Sys2Proof.Machine.execRecall r slot s
  | .store r slot => Sys2Proof.Machine.execStore r slot s
  | .erase r slot => Sys2Proof.Machine.execErase r slot s
  | .getMemory r slot => Sys2Proof.Machine.execGetMemory r slot s
  | .setKeystone r kv kh => Sys2Proof.Machine.execSetKeystone r kv kh s
  | .setOrientation r orientation => Sys2Proof.Machine.execSetOrientation r orientation s
  | .setPanel r w h g => Sys2Proof.Machine.execSetPanel r w h g s
  | .getGeometry r => Sys2Proof.Machine.execGetGeometry r s
  | .setStream r mode => Sys2Proof.Machine.execSetStream r mode s
  | .readGrid r row => Sys2Proof.Machine.execReadGrid r row s
  | .getStream r => Sys2Proof.Machine.execGetStream r s
  | .setZone r zone p => Sys2Proof.Machine.execSetZone r zone p s
  | .setCurve r set zone points => Sys2Proof.Machine.execSetCurve r set zone points s
  | .setFan r fan p => Sys2Proof.Machine.execSetFan r fan p s
  | .setQuiet r on cap level => Sys2Proof.Machine.execSetQuiet r on cap level s
  | .setThermTable r table values => Sys2Proof.Machine.execSetThermTable r table values s
  | .setTrip r comp k => Sys2Proof.Machine.execSetTrip r comp k s
  | .clearTrip r comp => Sys2Proof.Machine.execClearTrip r comp s
  | .getSensors r => Sys2Proof.Machine.execGetSensors r s
  | .getThermTable r table => Sys2Proof.Machine.execGetThermTable r table s
  | .getThermal r => Sys2Proof.Machine.execGetThermal r s
  | .getCurve r set zone => Sys2Proof.Machine.execGetCurve r set zone s
  | .lightOn r => Sys2Proof.Machine.execLightOn r s
  | .lightOff r => Sys2Proof.Machine.execLightOff r s
  | .clearFault r => Sys2Proof.Machine.execClearFault r s
  | .getPhase r => Sys2Proof.Machine.execGetPhase r s
  | .setTracking r p => Sys2Proof.Machine.execSetTracking r p s
  | .getTracking r => Sys2Proof.Machine.execGetTracking r s
  | .badRequest port frame => Sys2Proof.Machine.execBadRequest port frame s
  | .frameCutShort port => Sys2Proof.Machine.execFrameCutShort port s
  | .readResponse port n => Sys2Proof.Machine.execReadResponse port n s
  | .powerOn addr => Sys2Proof.Machine.execPowerOn addr s
  | .resetPin addr => Sys2Proof.Machine.execResetPin addr s
  | .picPresentChange level => Sys2Proof.Machine.execPicPresentChange level s
  | .presentFilterExpiry => Sys2Proof.Machine.execPresentFilterExpiry s
  | .homeSwitchChange axis level => Sys2Proof.Machine.execHomeSwitchChange axis level s
  | .homeFilterExpiry axis => Sys2Proof.Machine.execHomeFilterExpiry axis s
  | .stepEvent axis => Sys2Proof.Machine.execStepEvent axis s
  | .dividerAdvance order => Sys2Proof.Machine.execDividerAdvance order s
  | .coilRelease axis => Sys2Proof.Machine.execCoilRelease axis s
  | .jogExpiry axis place => Sys2Proof.Machine.execJogExpiry axis place s
  | .criticalPersisted zone => Sys2Proof.Machine.execCriticalPersisted zone s
  | .sensorSubstitution chan => Sys2Proof.Machine.execSensorSubstitution chan s
  | .cooldownTimeout => Sys2Proof.Machine.execCooldownTimeout s
  | .parkTimeout => Sys2Proof.Machine.execParkTimeout s
  | .rampStep => Sys2Proof.Machine.execRampStep s
  | .conversionComplete code => Sys2Proof.Machine.execConversionComplete code s
  | .tripInputChange comp level => Sys2Proof.Machine.execTripInputChange comp level s
  | .tripLatchSet comp => Sys2Proof.Machine.execTripLatchSet comp s
  | .tachPulse fan => Sys2Proof.Machine.execTachPulse fan s
  | .frameStrobe => Sys2Proof.Machine.execFrameStrobe s
  | .bandStrobe => Sys2Proof.Machine.execBandStrobe s
  | .streamWordSent => Sys2Proof.Machine.execStreamWordSent s
  | .computeComplete => Sys2Proof.Machine.execComputeComplete s
  | .writeComplete => Sys2Proof.Machine.execWriteComplete s
  | .powerFail => Sys2Proof.Machine.execPowerFail s

end Sys2Proof.Machine
end

