-- ==== Sys2Proof/Safety.lean ====
section
/-! DEFINITION. What counts as a safe state: the facts the rules promise in every state, in the terms the statements
use. -/

namespace Sys2Proof.Machine

/-! ### Light -/

/-- The three output lines follow the phase and the latches (R162 to R164). -/
structure LinesFollow (s : State) : Prop where
  permit : s.phase.lightPermit = isLight s.phase.phase
  done : s.phase.coolDone = decide (s.phase.phase = .dark)
  fault : s.phase.faultN = (decide (s.phase.phase = .fault) || latched s)

/-- Neither latch is set and no zone is CRITICAL (R150, line 3). -/
def Cool (s : State) : Prop := latched s = false ∧ ∀ z, (s.cool.zones.get z).state ≠ .critical

/-- What keeps the light off a hot engine (R143, R153, R155, R162): the lines follow, no light is permitted or capped above
0 unless the engine is cool, and a restrike is pending only in COOLDOWN and while the engine is cool. -/
structure LightSafe (s : State) : Prop where
  lines : LinesFollow s
  cap : s.phase.lightPermit = false → s.cool.lightCap = 0
  permit : s.phase.lightPermit = true → Cool s
  restrike : s.phase.restrike = true → s.phase.phase = .cooldown ∧ Cool s

/-! ### Ports -/

/-- A port's attention line follows its flags and mask (R186), and its list holds at most eight notices (R184). -/
structure PortSafe (p : PortRec) : Prop where
  attn : p.attn = attnOf p.flags p.mask
  notices : p.notices.length ≤ Config.noticeCapacity

/-- Both ports are safe. -/
def PortsSafe (s : State) : Prop := ∀ p, PortSafe (s.port p)

/-! ### Engine and banks -/

/-- The bank the engine fills or holds is not the live one, and no other bank is FILLING (R84 to R86, R93). -/
def EngineSafe (s : State) : Prop :=
  match s.geom.engine with
  | .idle => ∀ n, (s.banks.get n).state ≠ .filling
  | .computing =>
    ∃ n, s.geom.bank = some n ∧ s.banks.live ≠ some n ∧ ∀ m, (s.banks.get m).state = .filling → m = n
  | .swapPending =>
    ∃ n, s.geom.bank = some n ∧ s.banks.live ≠ some n ∧ ∀ m, (s.banks.get m).state ≠ .filling

/-! ### Shift demand and tracking -/

/-- The excess of each shift demand record stands in the geometry inputs (R50, R73). -/
def ExcessAgrees (s : State) : Prop :=
  s.geom.inputs.excessH = s.shift.sh.excess ∧ s.geom.inputs.excessV = s.shift.sv.excess

/-- The tracking offset applied lies within the limit (R171). -/
def OffsetWithin (s : State) : Prop := s.track.applied.natAbs ≤ s.track.limit

/-! ### Cooling -/

/-- The fan targets and the light cap are what their rules give for the state as it stands, and a forced fan runs at 100
percent (R134, R135, R143, R144). -/
def Settled (s : State) : Prop := refreshFans s = s.cool.fans ∧ lightCapOf s = s.cool.lightCap

/-! ### Scheduler -/

/-- No more slots are GRANTED than the motion allowance (R35, R37, R40). -/
def GrantsWithin (s : State) : Prop := s.sched.grantedCount ≤ allowance s

/-- The slots, the held list and the motion records name the axes that their rules give: a slot is GRANTED to an axis in
MOVING, HOMING or JOGGING and RUNDOWN for one in STOPPING (R29), the held list is that of the HELD axes (R28), the axes in
motion or HELD have the motion records (R28, R41), and a HELD axis has something to resume (R16, R42). -/
structure SlotsAgree (s : State) : Prop where
  granted : ∀ a, s.sched.slot1 = .granted a ∨ s.sched.slot2 = .granted a ↔
    (s.chan a).state = .moving ∨ (s.chan a).state = .homing ∨ (s.chan a).state = .jogging
  rundown : ∀ a, s.sched.slot1 = .rundown a ∨ s.sched.slot2 = .rundown a ↔ (s.chan a).state = .stopping
  distinct : ∀ a, ¬(s.sched.slot1.holder = some a ∧ s.sched.slot2.holder = some a)
  held : ∀ a, a ∈ s.sched.held ↔ (s.chan a).state = .held
  heldOnce : s.sched.held.Nodup
  records : ∀ a, (s.sched.records.get a).isSome = true ↔
    inMotion (s.chan a).state = true ∨ (s.chan a).state = .held
  resumable : ∀ a, (s.chan a).state = .held → (s.chan a).target.isSome = true ∨ (s.chan a).heldHome = true

/-- The number of slots that are not FREE (R29). -/
def slotsTaken (q : Scheduler) : Nat := (decide (q.slot1 ≠ .free)).toNat + (decide (q.slot2 ≠ .free)).toNat

/-- An axis has at most one queued entry (R31). -/
def OneEntry (s : State) : Prop := (s.sched.queue.map (·.axis)).Nodup

/-! ### Coils -/

/-- The coils of an energized axis carry the entry of its phase index, one of the 32 (R9 to R11). -/
structure CoilsFollow (c : Channel) : Prop where
  index : c.phaseIndex < Config.phaseEntries
  buffer : c.buffer < Config.phaseEntries
  driven : c.energized = true → c.coilA = (coilPattern c.phaseIndex).1 ∧ c.coilB = (coilPattern c.phaseIndex).2

/-- The coils of every axis follow. -/
def CoilsSafe (s : State) : Prop := ∀ a, CoilsFollow (s.chan a)

/-! ### Store -/

/-- The store holds ten records (R58). -/
def TenRecords (s : State) : Prop := s.mem.records.length = Config.memorySlots

/-! ### Forms the statements use -/

/-- A command completes: it answers a next state, of which `P` holds. -/
def Completes (i : Instr) (s : State) (P : State → Prop) : Prop := ∃ t, exec i s = .next t ∧ P t

/-- Several commands taken one after another. -/
def runAll : List Instr → State → Host.Outcome State Fault Refusal
  | [], s => .next s
  | i :: rest, s =>
    match exec i s with
    | .next t => runAll rest t
    | .fault r => .fault r
    | .refused r => .refused r

/-- A port takes a request of a privilege class (R177, R182). -/
def Takes (s : State) (r : Req) (c : Privilege) : Prop := portTakes s r.port = true ∧ allowedOn c r.port = true

/-- The state with the response of a request formed on it. -/
def answered (r : Req) (x : Reply) (s : State) : State := respond r.port r.tag x s

/-- The request of a command with its privilege class (R182), `none` for an event or a transaction that is none. -/
def requestOf : Instr → Option (Req × Privilege)
  | .getIdent r => some (r, .bothPorts)
  | .getStatus r => some (r, .bothPorts)
  | .readEvents r => some (r, .bothPorts)
  | .setMask r _ => some (r, .bothPorts)
  | .setUnits r _ => some (r, .bothPorts)
  | .softReset r => some (r, .systemOnly)
  | .resync r => some (r, .pictureOnly)
  | .move r _ _ => some (r, .bothPorts)
  | .shift r _ _ => some (r, .bothPorts)
  | .home r _ => some (r, .bothPorts)
  | .jog r _ _ _ => some (r, .bothPorts)
  | .jogKeep r _ => some (r, .bothPorts)
  | .stop r _ => some (r, .bothPorts)
  | .getAxis r _ => some (r, .bothPorts)
  | .getQueue r => some (r, .bothPorts)
  | .getShift r => some (r, .bothPorts)
  | .setAxis r _ _ => some (r, .systemOnly)
  | .setRamp r _ _ => some (r, .systemOnly)
  | .recallMemory r _ => some (r, .bothPorts)
  | .store r _ => some (r, .bothPorts)
  | .erase r _ => some (r, .bothPorts)
  | .getMemory r _ => some (r, .bothPorts)
  | .setKeystone r _ _ => some (r, .bothPorts)
  | .setOrientation r _ => some (r, .systemOnly)
  | .setPanel r _ _ _ => some (r, .systemOnly)
  | .getGeometry r => some (r, .bothPorts)
  | .setStream r _ => some (r, .pictureOnly)
  | .readGrid r _ => some (r, .bothPorts)
  | .getStream r => some (r, .bothPorts)
  | .setZone r _ _ => some (r, .systemOnly)
  | .setCurve r _ _ _ => some (r, .systemOnly)
  | .setFan r _ _ => some (r, .systemOnly)
  | .setQuiet r _ _ _ => some (r, .bothPorts)
  | .setThermTable r _ _ => some (r, .systemOnly)
  | .setTrip r _ _ => some (r, .systemOnly)
  | .clearTrip r _ => some (r, .systemOnly)
  | .getSensors r => some (r, .bothPorts)
  | .getThermTable r _ => some (r, .bothPorts)
  | .getThermal r => some (r, .bothPorts)
  | .getCurve r _ _ => some (r, .bothPorts)
  | .lightOn r => some (r, .systemOnly)
  | .lightOff r => some (r, .systemOnly)
  | .clearFault r => some (r, .systemOnly)
  | .getPhase r => some (r, .bothPorts)
  | .setTracking r _ => some (r, .systemOnly)
  | .getTracking r => some (r, .bothPorts)
  | .badRequest _ _ => none
  | .frameCutShort _ => none
  | .readResponse _ _ => none
  | .powerOn _ => none
  | .resetPin _ => none
  | .picPresentChange _ => none
  | .presentFilterExpiry => none
  | .homeSwitchChange _ _ => none
  | .homeFilterExpiry _ => none
  | .stepEvent _ => none
  | .dividerAdvance _ => none
  | .coilRelease _ => none
  | .jogExpiry _ _ => none
  | .criticalPersisted _ => none
  | .sensorSubstitution _ => none
  | .cooldownTimeout => none
  | .parkTimeout => none
  | .rampStep => none
  | .conversionComplete _ => none
  | .tripInputChange _ _ => none
  | .tripLatchSet _ => none
  | .tachPulse _ => none
  | .frameStrobe => none
  | .bandStrobe => none
  | .streamWordSent => none
  | .computeComplete => none
  | .writeComplete => none
  | .powerFail => none

/-! ### Resets -/

/-- What a device reset leaves (R188): every block at its reset values, the pins at their levels, the store with the
record being written EMPTY (R62). -/
structure AfterReset (cause : ResetCause) (addr : Bool) (s t : State) : Prop where
  pending : t.pending = s.pending
  powered : t.powered = true
  resetCause : t.resetCause = cause
  addrPin : t.addrPin = addr
  addrStrap : t.addrStrap = addr
  chan : ∀ a, t.chan a =
    { State.reset.chan a with
      switch := { pin := (s.chan a).switch.pin, filtered := (s.chan a).switch.pin, stable := false, edgePos := 0
                  edgeUp := false } }
  sched : t.sched = resetSched
  shift : t.shift = { sh := resetDemand, sv := resetDemand }
  job : t.mem.job = none
  kept : ∀ n, (∀ j, s.mem.job = some j → j.slot ≠ n) → t.mem.records[n]? = s.mem.records[n]?
  cut : ∀ j, s.mem.job = some j → (t.mem.records[j.slot]?).join = none
  recallUnit : t.recallUnit = { ctx := none, nextNumber := 0 }
  geom : t.geom = resetGeometry
  banks : t.banks = resetBanks
  stream : t.stream = resetStream
  divider : t.divider = 0
  chans : ∀ c, t.meas.chans.get c = resetChan
  scan : t.meas.scan = .laser ∧ t.meas.scanGiven = false
  tables : t.meas.tableA = defaultTableA ∧ t.meas.tableB = defaultTableB
  comparators : ∀ c, t.meas.comp c =
    { k := 3, level := (s.meas.comp c).level, active := decide ((s.meas.comp c).level < 768)
      running := decide ((s.meas.comp c).level < 768), latch := false }
  tach : ∀ f, t.meas.tach.get f = resetTach
  cool : t.cool = resetCooling
  phase : t.phase = resetPhase
  track : t.track = resetTracker
  ports : ∀ p, t.port p = resetPort
  presence : t.presence =
    { pin := s.presence.pin, filtering := false, present := s.presence.pin, resetCount := 0, lastCause := .never }
  lines : gsValid t = false ∧ (∀ n, gsDat t n = false) ∧ gsClkRuns t = true

/-- The generation that the next exchange gives (R94). -/
def generationNext (b : Banks) : Half :=
  match b.live with
  | none => 0
  | some n => (b.get n).generation + 1

/-- What a picture-port reset leaves, the unread response apart (R189, R88, R105). A send in progress ends with its word
(R104; log 18), and the frame generation stands (log 42). -/
structure AfterPictureReset (cause : PicResetCause) (s t : State) : Prop where
  port : t.picPort =
    { unread := t.picPort.unread, flags := 0, mask := 0, notices := [], lost := false, unit := .steps, attn := false
      lastRead := s.picPort.lastRead }
  count : t.presence.resetCount = s.presence.resetCount + 1
  cause : t.presence.lastCause = cause
  pin : t.presence.pin = s.presence.pin
  still : s.stream.activity = .idle → t.stream =
    { s.stream with
      mode := .off, frameBank := none, wordCount := 0, rowPtr := 0, bandPending := false, lastOverrun := .never
      finishing := none }
  sending : s.stream.activity ≠ .idle → t.stream =
    { s.stream with
      mode := .off, lastOverrun := .never
      finishing := some { word := wordOut s, strobe := false, begins := none, bands := 0, reset := true } }
  noExchange : s.geom.engine ≠ .swapPending → t.geom = s.geom ∧ t.banks = s.banks ∧ t.sysPort = s.sysPort
  exchange : ∀ n m : BankName, s.geom.engine = .swapPending → s.geom.bank = some n → m ≠ n →
    t.geom = { s.geom with engine := .idle, restart := false, bank := none, snapshot := none }
      ∧ t.banks.live = some n ∧ t.banks.shadow = m
      ∧ t.banks.get n = { s.banks.get n with generation := generationNext s.banks } ∧ t.banks.get m = s.banks.get m
      ∧ t.sysPort = s.sysPort.raise .geometryLive
  untouched : t.pending = s.pending ∧ t.powered = s.powered ∧ t.resetCause = s.resetCause ∧ t.addrPin = s.addrPin
    ∧ t.addrStrap = s.addrStrap ∧ t.axes = s.axes ∧ t.sched = s.sched ∧ t.shift = s.shift ∧ t.mem = s.mem
    ∧ t.recallUnit = s.recallUnit ∧ t.divider = s.divider ∧ t.meas = s.meas ∧ t.cool = s.cool ∧ t.phase = s.phase
    ∧ t.track = s.track

/-! ### Motion requests -/

/-- The byte that names an axis (R190). -/
def axisByte (a : Axis) : Byte := BitVec.ofNat 8 (axisCode a)

/-- The byte that names a direction (R190). -/
def dirByte (d : Dir) : Byte := BitVec.ofNat 8 (dirCode d)

/-- A motion request of a port on an axis: the command, the motion as R31 places it, and whether it was clamped. A MOVE
is one in STEPS. -/
inductive MotionAsk (s : State) (r : Req) (a : Axis) : Instr → Motion → Bool → Prop where
  | move (t : Quadword) (h : unitOf (s.port r.port).unit r.qual = .steps) :
    MotionAsk s r a (.move r (axisByte a) t)
      (.move (clampInt (s.chan a).settings.softMin (s.chan a).settings.softMax t.toInt))
      (decide (t.toInt < (s.chan a).settings.softMin ∨ (s.chan a).settings.softMax < t.toInt))
  | home : MotionAsk s r a (.home r (axisByte a)) .home false
  | jog (d : Dir) (l : Byte) (h : ¬(s.geom.inputs.orientation = .ceiling ∧ (a = .sh ∨ a = .sv))) :
    MotionAsk s r a (.jog r (axisByte a) (dirByte d) l) (.jog d (min l.toNat 11) 13) (decide (11 < l.toNat))
  | jogTurned (d e : Dir) (l : Byte) (hd : d ≠ e) (h : s.geom.inputs.orientation = .ceiling ∧ (a = .sh ∨ a = .sv)) :
    MotionAsk s r a (.jog r (axisByte a) (dirByte d) l) (.jog e (min l.toNat 11) 13) (decide (11 < l.toNat))

/-- Every motion request of a port on an axis, in either unit. `home`: it is a HOME, which needs no reference (R30).
`demand`: it is a screen-referenced demand, which an absent axis takes (R53). -/
inductive MotionRequest (s : State) (r : Req) (a : Axis) : Instr → (home demand : Bool) → Prop where
  | move (t : Quadword) (h : unitOf (s.port r.port).unit r.qual = .steps) :
    MotionRequest s r a (.move r (axisByte a) t) false false
  | permille (t : Quadword) (h : unitOf (s.port r.port).unit r.qual = .permille) :
    MotionRequest s r a (.move r (axisByte a) t) false (decide (a = .sh ∨ a = .sv))
  | shift (p : Half) (h : a = .sh ∨ a = .sv) : MotionRequest s r a (.shift r (axisByte a) p) false true
  | home : MotionRequest s r a (.home r (axisByte a)) true false
  | jog (d : Dir) (l : Byte) : MotionRequest s r a (.jog r (axisByte a) (dirByte d) l) false false

/-- The phases in which motion requests of a port are refused (R30). -/
def phaseRefuses (p : Phase) : Bool := decide (p = .start) || decide (p = .cooldown) || decide (p = .fault)

/-- The checks of R30 pass for a motion on an axis. -/
def Admits (s : State) (a : Axis) (m : Motion) : Prop :=
  (s.chan a).state ≠ .absent ∧ phaseRefuses s.phase.phase = false ∧ (m = .home ∨ (s.chan a).referenced = true)

/-- The axis is neither HELD, nor IDLE at the target of the motion, nor has it a queued entry: a new entry joins the
tail (R31 to R33). -/
def JoinsTail (s : State) (a : Axis) (m : Motion) : Prop :=
  s.sched.entryOf a = none ∧ (s.chan a).state ≠ .held ∧
    ¬((s.chan a).state = .idle ∧ m = .move (s.chan a).position)

/-- A grant pass can grant nothing: no slot is FREE, or the allowance is used up (R37). -/
def NoGrant (s : State) : Prop := s.sched.hasFree = false ∨ allowance s ≤ s.sched.grantedCount

/-- The motion record a port's request makes when it replaces a held motion in place (R32; ran: log 25). -/
def portRecord (r : Req) (kind : MotionKind) (position : Int) : MotionRec :=
  { kind := kind, origin := portOrigin r.port, tag := some r.tag, shift := none, link := none, parkNo := none
    ran := true, startPos := position }

/-- An ending of a port's motion told to it: its notice and its flag (R34). -/
def PortRec.told (p : PortRec) (a : Axis) (tag : Option Byte) (e : Ending) (f : Event) : PortRec :=
  (p.notice (.move a (tag.getD 0) e)).raise f

/-- The queued jog of an axis that a JOG_KEEP of a port is taken for (R44). -/
def QueuesJog (s : State) (r : Req) (a : Axis) (en : Entry) (d : Dir) (l : Nat) : Prop :=
  s.sched.entryOf a = some en ∧ (∃ n, en.motion = .jog d l n) ∧ en.origin = portOrigin r.port

/-- The motion record of a running jog that a JOG_KEEP of a port is taken for (R44). -/
def RunsJog (s : State) (r : Req) (a : Axis) (x : MotionRec) : Prop :=
  (s.chan a).state = .jogging ∧ s.sched.records.get a = some x ∧ (∃ n, x.kind = .jog n) ∧
    x.origin = portOrigin r.port

/-- The first segment of a move to a target other than the position, and its end point (R12). A move that starts where
the approach would shows one segment (log 50). -/
def firstSegment (st : Settings) (position target : Int) : Segment × Int :=
  if st.backlash ≠ 0 ∧ st.approach = .pos ∧ target < position then
    if max (target - st.backlash) 0 = position then (.twoOfTwo, target)
    else (.oneOfTwo, max (target - st.backlash) 0)
  else if st.backlash ≠ 0 ∧ st.approach = .neg ∧ position < target then
    if min (target + st.backlash) st.travel = position then (.twoOfTwo, target)
    else (.oneOfTwo, min (target + st.backlash) st.travel)
  else (.oneOfOne, target)

/-- The position one microstep on in a direction (R9). -/
def onward (d : Dir) (position : Int) : Int :=
  match d with
  | .pos => position + 1
  | .neg => position - 1

/-- A channel after a microstep, its ramp position apart: position, phase index and coils follow the pattern buffer, and
the buffer goes on (R9). -/
def stepped (c : Channel) : Channel :=
  { c with
    position := onward c.dir c.position, phaseIndex := c.buffer, buffer := nextEntry c.dir c.buffer
    coilA := (coilPattern c.buffer).1, coilB := (coilPattern c.buffer).2 }

/-- A channel at rest after motion, in a state: coils energized still, the hold timer at 16, nothing left of the motion but
its target (R11, R16), the ramp part DECEL (log 57). -/
def rested (c : Channel) (st : AxisState) : Channel :=
  { c with
    state := st, segment := none, jog := none, homing := none, stopCause := none, ramp := ⟨0, 0, .decel⟩
    holdTimer := 16 }

/-- The scheduler with the slot of an axis FREE (R29). -/
def slotFreed (q : Scheduler) (a : Axis) : Scheduler :=
  { q with
    slot1 := if q.slot1.holder = some a then .free else q.slot1
    slot2 := if q.slot2.holder = some a then .free else q.slot2 }

/-- The last microstep of a deceleration is the next one (R8, R15). -/
def LastMicrostep (rp : RampPos) : Prop := rp.level = 0 ∧ rp.left ≤ 1 ∧ rp.part = .decel

/-- The queue entry a port's request makes (R27). -/
def portEntry (r : Req) (a : Axis) (m : Motion) (shift : Option ShiftPart) : Entry :=
  { axis := a, motion := m, origin := portOrigin r.port, tag := some r.tag, shift := shift, link := none
    parkNo := none }

/-- A SET_AXIS is in the ranges of R4 and the codes of R190, and `x` is what it writes: ZM and FC keep their centre and
k. -/
structure AxisSet (a : Axis) (old : Settings) (p : AxisParams) (x : Settings) : Prop where
  codes : p.present.toNat ≤ 1 ∧ p.approach.toNat ≤ 2
  travel : 1000 ≤ p.travel.toNat ∧ p.travel.toNat ≤ 60000
  soft : p.softMin.toNat < p.softMax.toNat ∧ p.softMax.toNat ≤ p.travel.toNat
  home : p.homeOffset.toNat ≤ p.softMin.toNat
  tolerance : 1 ≤ p.tolerance.toNat
  park : p.park.toNat = 65535 ∨ p.softMin.toNat ≤ p.park.toNat ∧ p.park.toNat ≤ p.softMax.toNat
  shift : a = .sh ∨ a = .sv →
    p.softMin.toNat ≤ p.centre.toNat ∧ p.centre.toNat ≤ p.softMax.toNat ∧ 256 ≤ p.k.toNat ∧ p.k.toNat ≤ 25600
  written : x =
    { present := decide (p.present = 1), travel := p.travel.toNat, softMin := p.softMin.toNat
      softMax := p.softMax.toNat, homeOffset := p.homeOffset.toNat, tolerance := p.tolerance.toNat
      backlash := p.backlash.toNat
      approach := if p.approach = 0 then .pos else if p.approach = 1 then .neg else .unset
      park := if p.park.toNat = 65535 then none else some p.park.toNat
      centre := if a = .sh ∨ a = .sv then p.centre.toNat else old.centre
      k := if a = .sh ∨ a = .sv then p.k.toNat else old.k }

/-- The shift demand records with that of one axis no longer current (R55). -/
def demandLost (u : ShiftUnit) (a : Axis) : ShiftUnit :=
  { sh := { u.sh with current := u.sh.current && decide (a ≠ .sh) }
    sv := { u.sv with current := u.sv.current && decide (a ≠ .sv) } }

/-- A release of the home switch is about to be taken that starts the check of R23 on axis `a` in state `st`, with error
`e`. -/
structure PassesEdge (s : State) (a : Axis) (st : AxisState) (e : Int) : Prop where
  powered : s.powered = true
  state : (s.chan a).state = st
  checked : st = .moving ∨ st = .jogging ∨ st = .stopping
  referenced : (s.chan a).referenced = true
  taken : (s.chan a).switch.stable = true ∧ (s.chan a).switch.pin = false
  positive : (s.chan a).switch.edgeUp = true ∧ (s.chan a).dir = .pos
  error : e = (s.chan a).switch.edgePos - (s.chan a).homeEdge

/-- The channel with the release taken (R19). -/
def released (c : Channel) : Channel := { c with switch := { c.switch with filtered := false, stable := false } }

/-- The ending of the motion of record `x` goes to port `p` and to nobody else (R34). -/
def ToldTo (s : State) (a : Axis) (x : MotionRec) (p : Port) : Prop :=
  s.sched.records.get a = some x ∧ x.link = none ∧ originPort x.origin = some p ∧ x.ran = true

/-! ### Profiles -/

/-- `r` microsteps from level `l` down to rest: r − A(l) of them at `l` itself, then the levels below (R25). -/
def RunsDown (table : List RampLevel) (l r : Nat) (part : RampPart) (rp : RampPos) : Prop :=
  (rampDistance table l < r → rp = ⟨l, r - rampDistance table l, part⟩) ∧
  (r = rampDistance table l → ∃ k, l = k + 1 ∧ rp = ⟨k, levelLength table k, .decel⟩)

/-- `l` is the highest level of a table with A(l) ≤ r (R25). -/
def HighestWithin (table : List RampLevel) (r l : Nat) : Prop :=
  l ≤ topLevel table ∧ rampDistance table l ≤ r ∧ ∀ k, k ≤ topLevel table → rampDistance table k ≤ r → k ≤ l

/-- The ramp position `rp` of a run after a re-sync that leaves `r` microsteps, r above 0, `old` being the one before
(R25): the level is kept while r is at least its A, and otherwise falls to the highest whose A is within r. The part is
log 53. -/
def RunResynced (table : List RampLevel) (r : Nat) (old rp : RampPos) : Prop :=
  (rampDistance table old.level ≤ r →
    (rampDistance table old.level < r → old.part = .accel → rp = old) ∧
    (old.part ≠ .accel ∨ r = rampDistance table old.level → RunsDown table old.level r .cruise rp)) ∧
  (r < rampDistance table old.level → ∃ l, HighestWithin table r l ∧ RunsDown table l r .cruise rp)

/-- The same of the deceleration of a STOPPING axis (R25): unchanged while r is at least the microsteps it still has to
run, and otherwise shortened to r, the part DECEL (log 53). -/
def StopResynced (table : List RampLevel) (r : Nat) (old rp : RampPos) : Prop :=
  (old.left + rampDistance table old.level ≤ r → rp = old) ∧
  (r < old.left + rampDistance table old.level → ∃ l, HighestWithin table r l ∧ RunsDown table l r .decel rp)

/-- `n` microsteps of a profile, `left` being the distance left before the first (R8, R9). -/
def ride (table : List RampLevel) (peak : Nat) : Nat → Nat → RampPos → RampPos
  | 0, _, rp => rp
  | n + 1, left, rp =>
    ride table peak n (left - 1) (rampStep table peak (moveMayClimb table (left - 1)) (left - 1) rp)

/-- `n` microsteps of a deceleration (R15). -/
def coast (table : List RampLevel) : Nat → RampPos → RampPos
  | 0, rp => rp
  | n + 1, rp => coast table n (decelStep table rp)

/-- A ramp table as R7 accepts it, as far as its lengths go. -/
def LengthsPositive (table : List RampLevel) : Prop := table ≠ [] ∧ ∀ l ∈ table, 1 ≤ l.length

/-- The inputs of a compute lie in the ranges of R70. -/
structure InputsInRange (i : Inputs) : Prop where
  kv : -60 ≤ i.kv ∧ i.kv ≤ 60
  kh : -60 ≤ i.kh ∧ i.kh ≤ 60
  excessH : -1000 ≤ i.excessH ∧ i.excessH ≤ 1000
  excessV : -1000 ≤ i.excessV ∧ i.excessV ≤ 1000
  w : 640 ≤ i.w ∧ i.w ≤ 3840
  h : 360 ≤ i.h ∧ i.h ≤ 2160
  g : i.g = 5 ∨ i.g = 9 ∨ i.g = 17

/-- A point lies within the panel of the inputs (R82). -/
def OnPanel (i : Inputs) (p : Point) : Prop := (0 ≤ p.x ∧ p.x ≤ 16 * i.w) ∧ 0 ≤ p.y ∧ p.y ≤ 16 * i.h

/-- A point lies within the rectangle bounded by four corners (R82). -/
structure WithinCorners (c : Corners) (p : Point) : Prop where
  left : min (min c.tl.x c.tr.x) (min c.bl.x c.br.x) ≤ p.x
  right : p.x ≤ max (max c.tl.x c.tr.x) (max c.bl.x c.br.x)
  top : min (min c.tl.y c.tr.y) (min c.bl.y c.br.y) ≤ p.y
  bottom : p.y ≤ max (max c.tl.y c.tr.y) (max c.bl.y c.br.y)

/-! ### Measurement -/

/-- The table of the die allowance: `new` follows `old` at a DIE temperature `t` (R36). -/
def DieRuled (old : Nat) (t : Int) (new : Nat) : Prop :=
  (t < 950 → new = 2) ∧
  (950 ≤ t → t < 1000 → (old = 2 → new = 2) ∧ (old ≤ 1 → new = 1)) ∧
  (1000 ≤ t → t < 1100 → new = 1) ∧
  (1100 ≤ t → t < 1150 → (old = 0 → new = 0) ∧ (1 ≤ old → new = 1)) ∧
  (1150 ≤ t → new = 0)

/-! ### Geometry -/

/-- The state after a recompute request, by the state of the engine (R84, R85). -/
def Recomputed (s t : State) : Prop :=
  match s.geom.engine with
  | .computing => t = { s with geom := { s.geom with restart := true } }
  | .idle =>
    t =
      { s with
        geom :=
          { s.geom with
            engine := .computing, restart := false, bank := some s.banks.shadow, snapshot := some s.geom.inputs }
        banks := s.banks.set s.banks.shadow { s.banks.get s.banks.shadow with state := .filling } }
  | .swapPending =>
    ∀ n, s.geom.bank = some n →
      t =
        { s with
          geom := { s.geom with engine := .computing, restart := false, snapshot := some s.geom.inputs }
          banks := s.banks.set n { s.banks.get n with state := .filling } }

/-- The geometry inputs written to `x`: nothing when no field changes, otherwise a recompute request (R71, R84). -/
def InputsTo (x : Inputs) (s t : State) : Prop :=
  (x = s.geom.inputs → t = s) ∧
  (x ≠ s.geom.inputs → Recomputed { s with geom := { s.geom with inputs := x } } t)

/-- A demand record written on a shift axis, its excess in the geometry inputs as well (R50, R73). -/
def DemandWritten (a : Axis) (d : DemandRec) (s t : State) : Prop :=
  match a with
  | .sh => InputsTo { s.geom.inputs with excessH := d.excess } { s with shift := { s.shift with sh := d } } t
  | .sv => InputsTo { s.geom.inputs with excessV := d.excess } { s with shift := { s.shift with sv := d } } t
  | .zm => t = s
  | .fc => t = s

/-- What the DONE ending of a MOVE or HOME of a port brings beside its result: the demand record of a shift axis becomes
`d` (R54), and FC anchors the tracker where it stands (R172). -/
def DoneTaken (a : Axis) (d : DemandRec) (s t : State) : Prop :=
  match a with
  | .sh => DemandWritten .sh d s t
  | .sv => DemandWritten .sv d s t
  | .zm => t = s
  | .fc =>
    t =
      { s with
        track :=
          { s.track with
            base := some (s.chan .fc).position, applied := 0
            tRef := if s.track.lensStatus = .live ∨ s.track.lensStatus = .held then s.track.tLens else none } }

/-- An exchange that makes bank `n` live (R94): the next generation, the engine IDLE, GEOMETRY_LIVE on both ports. -/
structure Exchanged (n : BankName) (s t : State) : Prop where
  live : t.banks.live = some n
  bank : t.banks.get n =
    { s.banks.get n with generation := generationNext s.banks }
  other : ∀ m, m ≠ n → t.banks.get m = s.banks.get m
  engine : t.geom = { s.geom with engine := .idle, restart := false, bank := none, snapshot := none }
  told : ∀ p, t.port p = (s.port p).raise .geometryLive
  rest : t = { s with banks := t.banks, geom := t.geom, sysPort := t.sysPort, picPort := t.picPort }

/-! ### Recall -/

/-- The target and shift part a recall has for an axis, `none` when no entry is placed (R65). -/
def recallTarget (p : Picture) (s : State) (a : Axis) : Option (Int × Option ShiftPart) :=
  if (s.chan a).state = .absent then none
  else
    match p.demandOf a with
    | some d =>
      some
        (softClamp (s.chan a).settings (shiftRaw (s.chan a).settings s.geom.inputs.orientation d),
          some ⟨d, shiftExcess (s.chan a).settings s.geom.inputs.orientation d⟩)
    | none => (p.position.get a).map fun t => (softClamp (s.chan a).settings t, none)

/-- The stored demand of an absent shift axis becomes its excess whole (R53, R65); nothing for another axis. -/
def RecallDemand (p : Picture) (a : Axis) (s t : State) : Prop :=
  match p.demandOf a with
  | some d =>
    ((s.chan a).state = .absent → DemandWritten a { demand := d, excess := d, current := true } s t) ∧
    ((s.chan a).state ≠ .absent → t = s)
  | none => t = s

/-- Admission moves the target a recall has for an axis (R64). -/
def recallClamped (p : Picture) (s : State) : Bool :=
  [Axis.sh, .sv, .zm, .fc].any fun a =>
    decide ((s.chan a).state ≠ .absent) && (p.demandOf a).isNone &&
      match p.position.get a with
      | some t => decide (t < (s.chan a).settings.softMin) || decide ((s.chan a).settings.softMax < t)
      | none => false

/-- The entries a recall places, SH first (R65). -/
def recallEntries (r : Req) (number : Byte) (p : Picture) (s : State) : List Entry :=
  [Axis.sh, .sv, .zm, .fc].filterMap fun a =>
    (recallTarget p s a).map fun x =>
      { axis := a, motion := .move x.1, origin := portOrigin r.port, tag := some r.tag, shift := x.2
        link := some number, parkNo := none }

/-! ### Cooling settings -/

/-- The state after a change of the cooling records to `c`: targets and light cap are computed again, forced fans run,
LIGHT_CAP is raised on both ports when the cap changes, and nothing else changes (R134, R135, R144). -/
structure CoolSettled (c : Cooling) (s t : State) : Prop where
  rest : t =
    { s with
      cool := { c with fans := t.cool.fans, lightCap := t.cool.lightCap }, sysPort := t.sysPort
      picPort := t.picPort }
  fans : ∀ f, t.cool.fans.get f =
    { c.fans.get f with
      target := (t.cool.fans.get f).target, commanded := (t.cool.fans.get f).commanded
      grace := (t.cool.fans.get f).grace }
  duty : ∀ f, forced t f = false →
    (t.cool.fans.get f).commanded = (c.fans.get f).commanded ∧ (t.cool.fans.get f).grace = (c.fans.get f).grace
  settled : Settled t
  told : ∀ p, t.port p = if t.cool.lightCap = s.cool.lightCap then s.port p else (s.port p).raise .lightCap

/-- A phase just entered, with what every change of phase brings: its reason, the lines, PHASE on both ports, targets
and cap (R148, R162 to R164). -/
structure Entered (p : Phase) (why : Reason) (t : State) : Prop where
  phase : t.phase.phase = p
  reason : t.phase.reason = why
  restrike : t.phase.restrike = false
  lines : LinesFollow t
  told : ∀ q, (t.port q).flags.getLsbD (eventBit .phase) = true
  settled : Settled t

/-- COOLDOWN just entered (R155): the cool-down timer is 0, no light is permitted; from a phase with light a new park has
started. -/
structure CooledDown (why : Reason) (s t : State) : Prop where
  entered : Entered .cooldown why t
  timer : t.phase.coolTimer = 0
  dark : t.phase.lightPermit = false ∧ t.cool.lightCap = 0
  park : isLight s.phase.phase = true → t.phase.parkNumber = s.phase.parkNumber + 1 ∧ t.phase.parkTimer = 0
  noPark : isLight s.phase.phase = false → t.phase.parkNumber = s.phase.parkNumber

/-! ### Readings -/

/-- The temperature of a mean code on a channel (R114): through table A or B between its two entries, and for DIE by its
own line. -/
def ruledTemp (m : Measure) (ch : Chan) (mean : Nat) : Int :=
  let table := if ch = .laser ∨ ch = .wheel then m.tableB else m.tableA
  if ch = .die then max (((mean * 2000 / 4096 : Nat) : Int) - 500) (-400)
  else
    (table[mean / 256]?.getD 0)
      + (((table[mean / 256 + 1]?.getD 0) - (table[mean / 256]?.getD 0)) * ((mean % 256 : Nat) : Int) + 128) / 256

/-! ### Ticks -/

/-- A channel after a T32 tick of its hold timer (R11). -/
def heldDown (c : Channel) : Channel :=
  if inMotion c.state = true ∨ c.holdTimer = 0 then c
  else if c.holdTimer = 1 then { c with energized := false, holdTimer := 0, coilA := 0, coilB := 0 }
  else { c with holdTimer := c.holdTimer - 1 }

/-- No jog is queued or running, so a T32 tick counts no keep count. -/
def NoJog (s : State) : Prop := s.sched.queue = [] ∧ ∀ a, (s.chan a).state ≠ .jogging

/-- A step of a commanded duty toward its target (R136). -/
def slewed (commanded target minDuty : Nat) : Nat :=
  if commanded < target then min (commanded + 8) target
  else if target < commanded then
    if target < minDuty ∧ commanded - 2 < minDuty then target else max (commanded - 2) target
  else commanded

/-- The speed a fan should make at its commanded duty (R140). -/
def expectedSpeed (f : FanRec) : Nat :=
  f.rpmMin + (f.rpmMax - f.rpmMin) * (f.commanded - f.minDuty) / (100 - f.minDuty)

/-- A fan is supervised at a T2 tick (R139). -/
def Supervised (f : FanRec) : Prop := f.present = true ∧ f.grace = 0 ∧ f.minDuty ≤ f.commanded

/-- The state, strikes and good run of a supervised fan, by the table of R140. -/
def fanJudged (f : FanRec) : FanState × Nat × Nat :=
  if 2 * f.reading < expectedSpeed f then
    match f.state with
    | .ok => (.suspect, 1, 0)
    | .suspect => if f.strikes + 1 < 3 then (.suspect, f.strikes + 1, 0) else (.failed, f.strikes + 1, 0)
    | .failed => (.failed, 3, 0)
  else if 3 * expectedSpeed f ≤ 4 * f.reading then
    match f.state with
    | .ok => (.ok, 0, f.goodRun)
    | .suspect => if f.goodRun + 1 < 6 then (.suspect, 0, f.goodRun + 1) else (.ok, 0, 0)
    | .failed => if f.goodRun + 1 < 6 then (.failed, 0, f.goodRun + 1) else (.ok, 0, 0)
  else
    match f.state with
    | .ok => (.ok, 0, 0)
    | .suspect => (.suspect, 0, 0)
    | .failed => (.failed, f.strikes, 0)

/-- The four conditions of tracking (R168). -/
def Tracks (s : State) : Prop :=
  s.phase.phase = .lit ∧ (s.chan .fc).referenced = true ∧ (s.chan .zm).referenced = true ∧
    (s.track.lensStatus = .live ∨ s.track.lensStatus = .held)

/-- The gain at a position of ZM within 0 to travel (R169). -/
structure GainRuled (g : Gains) (travel : Nat) (p : Nat) (x : Int) : Prop where
  top : p = travel → x = g.g4
  first : p < travel / 4 → x = g.g0 + (g.g1 - g.g0) * p / (travel / 4 : Nat)
  second : travel / 4 ≤ p → p < 2 * travel / 4 →
    x = g.g1 + (g.g2 - g.g1) * ((p : Int) - (travel / 4 : Nat)) / ((2 * travel / 4 - travel / 4 : Nat) : Int)
  third : 2 * travel / 4 ≤ p → p < 3 * travel / 4 →
    x = g.g2 + (g.g3 - g.g2) * ((p : Int) - (2 * travel / 4 : Nat)) / ((3 * travel / 4 - 2 * travel / 4 : Nat) : Int)
  fourth : 3 * travel / 4 ≤ p → p < travel →
    x = g.g3 + (g.g4 - g.g3) * ((p : Int) - (3 * travel / 4 : Nat)) / ((travel - 3 * travel / 4 : Nat) : Int)

/-- Rounding to the nearest, a half away from 0 (R170). -/
def roundedAway (n : Int) (d : Nat) : Int :=
  if 0 ≤ n then ((2 * n.natAbs + d) / (2 * d) : Nat) else -((2 * n.natAbs + d) / (2 * d) : Nat)

/-- The state of a zone after an evaluation at a temperature: a rise is taken at once, a fall goes one state down and
needs 3.0 degrees below the threshold (R126, R128). -/
def zoneAfter (z : ZoneRec) (t : Int) : ZoneState :=
  match z.state with
  | .normal => if z.crit ≤ t then .critical else if z.hot ≤ t then .hot else if z.warm ≤ t then .warm else .normal
  | .warm => if z.crit ≤ t then .critical else if z.hot ≤ t then .hot else if t < z.warm - 30 then .normal else .warm
  | .hot => if z.crit ≤ t then .critical else if t < z.hot - 30 then .warm else .hot
  | .critical => if t < z.crit - 30 then .hot else .critical

end Sys2Proof.Machine
end

