-- ==== Sys2Proof/WellFormed.lean ====
section
/-! DEFINITION. Which commands can occur: what a frame, an event or an order of ticks cannot be. -/

namespace Sys2Proof

/-- The counts of values a request carries must be those of its frame (R190). -/
def wellCounted : Instr → Bool
  | .setRamp _ _ levels => decide (levels.length ≤ 22)
  | .setCurve _ _ _ points => decide (points.length = 6)
  | .setThermTable _ _ values => decide (values.length = 17)
  | _ => true

/-- A comparator input lies within the ADC reference, 4096 standing for a level at or above it (R119; log 28). -/
def levelInReference : Instr → Bool
  | .tripInputChange _ level => decide (level ≤ 4096)
  | _ => true

/-- An order of ticks names each taker at most once (log 4). -/
def ordersOnce : Instr → Bool
  | .dividerAdvance order => decide order.Nodup
  | _ => true

/-- A BAD_REQUEST is a frame that fails check 2 or 3 of R178 and is not cut short. -/
def reallyMalformed : Instr → Bool
  | .badRequest port frame => decide (decodeFrame port frame = .badRequest port frame)
  | _ => true

/-- A command that can occur. -/
def Instr.wellFormed (i : Instr) : Bool := wellCounted i && levelInReference i && ordersOnce i && reallyMalformed i

end Sys2Proof
end

