-- ==== Sys2Proof/Certificates/Slice0/Obligations.lean ====
section
/-! DEFINITION. The statements for the provers. -/

section

open Sys2Proof Sys2Proof.Machine

/-! ### The queue and the invariants -/

/-- A step runs the command at the front of the queue on the state with the queue's rest, and idles on an empty queue.
The queue is the model's (log 1). -/
def Obligations.StepTakesFront : Prop :=
  (∀ (c : Instr) (rest : List Instr) (s : State),
    step { s with pending := c :: rest } = exec c { s with pending := rest }) ∧
  ∀ s : State, step { s with pending := [] } = .next { s with pending := [] }

/-- State.reset meets every invariant stated below. -/
def Obligations.ResetIsSafe : Prop :=
  LightSafe State.reset ∧ PortsSafe State.reset ∧ EngineSafe State.reset ∧ Settled State.reset
    ∧ GrantsWithin State.reset ∧ SlotsAgree State.reset ∧ OneEntry State.reset ∧ CoilsSafe State.reset
    ∧ ExcessAgrees State.reset ∧ OffsetWithin State.reset ∧ TenRecords State.reset

/-- Every step keeps the light safe: the three lines follow the phase and the latches, the cap is 0 without the permit,
and the permit and a pending restrike need a cool engine (R143, R153 to R155, R162 to R164). -/
def Obligations.LightSafeKept : Prop := ∀ s t : State, LightSafe s → step s = .next t → LightSafe t

/-- Every step keeps the attention lines on their flags and masks and the notice lists within eight (R184, R186). -/
def Obligations.PortsSafeKept : Prop := ∀ s t : State, PortsSafe s → step s = .next t → PortsSafe t

/-- Every step keeps the engine away from the live bank (R84 to R86, R93). -/
def Obligations.EngineSafeKept : Prop := ∀ s t : State, EngineSafe s → step s = .next t → EngineSafe t

/-- Every step leaves the fan targets, the forced duties and the light cap as their rules give them for the state as it
stands (R134, R135, R143, R144). -/
def Obligations.CoolingSettledKept : Prop := ∀ s t : State, Settled s → step s = .next t → Settled t

/-- Every step keeps the number of GRANTED slots within the motion allowance (R35, R37, R40). Every step keeps the slots,
the held list and the motion records on the axes that their rules give (R28, R29, R41), and then the axes in motion are as
many as the slots that are not FREE, two at most (R29). -/
def Obligations.GrantsWithinKept : Prop :=
  (∀ s t : State, GrantsWithin s → step s = .next t → GrantsWithin t) ∧
  (∀ s t : State, SlotsAgree s → step s = .next t → SlotsAgree t) ∧
  ∀ s : State, SlotsAgree s →
    ([Axis.sh, .sv, .zm, .fc].filter fun a => inMotion (s.chan a).state).length = slotsTaken s.sched ∧
    slotsTaken s.sched ≤ 2

/-- Every step keeps at most one queued entry an axis, and the queue then holds at most four (R27, R31). -/
def Obligations.OneEntryKept : Prop :=
  (∀ s t : State, OneEntry s → step s = .next t → OneEntry t) ∧ ∀ s : State, OneEntry s → s.sched.queue.length ≤ 4

/-- Every step keeps the coils of each energized axis on the entry of its phase index (R9 to R11). -/
def Obligations.CoilsFollowKept : Prop := ∀ s t : State, CoilsSafe s → step s = .next t → CoilsSafe t

/-- Every step keeps the excess of the shift demand records in the geometry inputs (R50, R73), the tracking offset
within its limit (R171), and ten lens memory records (R58). -/
def Obligations.RecordsAgreeKept : Prop :=
  (∀ s t : State, ExcessAgrees s → step s = .next t → ExcessAgrees t) ∧
  (∀ s t : State, OffsetWithin s → step s = .next t → OffsetWithin t) ∧
  ∀ s t : State, TenRecords s → step s = .next t → TenRecords t

/-- No command stops the part: exec answers a next state for every command and every state. That refusals are responses
and not stops is the model's reading of 10.3. -/
def Obligations.NoCommandStops : Prop := ∀ (i : Instr) (s : State), ∃ t, exec i s = .next t

/-! ### Frames and the gate of a request -/

/-- A request frame read back is the request that was written, for every well-formed request and every operand (11.1,
11.2). -/
def Obligations.FramesRoundTrip : Prop :=
  ∀ (i : Instr) (b : Body), i.wellFormed = true → bodyOf i = some b → decodeFrame b.req.port (encodeBody b) = i

/-- Frames written out byte by byte from 11.1 and 11.2: GET_IDENT; a MOVE of FC to −2 in STEPS; SET_RAMP of ZM with one
level of 500 µs and 16 microsteps; a frame of length 4 with a fifth byte; a frame of an unlisted kind; a frame cut short.
On the I2C bus the part takes 0x4C or 0x4D alone, by the strap, and ignores other addresses and the general call; it
acknowledges the bytes up to the length; on the SPI bus a first byte of 0 makes a read (R176, R177). That the first byte is
acknowledged whatever it says is log 39. -/
def Obligations.FramesRead : Prop :=
  decodeFrame .system [4, 0x01, 0x22, 0] = .getIdent ⟨.system, 0x22, .noOverride⟩ ∧
  decodeFrame .picture [9, 0x10, 7, 1, 3, 0xFE, 0xFF, 0xFF, 0xFF] = .move ⟨.picture, 7, .steps⟩ 3 0xFFFFFFFE ∧
  decodeFrame .system [9, 0x1A, 5, 0, 2, 1, 0xF4, 0x01, 16] = .setRamp ⟨.system, 5, .noOverride⟩ 2 [⟨500, 16⟩] ∧
  decodeFrame .picture [4, 0x01, 0, 0, 9] = .badRequest .picture [4, 0x01, 0, 0, 9] ∧
  decodeFrame .system [4, 0x08, 0, 0] = .badRequest .system [4, 0x08, 0, 0] ∧
  decodeFrame .system [5, 0x12, 9, 0] = .frameCutShort .system ∧
  (∀ (strap : Bool) (x : I2cTransfer), x.address ≠ (if strap then 0x4D else 0x4C) →
    addressAcked strap x = false ∧ i2cCommand strap x = none) ∧
  (∀ (strap : Bool) (bytes : List Byte) (n : Nat),
    addressAcked strap (.write (if strap then 0x4D else 0x4C) bytes) = true ∧
    i2cCommand strap (.write (if strap then 0x4D else 0x4C) bytes) = some (decodeFrame .system bytes) ∧
    i2cCommand strap (.read (if strap then 0x4D else 0x4C) n) = some (.readResponse .system n)) ∧
  i2cCommand false (.write 0x4C []) = some (.frameCutShort .system) ∧
  i2cCommand false (.write 0 [4, 0x01, 0x22, 0]) = none ∧
  (∀ (b : Byte) (rest : List Byte),
    bytesAcked (b :: rest) = if b = 0 then 1 else min b.toNat (rest.length + 1)) ∧
  ∀ rest : List Byte, spiCommand (0 :: rest) = .readResponse .picture rest.length

/-- A request of a kind that its port's class shuts out is answered DENIED, and nothing else changes (R178, R182). -/
def Obligations.PrivilegesHold : Prop :=
  ∀ (i : Instr) (s : State) (r : Req) (c : Privilege), requestOf i = some (r, c) → wellCounted i = true →
    portTakes s r.port = true → allowedOn c r.port = false →
    exec i s = .next (answered r { status := .denied } s)

/-- While present is no the picture port ignores every transaction (R177). An unpowered part ignores the transactions of
both ports, the RESET pin and its own timers and lines, which is the model's choice (log 8). -/
def Obligations.AbsentPortIgnores : Prop :=
  (∀ (i : Instr) (s : State) (r : Req) (c : Privilege), requestOf i = some (r, c) → r.port = .picture →
    s.presence.present = false → exec i s = .next s) ∧
  (∀ (frame : List Byte) (s : State), s.presence.present = false → exec (.badRequest .picture frame) s = .next s) ∧
  (∀ (n : Nat) (s : State), s.presence.present = false → exec (.readResponse .picture n) s = .next s) ∧
  ∀ s : State, s.powered = false →
    (∀ (i : Instr) (r : Req) (c : Privilege), requestOf i = some (r, c) → exec i s = .next s) ∧
    (∀ (p : Port) (frame : List Byte), exec (.badRequest p frame) s = .next s) ∧
    (∀ p : Port, exec (.frameCutShort p) s = .next s) ∧
    (∀ (p : Port) (n : Nat), exec (.readResponse p n) s = .next s) ∧
    (∀ a : Axis, exec (.stepEvent a) s = .next s ∧ exec (.homeFilterExpiry a) s = .next s ∧
      exec (.coilRelease a) s = .next s ∧ ∀ j, exec (.jogExpiry a j) s = .next s) ∧
    (∀ z : Zone, exec (.criticalPersisted z) s = .next s) ∧
    (∀ c : Chan, exec (.sensorSubstitution c) s = .next s) ∧
    (∀ c : Comp, exec (.tripLatchSet c) s = .next s) ∧ (∀ f : Fan, exec (.tachPulse f) s = .next s) ∧
    (∀ addr : Bool, exec (.resetPin addr) s = .next s) ∧
    (∀ order : List Taker, exec (.dividerAdvance order) s = .next s) ∧
    (∀ code : BitVec 12, exec (.conversionComplete code) s = .next s) ∧
    exec .cooldownTimeout s = .next s ∧ exec .parkTimeout s = .next s ∧ exec .rampStep s = .next s ∧
    exec .frameStrobe s = .next s ∧ exec .bandStrobe s = .next s ∧ exec .streamWordSent s = .next s ∧
    exec .computeComplete s = .next s ∧ exec .writeComplete s = .next s ∧ exec .powerFail s = .next s ∧
    exec .presentFilterExpiry s = .next s

/-- A parameter code that 11.1 and 11.2 do not list is answered RANGE, and nothing else changes, whatever the other
parameters (R190). That the codes are checked before ABSENT, WRONG_PHASE and the rest is log 9, and that SHIFT of ZM or FC
is RANGE is log 10. -/
def Obligations.UnlistedCodesRefused : Prop :=
  (∀ (r : Req) (s : State), Takes s r .bothPorts → ∀ i : Instr,
    ((∃ x t, i = .move r x t ∧ 4 ≤ x.toNat) ∨ (∃ x p, i = .shift r x p ∧ 2 ≤ x.toNat)
      ∨ (∃ x, i = .home r x ∧ 4 ≤ x.toNat) ∨ (∃ x d l, i = .jog r x d l ∧ (4 ≤ x.toNat ∨ 2 ≤ d.toNat))
      ∨ (∃ x, i = .jogKeep r x ∧ 4 ≤ x.toNat) ∨ (∃ x, i = .stop r x ∧ 4 ≤ x.toNat ∧ x ≠ 255)
      ∨ (∃ x, i = .getAxis r x ∧ 4 ≤ x.toNat) ∨ (∃ n, i = .recallMemory r n ∧ 10 ≤ n.toNat)
      ∨ (∃ n, i = .store r n ∧ 10 ≤ n.toNat) ∨ (∃ n, i = .erase r n ∧ 10 ≤ n.toNat)
      ∨ (∃ n, i = .getMemory r n ∧ 10 ≤ n.toNat) ∨ (∃ u, i = .setUnits r u ∧ u ≠ 1 ∧ u ≠ 2)
      ∨ (∃ b c l, i = .setQuiet r b c l ∧ 2 ≤ b.toNat) ∨ (∃ x, i = .getThermTable r x ∧ 2 ≤ x.toNat)
      ∨ ∃ o z, i = .getCurve r o z ∧ (2 ≤ o.toNat ∨ 4 ≤ z.toNat)) →
    exec i s = .next (answered r { status := .range } s)) ∧
  (∀ (r : Req) (s : State), Takes s r .systemOnly → ∀ i : Instr, wellCounted i = true →
    ((∃ x p, i = .setAxis r x p ∧ 4 ≤ x.toNat) ∨ (∃ x l, i = .setRamp r x l ∧ 4 ≤ x.toNat)
      ∨ (∃ o, i = .setOrientation r o ∧ 2 ≤ o.toNat) ∨ (∃ z p, i = .setZone r z p ∧ (4 ≤ z.toNat ∨ 512 ≤ p.members.toNat))
      ∨ (∃ o z l, i = .setCurve r o z l ∧ (2 ≤ o.toNat ∨ 4 ≤ z.toNat))
      ∨ (∃ f p, i = .setFan r f p ∧ (4 ≤ f.toNat ∨ 2 ≤ p.present.toNat ∨ 16 ≤ p.served.toNat))
      ∨ (∃ x l, i = .setThermTable r x l ∧ 2 ≤ x.toNat)
      ∨ (∃ x k, i = .setTrip r x k ∧ (2 ≤ x.toNat ∨ k = 0 ∨ 16 ≤ k.toNat)) ∨ ∃ x, i = .clearTrip r x ∧ 3 ≤ x.toNat) →
    exec i s = .next (answered r { status := .range } s)) ∧
  ∀ (r : Req) (s : State) (m : Byte), Takes s r .pictureOnly → 3 ≤ m.toNat →
    exec (.setStream r m) s = .next (answered r { status := .range } s)

/-! ### General requests -/

/-- GET_IDENT (R181): part code 640, revision 1, the strap as sampled at the last device reset, the port it arrived on.
The widths of these fields are the model's choice (log 12), and so is that POWER_ON and RESET_PIN carry the level of ADDR
(log 37). -/
def Obligations.IdentAnswered : Prop :=
  (∀ (r : Req) (s : State), portTakes s r.port = true →
    exec (.getIdent r) s =
      .next (answered r
        { status := .ok
          data := [.u 2 640, .u 1 1, .u 1 s.addrStrap.toNat,
            .u 1 (match r.port with
              | .system => 0
              | .picture => 1)] } s)) ∧
  (∀ (addr : Bool) (s : State), Completes (.powerOn addr) s fun t => t.addrStrap = addr) ∧
  (∀ (addr : Bool) (s : State), s.powered = true → Completes (.resetPin addr) s fun t => t.addrStrap = addr) ∧
  ∀ (r : Req) (s : State), Takes s r .systemOnly → Completes (.softReset r) s fun t => t.addrStrap = s.addrPin

/-- The requests that only read are answered OK with their data as the state stands, and change nothing but the port's
unread response. What the data hold is R6, R49, R57, R58, R90, R108, R124, R145, R165, R173 and R187; their widths and
counts are partly the model's choice (log 12), and so are the codes of a FREE slot, of the later slot and of the table of
DIE (log 44), which excess GET_SHIFT returns (log 45), and that the corners of GET_GEOMETRY are those of stage 4
(log 46). -/
def Obligations.ReadsAnswered : Prop :=
  ∀ (r : Req) (s : State), portTakes s r.port = true →
    exec (.getStatus r) s = .next (answered r { status := .ok, data := statusData s r.port } s)
    ∧ (∀ a : Axis, exec (.getAxis r (axisByte a)) s =
        .next (answered r { status := .ok, data := axisData s a (unitOf (s.port r.port).unit r.qual) } s))
    ∧ exec (.getQueue r) s =
        .next (answered r { status := .ok, data := queueData s (unitOf (s.port r.port).unit r.qual) } s)
    ∧ exec (.getShift r) s = .next (answered r { status := .ok, data := shiftData s } s)
    ∧ (∀ n : Byte, n.toNat < 10 →
        exec (.getMemory r n) s = .next (answered r { status := .ok, data := memoryData s.mem n.toNat } s))
    ∧ exec (.getGeometry r) s = .next (answered r { status := .ok, data := geometryData s } s)
    ∧ exec (.getStream r) s = .next (answered r { status := .ok, data := streamData s } s)
    ∧ exec (.getSensors r) s = .next (answered r { status := .ok, data := sensorsData s } s)
    ∧ exec (.getThermTable r 0) s = .next (answered r { status := .ok, data := s.meas.tableA.map (.s 2) } s)
    ∧ exec (.getThermTable r 1) s = .next (answered r { status := .ok, data := s.meas.tableB.map (.s 2) } s)
    ∧ exec (.getThermal r) s = .next (answered r { status := .ok, data := thermalData s } s)
    ∧ (∀ z : Zone, ∀ c : Byte, zoneOfCode c = some z →
        exec (.getCurve r 0 c) s = .next (answered r { status := .ok, data := curveData (s.cool.floorSet.get z) } s)
        ∧ exec (.getCurve r 1 c) s = .next (answered r { status := .ok, data := curveData (s.cool.ceilingSet.get z) } s))
    ∧ exec (.getPhase r) s = .next (answered r { status := .ok, data := phaseData s } s)
    ∧ exec (.getTracking r) s = .next (answered r { status := .ok, data := trackingData s } s)

/-- READ_GRID (R107): EMPTY with no VALID live bank, RANGE for a row outside the bank's G, else the header and the points
of the row. The widths of the fields are the model's choice (log 12). -/
def Obligations.GridRowAnswered : Prop :=
  ∀ (r : Req) (row : Byte) (s : State), portTakes s r.port = true →
    (s.banks.live = none → exec (.readGrid r row) s = .next (answered r { status := .empty } s)) ∧
    ∀ n : BankName, s.banks.live = some n →
      ((s.banks.get n).state ≠ .valid → exec (.readGrid r row) s = .next (answered r { status := .empty } s)) ∧
      ((s.banks.get n).state = .valid → (s.banks.get n).g ≤ row.toNat →
        exec (.readGrid r row) s = .next (answered r { status := .range } s)) ∧
      ((s.banks.get n).state = .valid → row.toNat < (s.banks.get n).g →
        exec (.readGrid r row) s =
          .next (answered r
            { status := .ok
              data :=
                [.u 1 (match n with
                    | .a => 0
                    | .b => 1), .u 2 (s.banks.get n).generation.toNat, .u 2 (s.banks.get n).w, .u 2 (s.banks.get n).h,
                  .u 1 (s.banks.get n).g, .u 1 (s.banks.get n).keystoneClamped.toNat,
                  .u 1 (s.banks.get n).shiftClamped.toNat, .u 1 row.toNat]
                ++ (((s.banks.get n).points.drop (row.toNat * (s.banks.get n).g)).take (s.banks.get n).g).flatMap
                  fun p => [.u 2 p.x.toNat, .u 2 p.y.toNat] } s))

/-- READ_EVENTS (R185): the flags, the lost mark and up to four notices are returned; those notices go, and a flag stays
exactly when a notice of it remains. The line follows. That the EVENTS flag of the response tells the flags after the
effect is log 11. -/
def Obligations.EventsRead : Prop :=
  ∀ (r : Req) (s : State), portTakes s r.port = true →
    ∃ f : Half,
      exec (.readEvents r) s =
        .next (s.setPort r.port
          { s.port r.port with
            flags := f, notices := (s.port r.port).notices.drop 4, lost := false
            attn := decide (f &&& (s.port r.port).mask ≠ 0)
            unread := some
              { status := .ok, tag := r.tag, clamped := false, result := false, events := decide (f ≠ 0)
                data :=
                  [.u 2 (s.port r.port).flags.toNat, .u 1 (s.port r.port).lost.toNat,
                    .u 1 ((s.port r.port).notices.length - 4), .u 1 (min 4 (s.port r.port).notices.length)]
                  ++ ((s.port r.port).notices.take 4).flatMap noticeData } }) ∧
      (∀ e : Event, f.getLsbD (eventBit e) =
        ((s.port r.port).flags.getLsbD (eventBit e)
          && ((s.port r.port).notices.drop 4).any fun n => decide (noticeEvent n = e))) ∧
      ∀ b : Nat, (∀ e : Event, eventBit e ≠ b) → f.getLsbD b = false

/-- SET_MASK writes the mask of its port less the bits that stand for no flag, and the line follows; SET_UNITS writes
the unit mode of its port (R183, R186, R190). -/
def Obligations.MaskAndUnitWritten : Prop :=
  ∀ (r : Req) (s : State), portTakes s r.port = true →
    (∀ m : Half, exec (.setMask r m) s =
      .next (answered r { status := .ok }
        (s.setPort r.port
          { s.port r.port with
            mask := m &&& 0x17FF, attn := decide ((s.port r.port).flags &&& (m &&& 0x17FF) ≠ 0) }))) ∧
    exec (.setUnits r 1) s =
      .next (answered r { status := .ok } (s.setPort r.port { s.port r.port with unit := .steps })) ∧
    exec (.setUnits r 2) s =
      .next (answered r { status := .ok } (s.setPort r.port { s.port r.port with unit := .permille }))

/-- A malformed frame is answered BAD_REQUEST with the tag it carries, or 0 when fewer than three bytes were taken; a
frame cut short changes nothing; a read returns the unread response, which goes when it was read to its last byte, or a
NONE response (R176, R178, R179). Which bytes beyond the length count as taken is log 39. On the picture port the bits of
SDI make bytes, the most significant first, and SDO is idle while present is no, 0 through a request, and in a read the
bits of the bytes that the read drives, from the second byte on (R177). What an incomplete byte counts and what SDO drives
through the first byte of a read is log 52. -/
def Obligations.TransactionsTaken : Prop :=
  (∀ (p : Port) (frame : List Byte) (s : State), portTakes s p = true →
    (frame.length < 3 → exec (.badRequest p frame) s = .next (respond p 0 { status := .badRequest } s)) ∧
    ∀ (b k tag : Byte) (rest : List Byte), frame = b :: k :: tag :: rest → p = .picture ∨ 3 ≤ b.toNat →
      exec (.badRequest p frame) s = .next (respond p tag { status := .badRequest } s)) ∧
  (∀ (p : Port) (s : State), exec (.frameCutShort p) s = .next s) ∧
  (∀ (bytes : List Byte) (rest : List Bool), rest.length < 8 →
    spiClocked ((bytes.flatMap fun b => (List.range 8).map b.getMsbD) ++ rest) = spiCommand bytes) ∧
  (∀ (s : State) (first : Byte) (n : Nat),
    (portTakes s .picture = false → sdoBit s first n = none) ∧
    (portTakes s .picture = true → first ≠ 0 ∨ n < 8 → sdoBit s first n = some false)) ∧
  (∀ (s t : State) (n k i : Nat) (b : Byte), portTakes s .picture = true → i < 8 →
    exec (.readResponse .picture n) s = .next t → t.picPort.lastRead[k]? = some b →
    sdoBit s 0 (8 * (k + 1) + i) = some (b.getMsbD i)) ∧
  ∀ (p : Port) (n : Nat) (s : State), portTakes s p = true →
    ((s.port p).unread = none →
      exec (.readResponse p n) s =
        .next (s.setPort p
          { s.port p with lastRead := ([5, 0, 13, 0, 0] : List Byte).take n ++ List.replicate (n - 5) 0 })) ∧
    ∀ x : Response, (s.port p).unread = some x →
      exec (.readResponse p n) s =
        .next (s.setPort p
          { s.port p with
            lastRead := (responseBytes x).take n ++ List.replicate (n - (responseBytes x).length) 0
            unread := if (responseBytes x).length ≤ n then none else some x })

/-! ### Resets, presence, supply -/

/-- The three device resets leave every block at its reset values, the pins at their levels and the store as it was less
the record being written (R188, R62 and the reset rules of each chapter), with the stream output low (R191). The level of
ADDR is an operand of POWER_ON and RESET_PIN (log 37), and the reset values of fields that the rules only imply are the
model's choice (log 16). -/
def Obligations.DeviceResets : Prop :=
  (∀ (addr : Bool) (s : State), Completes (.powerOn addr) s fun t => AfterReset .power addr s t) ∧
  (∀ (addr : Bool) (s : State), s.powered = true → Completes (.resetPin addr) s fun t => AfterReset .pin addr s t) ∧
  ∀ (r : Req) (s : State), Takes s r .systemOnly → Completes (.softReset r) s fun t => AfterReset .soft s.addrPin s t

/-- The settings and the ramp table of every axis after each device reset (R5). -/
def Obligations.SettingsAfterReset : Prop :=
  ∀ (i : Instr) (s t : State),
    ((∃ addr, i = .powerOn addr) ∨ (∃ addr, i = .resetPin addr ∧ s.powered = true)
      ∨ ∃ r, i = .softReset r ∧ Takes s r .systemOnly) →
    exec i s = .next t →
    (∀ a : Axis,
      (t.chan a).table =
          [⟨2000, 16⟩, ⟨1200, 24⟩, ⟨800, 32⟩, ⟨500, 48⟩, ⟨350, 64⟩, ⟨250, 96⟩, ⟨200, 128⟩, ⟨160, 160⟩]
      ∧ (t.chan a).settings.present = true ∧ (t.chan a).settings.travel = 48000 ∧ (t.chan a).settings.softMin = 512
      ∧ (t.chan a).settings.softMax = 47488 ∧ (t.chan a).settings.homeOffset = 256
      ∧ (t.chan a).settings.tolerance = 24 ∧ (t.chan a).settings.park = none)
    ∧ ((t.chan .sh).settings.backlash = 64 ∧ (t.chan .sh).settings.approach = .pos)
    ∧ ((t.chan .sv).settings.backlash = 64 ∧ (t.chan .sv).settings.approach = .pos)
    ∧ ((t.chan .zm).settings.backlash = 0 ∧ (t.chan .zm).settings.approach = .unset)
    ∧ ((t.chan .fc).settings.backlash = 32 ∧ (t.chan .fc).settings.approach = .pos)
    ∧ ((t.chan .sh).settings.centre = 24000 ∧ (t.chan .sh).settings.k = 12800)
    ∧ (t.chan .sv).settings.centre = 24000 ∧ (t.chan .sv).settings.k = 12800

/-- RESYNC, and the end of the filter with PIC_PRESENT low, make a picture-port reset, which clears the picture port,
counts it, resets the stream unit, at the end of a word being sent (R104; log 18), keeps the frame generation (log 42) and
makes a pending result live on the system port alone, with the next generation (R94); it touches nothing else (R189, R105,
R88). For RESYNC an OK response is then formed. -/
def Obligations.PicturePortResets : Prop :=
  (∀ (r : Req) (s : State), r.port = .picture → portTakes s .picture = true →
    Completes (.resync r) s fun t =>
      AfterPictureReset .resync s t ∧ t.presence.present = s.presence.present
      ∧ t.presence.filtering = s.presence.filtering
      ∧ t.picPort.unread =
          some { status := .ok, tag := r.tag, clamped := false, result := false, events := false, data := [] }) ∧
  ∀ s : State, s.powered = true → s.presence.filtering = true → s.presence.pin = false →
    Completes .presentFilterExpiry s fun t =>
      AfterPictureReset .presentLow s t ∧ t.presence.present = false ∧ t.presence.filtering = false
      ∧ t.picPort.unread = none

/-- PIC_PRESENT is filtered for 1 ms: a change starts the filter when the level differs from present and drops it when
it does not; at its end with the level high present becomes yes and nothing else changes (R177). With the filter idle
its end changes nothing (log 27). -/
def Obligations.PresenceFiltered : Prop :=
  (∀ (level : Bool) (s : State), s.powered = true → level ≠ s.presence.pin →
    exec (.picPresentChange level) s =
      .next { s with
        presence := { s.presence with pin := level, filtering := decide (level ≠ s.presence.present) } }) ∧
  (∀ s : State, s.powered = true → s.presence.filtering = true → s.presence.pin = true →
    exec .presentFilterExpiry s =
      .next { s with presence := { s.presence with present := true, filtering := false } }) ∧
  ∀ s : State, s.presence.filtering = false → exec .presentFilterExpiry s = .next s

/-! ### Motion requests -/

/-- A motion request of a port, a MOVE in either unit, SHIFT, HOME or JOG, is checked for ABSENT, then WRONG_PHASE in START,
COOLDOWN and FAULT, then, unless it is a HOME, NOT_REFERENCED; a refused one changes nothing (R30, R52, R56). A
screen-referenced demand of an absent axis is no refusal (R53). -/
def Obligations.MotionRefused : Prop :=
  ∀ (s : State) (r : Req) (a : Axis) (i : Instr) (home demand : Bool),
    MotionRequest s r a i home demand → portTakes s r.port = true →
    ((s.chan a).state = .absent → demand = false → exec i s = .next (answered r { status := .absent } s)) ∧
    ((s.chan a).state ≠ .absent → phaseRefuses s.phase.phase = true →
      exec i s = .next (answered r { status := .wrongPhase } s)) ∧
    ((s.chan a).state ≠ .absent → phaseRefuses s.phase.phase = false → home = false →
      (s.chan a).referenced = false → exec i s = .next (answered r { status := .notReferenced } s))

/-- An admitted MOVE in STEPS, HOME or JOG that can neither be granted nor completed at once joins the tail of the queue,
its target clamped to the soft limits, its level held to 11 and its direction turned for a shift axis in CEILING, and is
answered QUEUED; nothing else changes (R31). -/
def Obligations.MotionQueued : Prop :=
  ∀ (s : State) (r : Req) (a : Axis) (i : Instr) (m : Motion) (k : Bool),
    MotionAsk s r a i m k → portTakes s r.port = true → Admits s a m → JoinsTail s a m → NoGrant s →
    exec i s =
      .next (answered r { status := .queued, clamped := k }
        { s with sched := { s.sched with queue := s.sched.queue ++ [portEntry r a m none] } })

/-- A queued entry of a port is replaced in its place by a new request for its axis, and its ending REPLACED goes to the
port it came from as a notice with its flag (R31, R34). On a HELD axis a MOVE replaces the target of a held MOVE in place,
and a HOME takes the place of a held HOME; any other request drops the held motion and joins the queue; the held motion's
ending REPLACED goes to its port, and is the last result of the axis (R32, R1; log 25, log 41). -/
def Obligations.MotionReplaced : Prop :=
  (∀ (s : State) (r : Req) (a : Axis) (i : Instr) (m : Motion) (k : Bool) (old : Entry) (p : Port),
    MotionAsk s r a i m k → portTakes s r.port = true → Admits s a m → NoGrant s →
    s.sched.entryOf a = some old → old.link = none → originPort old.origin = some p →
    exec i s =
      .next (answered r { status := .queued, clamped := k }
        (({ s with
            sched :=
              { s.sched with
                queue := s.sched.queue.map fun e => if e.axis = a then portEntry r a m none else e } } : State).setPort p
          ((s.port p).told a old.tag .replaced .moveReplaced)))) ∧
  ∀ (s : State) (r : Req) (a : Axis) (i : Instr) (m : Motion) (k : Bool) (x : MotionRec) (p : Port) (c : Channel),
    MotionAsk s r a i m k → portTakes s r.port = true → Admits s a m → NoGrant s →
    (s.chan a).state = .held → s.sched.entryOf a = none →
    s.sched.records.get a = some x → x.link = none → originPort x.origin = some p →
    c = { s.chan a with lastResult := some .replaced, lastOrigin := some x.origin } →
    (∀ t, m = .move t → (s.chan a).target.isSome = true →
      exec i s =
        .next (answered r { status := .queued, clamped := k }
          (({ s with
              axes := s.axes.set a { c with target := some t }
              sched :=
                { s.sched with
                  records := s.sched.records.set a (some (portRecord r .move (s.chan a).position)) } } : State).setPort p
            ((s.port p).told a x.tag .replaced .moveReplaced)))) ∧
    (m = .home → (s.chan a).heldHome = true →
      exec i s =
        .next (answered r { status := .queued, clamped := k }
          (({ s with
              axes := s.axes.set a c
              sched :=
                { s.sched with
                  records := s.sched.records.set a (some (portRecord r .home (s.chan a).position)) } } : State).setPort p
            ((s.port p).told a x.tag .replaced .moveReplaced)))) ∧
    ((∃ t, m = .move t ∧ (s.chan a).target = none) ∨ m = .home ∧ (s.chan a).heldHome = false ∨
        (∃ d l n, m = .jog d l n) →
      exec i s =
        .next (answered r { status := .queued, clamped := k }
          (({ s with
              axes := s.axes.set a
                { c with
                  target := none, heldHome := false
                  state := if (s.chan a).referenced then .idle else .unreferenced }
              sched :=
                { s.sched with
                  queue := s.sched.queue ++ [portEntry r a m none]
                  held := s.sched.held.filter (fun b => decide (b ≠ a))
                  records := s.sched.records.set a none } } : State).setPort p
            ((s.port p).told a x.tag .replaced .moveReplaced))))

/-- A MOVE to where an axis already stands IDLE ends DONE in the response alone, with no step event; released coils stay
released (R14, R33). The demand record of a shift axis becomes the permille equivalent of its position (R54), and FC
anchors the tracker (R172). That the response's data are one byte, the code of the ending, is log 13; the ramp part at rest
is log 57. -/
def Obligations.MoveDoneAtOnce : Prop :=
  ∀ (s : State) (r : Req) (a : Axis) (i : Instr) (k : Bool),
    MotionAsk s r a i (.move (s.chan a).position) k → portTakes s r.port = true →
    Admits s a (.move (s.chan a).position) → (s.chan a).state = .idle → s.sched.entryOf a = none →
    ∃ t, exec i s =
        .next (answered r { status := .ok, clamped := k, result := true, data := [.u 1 1] } t) ∧
      DoneTaken a
        { demand := permilleOf a (s.chan a).settings s.geom.inputs.orientation (s.chan a).position, excess := 0
          current := true }
        (s.setChan a
          { s.chan a with
            state := .idle, target := none, segment := none, lastResult := some .done
            lastOrigin := some (portOrigin r.port), ramp := ⟨0, 0, .decel⟩
            holdTimer := if (s.chan a).energized then 16 else (s.chan a).holdTimer }) t

/-- A motion request taken with both slots FREE, nothing queued or held and an allowance above 0 is granted at once: a
MOVE starts MOVING to its target in one segment, or in two where the backlash is to be taken up, a HOME starts HOMING, a
JOG with distance ahead starts JOGGING. The axis takes the first slot (log 17); a move that starts at the end of the approach
is one segment (log 50); the position stands; every other axis and block is untouched (R10, R12, R17, R20, R37, R38). -/
def Obligations.MotionGranted : Prop :=
  ∀ (s : State) (r : Req) (a : Axis) (i : Instr) (m : Motion) (k : Bool),
    MotionAsk s r a i m k → portTakes s r.port = true → Admits s a m → JoinsTail s a m →
    s.sched.slot1 = .free → s.sched.slot2 = .free → s.sched.held = [] → s.sched.queue = [] → 1 ≤ allowance s →
    (s.chan a).settings.softMin ≤ (s.chan a).settings.softMax →
    (s.chan a).state = .idle ∨ (s.chan a).state = .unreferenced →
    (∀ d l n, m = .jog d l n →
      match d with
      | .pos => (s.chan a).position < (s.chan a).settings.softMax
      | .neg => (s.chan a).settings.softMin < (s.chan a).position) →
    (∀ t, m = .move t → t ≠ (s.chan a).position) →
    ∃ c : Channel,
      exec i s =
        .next (answered r { status := .queued, clamped := k }
          { s with
            axes := s.axes.set a c
            sched :=
              { s.sched with
                queue := [], slot1 := .granted a, later := some .one
                records := s.sched.records.set a
                  (some
                    { kind := match m with
                        | .move _ => .move
                        | .home => .home
                        | .jog _ _ n => .jog n
                      origin := portOrigin r.port, tag := some r.tag, shift := none, link := none, parkNo := none
                      ran := true, startPos := (s.chan a).position }) } }) ∧
      c.position = (s.chan a).position ∧ c.phaseIndex = (s.chan a).phaseIndex ∧ c.energized = true ∧ c.holdTimer = 0 ∧
      c.lastOrigin = some (portOrigin r.port) ∧ c.settings = (s.chan a).settings ∧ c.table = (s.chan a).table ∧
      ((s.chan a).energized = false → (c.coilA, c.coilB) = coilPattern (s.chan a).phaseIndex) ∧
      (∀ t, m = .move t →
        c.state = .moving ∧ c.target = some t ∧ c.referenced = (s.chan a).referenced ∧
        ∀ (seg : Segment) (e : Int), firstSegment (s.chan a).settings (s.chan a).position t = (seg, e) →
          c.segment = some seg ∧ c.segEnd = e ∧
          c.dir = (if (s.chan a).position < e then .pos else .neg) ∧
          c.peak = peakLevel c.table (e - (s.chan a).position).natAbs ∧
          c.ramp = rampBegin c.table c.peak (e - (s.chan a).position).natAbs) ∧
      (m = .home →
        c.state = .homing ∧ c.referenced = false ∧
        ((s.chan a).switch.filtered = false → c.homing = some ⟨.fast, 0, .running⟩ ∧ c.dir = .neg) ∧
        ((s.chan a).switch.filtered = true →
          c.homing = some ⟨.backoff, 0, .running⟩ ∧ c.dir = .pos ∧ c.ramp.level = 0)) ∧
      ∀ d l n, m = .jog d l n → c.state = .jogging ∧ c.dir = d ∧ c.jog = some ⟨d, min l (topLevel c.table)⟩

/-- A SHIFT of a present axis that can neither be granted nor completed at once queues a move to its carriage target
with its excess and its demand, the demand clamped to ±1000; the same demand sent as a MOVE in PERMILLE does the same
(R52, R183). A MOVE of ZM or FC in PERMILLE queues a move to its share of travel, the request clamped to 0..1000 and the
target to the soft limits (R56). -/
def Obligations.ShiftQueued : Prop :=
  (∀ (s : State) (r : Req) (a : Axis) (p : Half) (q target : Int),
    a = .sh ∨ a = .sv → portTakes s r.port = true → q = clampInt (-1000) 1000 p.toInt →
    target = softClamp (s.chan a).settings (shiftRaw (s.chan a).settings s.geom.inputs.orientation q) →
    (s.chan a).settings.softMin ≤ (s.chan a).settings.softMax →
    Admits s a (.move target) → JoinsTail s a (.move target) → NoGrant s →
    exec (.shift r (axisByte a) p) s =
      .next (answered r { status := .queued, clamped := decide (p.toInt < -1000 ∨ 1000 < p.toInt) }
        { s with
          sched :=
            { s.sched with
              queue := s.sched.queue
                ++ [portEntry r a (.move target)
                    (some ⟨q, shiftExcess (s.chan a).settings s.geom.inputs.orientation q⟩)] } }) ∧
    (unitOf (s.port r.port).unit r.qual = .permille →
      exec (.move r (axisByte a) (p.signExtend 32)) s = exec (.shift r (axisByte a) p) s)) ∧
  ∀ (s : State) (r : Req) (a : Axis) (p : Quadword) (q raw target : Int),
    a = .zm ∨ a = .fc → portTakes s r.port = true → unitOf (s.port r.port).unit r.qual = .permille →
    q = clampInt 0 1000 p.toInt → raw = (q * (s.chan a).settings.travel + 500) / 1000 →
    target = clampInt (s.chan a).settings.softMin (s.chan a).settings.softMax raw →
    Admits s a (.move target) → JoinsTail s a (.move target) → NoGrant s →
    exec (.move r (axisByte a) p) s =
      .next (answered r
        { status := .queued, clamped := decide (p.toInt < 0 ∨ 1000 < p.toInt ∨ target ≠ raw) }
        { s with sched := { s.sched with queue := s.sched.queue ++ [portEntry r a (.move target) none] } })

/-- A SHIFT of an absent shift axis is taken in every phase: the whole demand, clamped to ±1000, becomes excess, in the
demand record and in the geometry inputs, and a change of the inputs asks for a recompute, whatever the engine does (R53,
R73, R84). The same demand sent as a MOVE in PERMILLE does the same (R183). -/
def Obligations.ShiftOfAbsentAxis : Prop :=
  ∀ (s : State) (r : Req) (a : Axis), a = .sh ∨ a = .sv → portTakes s r.port = true → (s.chan a).state = .absent →
    (∀ (p : Half) (q : Int), q = clampInt (-1000) 1000 p.toInt →
      ∃ t, exec (.shift r (axisByte a) p) s =
          .next (answered r { status := .ok, clamped := decide (p.toInt < -1000 ∨ 1000 < p.toInt) } t) ∧
        DemandWritten a { demand := q, excess := q, current := true } s t) ∧
    ∀ (p : Quadword) (q : Int), unitOf (s.port r.port).unit r.qual = .permille →
      q = clampInt (-1000) 1000 p.toInt →
      ∃ t, exec (.move r (axisByte a) p) s =
          .next (answered r { status := .ok, clamped := decide (p.toInt < -1000 ∨ 1000 < p.toInt) } t) ∧
        DemandWritten a { demand := q, excess := q, current := true } s t

/-- The excess of a demand is 0 when the raw target lies within the soft limits, and otherwise lies between 0 and the
demand, for settings as R4 accepts them (R52). -/
def Obligations.ExcessWithinDemand : Prop :=
  ∀ (st : Settings) (o : Orientation) (p : Int),
    st.softMin ≤ st.centre → st.centre ≤ st.softMax → 256 ≤ st.k → -1000 ≤ p → p ≤ 1000 →
    ((st.softMin : Int) ≤ shiftRaw st o p → shiftRaw st o p ≤ st.softMax → shiftExcess st o p = 0) ∧
    (0 ≤ p → 0 ≤ shiftExcess st o p ∧ shiftExcess st o p ≤ p) ∧
    (p ≤ 0 → p ≤ shiftExcess st o p ∧ shiftExcess st o p ≤ 0)

/-- JOG_KEEP restarts the keep count of the queued and the running jog of its port on the axis, of both where there are
both (log 22), and is answered OK. With neither, whatever else is queued or running there, a jog of the other port or of
an internal origin as well, it is answered NOT_JOGGING, and ABSENT for an absent axis, and changes nothing (R44). -/
def Obligations.JogKept : Prop :=
  ∀ (s : State) (r : Req) (a : Axis), portTakes s r.port = true →
    ((s.chan a).state = .absent →
      exec (.jogKeep r (axisByte a)) s = .next (answered r { status := .absent } s)) ∧
    ((s.chan a).state ≠ .absent →
      (∀ (en : Entry) (d : Dir) (l : Nat), QueuesJog s r a en d l →
        (∀ x, ¬RunsJog s r a x) →
          exec (.jogKeep r (axisByte a)) s =
            .next (answered r { status := .ok }
              { s with
                sched :=
                  { s.sched with
                    queue := s.sched.queue.map fun e =>
                      if e.axis = a then { en with motion := .jog d l 13 } else e } })) ∧
      (∀ x : MotionRec, RunsJog s r a x → (∀ en d l, ¬QueuesJog s r a en d l) →
        exec (.jogKeep r (axisByte a)) s =
          .next (answered r { status := .ok }
            { s with
              sched := { s.sched with records := s.sched.records.set a (some { x with kind := .jog 13 }) } })) ∧
      (∀ (en : Entry) (d : Dir) (l : Nat) (x : MotionRec), QueuesJog s r a en d l → RunsJog s r a x →
        exec (.jogKeep r (axisByte a)) s =
          .next (answered r { status := .ok }
            { s with
              sched :=
                { s.sched with
                  queue := s.sched.queue.map fun e =>
                    if e.axis = a then { en with motion := .jog d l 13 } else e
                  records := s.sched.records.set a (some { x with kind := .jog 13 }) } })) ∧
      ((∀ en d l, ¬QueuesJog s r a en d l) → (∀ x, ¬RunsJog s r a x) →
        exec (.jogKeep r (axisByte a)) s = .next (answered r { status := .notJogging } s)))

/-- A jog whose keep count is about to end expires: a queued one is removed, and STOPPED goes to its port; a running one
above level 0 starts to decelerate with cause EXPIRY, its slot RUNDOWN (R43, R15); one at level 0 is at rest at once, its slot
FREE, STOPPED to its port, and the demand record of a shift axis follows (R15, R16, R54). That the command takes the last
tick by itself is log 3; the ramp part at rest is log 57. -/
def Obligations.JogExpires : Prop :=
  ∀ (s : State) (a : Axis), s.powered = true →
    (∀ (en : Entry) (d : Dir) (l n : Nat) (p : Port), s.sched.entryOf a = some en → en.motion = .jog d l n → n ≤ 1 →
      en.link = none → originPort en.origin = some p →
      exec (.jogExpiry a .queued) s =
        .next (({ s with
            sched := { s.sched with queue := s.sched.queue.filter fun e => e.axis ≠ a } } : State).setPort p
          (((s.port p).notice (.move a (en.tag.getD 0) .stopped)).raise .moveDone))) ∧
    (∀ (x : MotionRec) (n l : Nat), (s.chan a).state = .jogging → s.sched.records.get a = some x → x.kind = .jog n →
      n ≤ 1 → (s.chan a).ramp.level = l + 1 →
      exec (.jogExpiry a .running) s =
        .next { s with
          axes := s.axes.set a
            { s.chan a with
              state := .stopping, stopCause := some .expiry, homing := none
              ramp := ⟨l, levelLength (s.chan a).table l, .decel⟩ }
          sched :=
            { s.sched with
              slot1 := if s.sched.slot1 = .granted a then .rundown a else s.sched.slot1
              slot2 := if s.sched.slot2 = .granted a then .rundown a else s.sched.slot2 } }) ∧
    ∀ (x : MotionRec) (n : Nat) (p : Port) (u : State), (s.chan a).state = .jogging → (s.chan a).jog.isSome = true →
      ToldTo s a x p → x.kind = .jog n → n ≤ 1 → (s.chan a).ramp.level = 0 → s.sched.queue = [] → s.sched.held = [] →
      u =
        { s with
          axes := s.axes.set a { rested (s.chan a) .idle with target := none, lastResult := some .stopped }
          sched := { slotFreed s.sched a with records := s.sched.records.set a none } } →
      ∃ t, exec (.jogExpiry a .running) s =
          .next (t.setPort p ((s.port p).told a x.tag .stopped .moveDone)) ∧
        DemandWritten a
          { demand := permilleOf a (s.chan a).settings s.geom.inputs.orientation (s.chan a).position, excess := 0
            current := true } u t

/-- STOP of one axis: in MOVING, HOMING or JOGGING above level 0 it enters STOPPING, decelerating through the levels
below, its slot RUNDOWN and its homing context absent (log 24); at level 0 it is at rest at once with STOPPED; a STOPPING
axis takes the cause STOP from ALLOWANCE and keeps any other; a held motion is dropped with STOPPED (log 41); a queued entry
is removed, behind a motion as well, and STOPPED goes to its port; at rest with nothing queued nothing happens; all are
answered OK, and ABSENT when the axis is absent (R15, R16, R45). The demand record of a shift axis and the tracker follow a
motion that ended (R54, R172); a HOME of FC that ends STOPPED leaves the tracker as it was, for which R172 has no row
(log 48). The ramp part at rest is log 57. -/
def Obligations.StopTaken : Prop :=
  ∀ (s : State) (r : Req) (a : Axis), portTakes s r.port = true →
    ((s.chan a).state = .absent → exec (.stop r (axisByte a)) s = .next (answered r { status := .absent } s)) ∧
    ((s.chan a).state = .idle ∨ (s.chan a).state = .unreferenced → s.sched.entryOf a = none →
      exec (.stop r (axisByte a)) s = .next (answered r { status := .ok } s)) ∧
    ((s.chan a).state = .stopping → s.sched.entryOf a = none →
      ((s.chan a).stopCause = some .allowance →
        exec (.stop r (axisByte a)) s =
          .next (answered r { status := .ok } (s.setChan a { s.chan a with stopCause := some .stop }))) ∧
      ((s.chan a).stopCause ≠ some .allowance →
        exec (.stop r (axisByte a)) s = .next (answered r { status := .ok } s))) ∧
    (∀ x : MotionRec, (s.chan a).state = .held → s.sched.entryOf a = none → NoGrant s →
      s.sched.records.get a = some x →
      ∃ t, exec (.stop r (axisByte a)) s = .next (answered r { status := .ok } t) ∧
        t.axes = s.axes.set a
          { s.chan a with
            target := none, heldHome := false, state := if (s.chan a).referenced then .idle else .unreferenced
            lastResult := some .stopped, lastOrigin := some x.origin } ∧
        t.sched.held = s.sched.held.filter (fun b => decide (b ≠ a)) ∧ t.sched.queue = s.sched.queue ∧
        t.sched.records = s.sched.records.set a none ∧
        (∀ p, x.link = none → originPort x.origin = some p →
          t.port p = (s.port p).told a x.tag .stopped .moveDone)) ∧
    ((s.chan a).state = .idle ∨ (s.chan a).state = .unreferenced → NoGrant s →
      ∀ (en : Entry) (p : Port), s.sched.entryOf a = some en → en.link = none → originPort en.origin = some p →
        exec (.stop r (axisByte a)) s =
          .next (answered r { status := .ok }
            (({ s with
              sched := { s.sched with queue := s.sched.queue.filter fun e => e.axis ≠ a } } : State).setPort p
              ((s.port p).told a en.tag .stopped .moveDone)))) ∧
    ((s.chan a).state = .moving ∨ (s.chan a).state = .homing ∨ (s.chan a).state = .jogging →
      ∀ u : State,
        u =
          { s with
            axes := s.axes.set a
              { s.chan a with
                state := .stopping, stopCause := some .stop, homing := none
                ramp := ⟨(s.chan a).ramp.level - 1,
                  levelLength (s.chan a).table ((s.chan a).ramp.level - 1), .decel⟩ }
            sched :=
              { s.sched with
                slot1 := if s.sched.slot1 = .granted a then .rundown a else s.sched.slot1
                slot2 := if s.sched.slot2 = .granted a then .rundown a else s.sched.slot2 } } →
        1 ≤ (s.chan a).ramp.level →
        (s.sched.entryOf a = none → exec (.stop r (axisByte a)) s = .next (answered r { status := .ok } u)) ∧
        ∀ (en : Entry) (p : Port), s.sched.queue = [en] → en.axis = a → s.sched.held = [] → en.link = none →
          originPort en.origin = some p →
          exec (.stop r (axisByte a)) s =
            .next (answered r { status := .ok }
              (({ u with sched := { u.sched with queue := [] } } : State).setPort p
                ((s.port p).told a en.tag .stopped .moveDone)))) ∧
    ∀ (x : MotionRec) (p : Port) (u : State) (st : AxisState), (s.chan a).ramp.level = 0 → s.sched.queue = [] →
      s.sched.held = [] → s.sched.records.get a = some x → x.link = none → originPort x.origin = some p →
      x.ran = true →
      u =
        { s with
          axes := s.axes.set a
            { s.chan a with
              state := st, target := none, segment := none, jog := none, homing := none, stopCause := none
              ramp := ⟨0, 0, .decel⟩, holdTimer := 16, lastResult := some .stopped }
          sched :=
            { s.sched with
              records := s.sched.records.set a none
              slot1 := if s.sched.slot1.holder = some a then .free else s.sched.slot1
              slot2 := if s.sched.slot2.holder = some a then .free else s.sched.slot2 } } →
      ((s.chan a).state = .moving → (s.chan a).jog = none → (s.chan a).target.isSome = true → x.kind = .move →
        st = .idle →
        ∃ t, exec (.stop r (axisByte a)) s =
            .next (answered r { status := .ok } (t.setPort p ((s.port p).told a x.tag .stopped .moveDone))) ∧
          DoneTaken a
            { demand := permilleOf a (s.chan a).settings s.geom.inputs.orientation (s.chan a).position, excess := 0
              current := true } u t) ∧
      (∀ n, (s.chan a).state = .jogging → (s.chan a).jog.isSome = true → x.kind = .jog n → st = .idle →
        ∃ t, exec (.stop r (axisByte a)) s =
            .next (answered r { status := .ok } (t.setPort p ((s.port p).told a x.tag .stopped .moveDone))) ∧
          DemandWritten a
            { demand := permilleOf a (s.chan a).settings s.geom.inputs.orientation (s.chan a).position, excess := 0
              current := true } u t) ∧
      ((s.chan a).state = .homing → (s.chan a).jog = none → (s.chan a).target = none → x.kind = .home →
        st = .unreferenced →
        ∃ t, exec (.stop r (axisByte a)) s =
            .next (answered r { status := .ok } (t.setPort p ((s.port p).told a x.tag .stopped .moveDone))) ∧
          DemandWritten a { demand := 0, excess := 0, current := false } u t)

/-- STOP ALL leaves no queued entry, no held axis, and no axis in MOVING, HOMING, JOGGING or HELD, in every state whose
held list names HELD axes (R45). -/
def Obligations.StopAllBringsToRest : Prop :=
  ∀ (s : State) (r : Req), portTakes s r.port = true → (∀ a ∈ s.sched.held, (s.chan a).state = .held) →
    Completes (.stop r 255) s fun t =>
      t.sched.queue = [] ∧ t.sched.held = [] ∧
      ∀ a, (t.chan a).state ≠ .moving ∧ (t.chan a).state ≠ .homing ∧ (t.chan a).state ≠ .jogging
        ∧ (t.chan a).state ≠ .held

/-- SET_AXIS (R3, R4): BUSY while the axis is in motion or HELD, RANGE outside its ranges. On ZM and FC an accepted one that
keeps present as it is, of a fitted axis or of an absent one (log 34), and the reference writes the settings alone; a change
of travel or home_offset takes the reference of an IDLE axis; a fitted axis becomes ABSENT with its coils released; an absent
one becomes UNREFERENCED at 0. On SH and SV it does the same and writes the demand record as R55 gives. A queued MOVE or JOG
of the axis ends FAILED(SETTINGS) with the reference, a HOME stays (R46), and every queued entry ends FAILED(ABSENT) with the
axis (R47), also when travel, home_offset, centre or k change with it (log 43). -/
def Obligations.SettingsWritten : Prop :=
  (∀ (s : State) (r : Req) (a : Axis) (p : AxisParams), Takes s r .systemOnly →
    inMotion (s.chan a).state = true ∨ (s.chan a).state = .held →
    exec (.setAxis r (axisByte a) p) s = .next (answered r { status := .busy } s)) ∧
  (∀ (s : State) (r : Req) (a : Axis) (p : AxisParams), Takes s r .systemOnly →
    (s.chan a).state = .idle ∨ (s.chan a).state = .unreferenced ∨ (s.chan a).state = .absent →
    (2 ≤ p.present.toNat ∨ 3 ≤ p.approach.toNat ∨ p.travel.toNat < 1000 ∨ 60000 < p.travel.toNat
      ∨ p.softMax.toNat ≤ p.softMin.toNat ∨ p.travel.toNat < p.softMax.toNat ∨ p.softMin.toNat < p.homeOffset.toNat
      ∨ p.tolerance.toNat = 0
      ∨ p.park.toNat ≠ 65535 ∧ (p.park.toNat < p.softMin.toNat ∨ p.softMax.toNat < p.park.toNat)
      ∨ (a = .sh ∨ a = .sv) ∧ (p.centre.toNat < p.softMin.toNat ∨ p.softMax.toNat < p.centre.toNat
        ∨ p.k.toNat < 256 ∨ 25600 < p.k.toNat)) →
    exec (.setAxis r (axisByte a) p) s = .next (answered r { status := .range } s)) ∧
  ∀ (s : State) (r : Req) (a : Axis) (p : AxisParams) (x : Settings), Takes s r .systemOnly →
    AxisSet a (s.chan a).settings p x →
    (s.chan a).state = .idle ∨ (s.chan a).state = .unreferenced ∨ (s.chan a).state = .absent →
    ∀ gone fitted lost : State,
    gone = s.setChan a
      { s.chan a with
        settings := x, referenced := false, state := .absent, energized := false, holdTimer := 0, coilA := 0
        coilB := 0 } →
    fitted = s.setChan a { s.chan a with settings := x, state := .unreferenced, position := 0 } →
    lost =
      { s.setChan a { s.chan a with settings := x, referenced := false, state := .unreferenced } with
        shift := demandLost s.shift a } →
    ((s.chan a).settings.present = x.present →
      (s.chan a).referenced = false ∨
        (s.chan a).settings.travel = x.travel ∧ (s.chan a).settings.homeOffset = x.homeOffset →
      (a = .zm ∨ a = .fc ∨ x.present = false ∨
          (s.chan a).settings.centre = x.centre ∧ (s.chan a).settings.k = x.k →
        exec (.setAxis r (axisByte a) p) s =
          .next (answered r { status := .ok } (s.setChan a { s.chan a with settings := x }))) ∧
      (a = .sh ∨ a = .sv → x.present = true →
        (s.chan a).settings.centre ≠ x.centre ∨ (s.chan a).settings.k ≠ x.k →
        ∃ t, exec (.setAxis r (axisByte a) p) s = .next (answered r { status := .ok } t) ∧
          DemandWritten a
            (if (s.chan a).referenced then
              { demand := permilleOf a x s.geom.inputs.orientation (s.chan a).position, excess := 0, current := true }
            else { demand := 0, excess := 0, current := false })
            (s.setChan a { s.chan a with settings := x }) t)) ∧
    ((s.chan a).settings.present = x.present → (s.chan a).referenced = true → (s.chan a).state = .idle →
      (s.chan a).settings.travel ≠ x.travel ∨ (s.chan a).settings.homeOffset ≠ x.homeOffset →
      (s.chan a).settings.centre = x.centre → (s.chan a).settings.k = x.k →
      (s.sched.entryOf a = none ∨ (∃ en, s.sched.entryOf a = some en ∧ en.motion = .home) →
        exec (.setAxis r (axisByte a) p) s = .next (answered r { status := .ok } lost)) ∧
      ∀ (en : Entry) (q : Port), s.sched.entryOf a = some en → en.motion ≠ .home → en.link = none →
        originPort en.origin = some q →
        exec (.setAxis r (axisByte a) p) s =
          .next (answered r { status := .ok }
            (({ lost with
                sched := { s.sched with queue := s.sched.queue.filter fun e => e.axis ≠ a } } : State).setPort q
              ((s.port q).told a en.tag (.failed .settings) .moveFailed)))) ∧
    ((s.chan a).settings.present = true → x.present = false → NoGrant s →
      ∀ d : DemandRec, (a = .sh → d = s.shift.sh) → (a = .sv → d = s.shift.sv) →
      ∃ t : State,
        DemandWritten a { d with excess := if d.current then d.demand else 0, current := true } gone t ∧
        (s.sched.entryOf a = none → exec (.setAxis r (axisByte a) p) s = .next (answered r { status := .ok } t)) ∧
        ∀ (en : Entry) (q : Port), s.sched.entryOf a = some en → en.link = none → originPort en.origin = some q →
          exec (.setAxis r (axisByte a) p) s =
            .next (answered r { status := .ok }
              (({ t with
                  sched := { s.sched with queue := s.sched.queue.filter fun e => e.axis ≠ a } } : State).setPort q
                ((s.port q).told a en.tag (.failed .absent) .moveFailed)))) ∧
    ((s.chan a).settings.present = false → x.present = true →
      ∃ t, exec (.setAxis r (axisByte a) p) s = .next (answered r { status := .ok } t) ∧
        DemandWritten a { demand := 0, excess := 0, current := false } fitted t)

/-- SET_RAMP (R7): BUSY while the axis is in motion or HELD; RANGE, the old table kept, for a level count outside 1 to
12, an interval outside 50 to 5000, a length of 0 or an interval larger than the one below; otherwise the table is
written whole. -/
def Obligations.RampTableWritten : Prop :=
  ∀ (s : State) (r : Req) (a : Axis) (l : List LevelParam), Takes s r .systemOnly → l.length ≤ 22 →
    (inMotion (s.chan a).state = true ∨ (s.chan a).state = .held →
      exec (.setRamp r (axisByte a) l) s = .next (answered r { status := .busy } s)) ∧
    ((s.chan a).state = .idle ∨ (s.chan a).state = .unreferenced ∨ (s.chan a).state = .absent →
      ((1 ≤ l.length ∧ l.length ≤ 12 ∧
          (∀ x ∈ l, 50 ≤ x.interval.toNat ∧ x.interval.toNat ≤ 5000 ∧ 1 ≤ x.length.toNat) ∧
          ∀ (n : Nat) (x y : LevelParam), l[n]? = some x → l[n + 1]? = some y →
            y.interval.toNat ≤ x.interval.toNat) →
        exec (.setRamp r (axisByte a) l) s =
          .next (answered r { status := .ok }
            (s.setChan a { s.chan a with table := l.map fun x => ⟨x.interval.toNat, x.length.toNat⟩ }))) ∧
      ((l.length = 0 ∨ 12 < l.length ∨
          (∃ x ∈ l, x.interval.toNat < 50 ∨ 5000 < x.interval.toNat ∨ x.length.toNat = 0) ∨
          ∃ (n : Nat) (x y : LevelParam), l[n]? = some x ∧ l[n + 1]? = some y ∧
            x.interval.toNat < y.interval.toNat) →
        exec (.setRamp r (axisByte a) l) s = .next (answered r { status := .range } s)))

/-! ### Axis events -/

/-- A step event of an axis in motion moves its position by one in its direction of travel, drives the coils with the
pattern buffer's entry and makes it the phase index; every other axis keeps its place. An axis at rest takes none (R9;
log 27). At the end of segment 1 of a move, segment 2 begins (R12, R13). A stop for the allowance that comes to rest enters
HELD at the tail of the held list, its slot FREE; a queued entry of the axis drops the held motion instead, REPLACED (R16,
R41, R1; log 41). The end of a motion lets the head of the held list resume, in the first slot where both are FREE (R37,
R42; log 17), its move of one segment where it starts at the end of the approach (log 50). A correction of the tracker that
ends DONE adds the distance it moved to applied (R171). The ramp part at rest is log 57. -/
def Obligations.StepEventMoves : Prop :=
  (∀ (s : State) (a : Axis), s.powered = true →
    (inMotion (s.chan a).state = false → exec (.stepEvent a) s = .next s) ∧
    (inMotion (s.chan a).state = true →
      Completes (.stepEvent a) s fun t =>
        (t.chan a).position = onward (s.chan a).dir (s.chan a).position ∧
        (t.chan a).phaseIndex = (s.chan a).buffer ∧
        (t.chan a).coilA = (coilPattern (s.chan a).buffer).1 ∧
        (t.chan a).coilB = (coilPattern (s.chan a).buffer).2 ∧
        ∀ b, b ≠ a → (t.chan b).position = (s.chan b).position ∧ (t.chan b).phaseIndex = (s.chan b).phaseIndex)) ∧
  (∀ (s : State) (a : Axis) (goal : Int) (dist : Nat) (d : Dir), s.powered = true → (s.chan a).state = .moving →
    (s.chan a).target = some goal → LastMicrostep (s.chan a).ramp → (stepped (s.chan a)).position ≠ goal →
    dist = (goal - (stepped (s.chan a)).position).natAbs →
    d = (if (stepped (s.chan a)).position < goal then .pos else .neg) →
    exec (.stepEvent a) s =
      .next (s.setChan a
        { stepped (s.chan a) with
          dir := d, buffer := nextEntry d (stepped (s.chan a)).phaseIndex, segment := some .twoOfTwo, segEnd := goal
          peak := peakLevel (s.chan a).table dist
          ramp := rampBegin (s.chan a).table (peakLevel (s.chan a).table dist) dist })) ∧
  (∀ (s : State) (a : Axis) (c : Channel), s.powered = true → (s.chan a).state = .stopping →
    (s.chan a).stopCause = some .allowance → (s.chan a).jog = none → LastMicrostep (s.chan a).ramp →
    s.sched.slot1 ≠ .granted a → s.sched.slot2 ≠ .granted a → allowance s ≤ s.sched.grantedCount →
    c =
      { rested (stepped (s.chan a)) .held with
        heldHome := (s.chan a).heldHome || (s.chan a).target.isNone } →
    (s.sched.entryOf a = none →
      exec (.stepEvent a) s =
        .next { s with
          axes := s.axes.set a c, sched := { slotFreed s.sched a with held := s.sched.held ++ [a] } }) ∧
    ∀ (en : Entry) (x : MotionRec) (p : Port), s.sched.entryOf a = some en → s.sched.records.get a = some x →
      x.link = none → originPort x.origin = some p →
      exec (.stepEvent a) s =
        .next (({ s with
            axes := s.axes.set a
              { c with
                target := none, heldHome := false, state := if (s.chan a).referenced then .idle else .unreferenced
                lastResult := some .replaced, lastOrigin := some x.origin }
            sched :=
              { slotFreed s.sched a with records := s.sched.records.set a none } } : State).setPort p
          ((s.port p).told a x.tag .replaced .moveReplaced))) ∧
  (∀ (s : State) (a : Axis) (rest : List Axis) (x y : MotionRec) (p : Port) (goal : Int), s.powered = true →
    a ≠ .zm → (s.chan .zm).state = .moving → (s.chan .zm).target = some (stepped (s.chan .zm)).position →
    LastMicrostep (s.chan .zm).ramp → s.sched.records.get .zm = some x → x.link = none → originPort x.origin = some p →
    s.sched.slot1 = .granted .zm → s.sched.slot2.grantee = none → s.sched.slot2.holder ≠ some .zm →
    allowance s = 1 → s.sched.held = a :: rest → a ∉ rest → s.sched.records.get a = some y →
    ((s.chan a).heldHome = true ∨
      (s.chan a).target = some goal ∧ softClamp (s.chan a).settings goal ≠ (s.chan a).position) →
    ∃ z c : Channel,
      exec (.stepEvent .zm) s =
        .next (({ s with
            axes := (s.axes.set .zm z).set a c
            sched :=
              { s.sched with
                held := rest, slot1 := .granted a, later := some .one
                records := s.sched.records.set .zm none } } : State).setPort p
          ((s.port p).told .zm x.tag .done .moveDone)) ∧
      z.state = .idle ∧ z.target = none ∧ z.lastResult = some .done ∧ c.position = (s.chan a).position ∧
      c.energized = true ∧ c.holdTimer = 0 ∧ c.lastOrigin = some y.origin ∧
      ((s.chan a).heldHome = true → c.state = .homing ∧ c.referenced = false ∧ c.heldHome = false) ∧
      ((s.chan a).heldHome = false →
        c.state = .moving ∧ c.target = some (softClamp (s.chan a).settings goal) ∧
        ∀ (seg : Segment) (e : Int),
          firstSegment (s.chan a).settings (s.chan a).position (softClamp (s.chan a).settings goal) = (seg, e) →
          c.segment = some seg ∧ c.segEnd = e)) ∧
  ∀ (s : State) (x : MotionRec), s.powered = true → (s.chan .fc).state = .moving →
    (s.chan .fc).target = some (stepped (s.chan .fc)).position → LastMicrostep (s.chan .fc).ramp →
    s.sched.records.get .fc = some x → x.origin = .focusTrack → x.link = none → x.ran = true →
    s.sched.queue = [] → s.sched.held = [] →
    Completes (.stepEvent .fc) s fun t =>
      (t.chan .fc).state = .idle ∧ t.sched.records.get .fc = none ∧
      t.track =
        { s.track with
          applied := clampInt (-(s.track.limit : Int)) s.track.limit
            (s.track.applied + ((stepped (s.chan .fc)).position - x.startPos)) } ∧
      ∀ p, t.port p = s.port p

/-- A segment of any distance from 1 up, over any table with no empty level, comes to the end of its deceleration at its
last microstep and not before (R8). -/
def Obligations.SegmentEndsExactly : Prop :=
  ∀ (table : List RampLevel) (distance : Nat), LengthsPositive table → 1 ≤ distance →
    ride table (peakLevel table distance) distance distance (rampBegin table (peakLevel table distance) distance)
        = ⟨0, 0, .decel⟩ ∧
    ∀ n, n < distance →
      ride table (peakLevel table distance) n distance (rampBegin table (peakLevel table distance) distance)
        ≠ ⟨0, 0, .decel⟩

/-- A stop taken at a level comes to rest after A of that level microsteps and not before, over any table with no empty
level (R15). -/
def Obligations.StopDistanceExact : Prop :=
  ∀ (table : List RampLevel) (level : Nat), LengthsPositive table → level ≤ topLevel table →
    coast table (rampDistance table level) (decelFrom table level) = ⟨0, 0, .decel⟩ ∧
    ∀ n, n < rampDistance table level → coast table n (decelFrom table level) ≠ ⟨0, 0, .decel⟩

/-- A move that is in its last segment, of either direction and any axis, followed step event by step event with nothing
queued or held: after n events it stands n microsteps on and is still MOVING, and after the last it is IDLE at its target
with the result DONE (R8, R9, R13, R14). -/
def Obligations.MoveReachesTarget : Prop :=
  ∀ (s : State) (a : Axis) (goal : Int) (dist : Nat), s.powered = true →
    (s.chan a).state = .moving → (s.chan a).target = some goal → (s.chan a).segEnd = goal →
    dist = (goal - (s.chan a).position).natAbs → 1 ≤ dist →
    (s.chan a).dir = (if (s.chan a).position < goal then .pos else .neg) → LengthsPositive (s.chan a).table →
    (s.chan a).peak = peakLevel (s.chan a).table dist →
    (s.chan a).ramp = rampBegin (s.chan a).table (s.chan a).peak dist →
    s.sched.queue = [] → s.sched.held = [] →
    ∀ n : Nat, n ≤ dist →
      ∃ t, runAll (List.replicate n (.stepEvent a)) s = .next t ∧
        (t.chan a).position =
          (if (s.chan a).position < goal then (s.chan a).position + n else (s.chan a).position - n) ∧
        (n < dist → (t.chan a).state = .moving) ∧
        (n = dist →
          (t.chan a).position = goal ∧ (t.chan a).state = .idle ∧ (t.chan a).target = none
          ∧ (t.chan a).lastResult = some .done
          ∧ (t.chan a).holdTimer = if (s.chan a).energized then 16 else (s.chan a).holdTimer)

/-- A change of the raw home switch input away from the filtered level records the edge position and starts the stability
time; a change back drops it; when the time runs out on an axis at rest the change is taken and nothing else happens
(R19). The last tick of a hold timer releases the coils of an axis at rest (R11; log 3). -/
def Obligations.SwitchAndCoils : Prop :=
  ∀ (s : State) (a : Axis), s.powered = true →
    (∀ level : Bool, level ≠ (s.chan a).switch.pin → level ≠ (s.chan a).switch.filtered →
      exec (.homeSwitchChange a level) s =
        .next (s.setChan a
          { s.chan a with
            switch :=
              { (s.chan a).switch with
                pin := level, stable := true, edgePos := (s.chan a).position
                edgeUp := inMotion (s.chan a).state && decide ((s.chan a).dir = .pos) } })) ∧
    (∀ level : Bool, level ≠ (s.chan a).switch.pin → level = (s.chan a).switch.filtered →
      exec (.homeSwitchChange a level) s =
        .next (s.setChan a { s.chan a with switch := { (s.chan a).switch with pin := level, stable := false } })) ∧
    ((s.chan a).switch.stable = true → inMotion (s.chan a).state = false →
      exec (.homeFilterExpiry a) s =
        .next (s.setChan a
          { s.chan a with switch := { (s.chan a).switch with filtered := (s.chan a).switch.pin, stable := false } })) ∧
    (inMotion (s.chan a).state = false → (s.chan a).holdTimer = 1 →
      exec (.coilRelease a) s =
        .next (s.setChan a { s.chan a with energized := false, holdTimer := 0, coilA := 0, coilB := 0 }))

/-- Homing (R20 to R22). The FAST phase counts its microsteps; a switch assertion makes it decelerate as a stop does, or
begins BACKOFF at once at level 0, and BACKOFF begins at the end of that deceleration, positive at level 0 with the count
0; at travel + 2048 microsteps without an assertion it decelerates toward HOME_NOT_FOUND (count and run: log 15, log 23). A
switch release taken in BACKOFF ends homing: the edge reads home_offset, the axis is referenced and IDLE, its slot is free,
and DONE goes to the port of its motion (R21). HOME_NOT_FOUND, and HOME_STUCK at 4096 microsteps of BACKOFF, leave it
UNREFERENCED, and FAILED goes there. The demand record of a shift axis is cleared at either end (R54), and FC anchors the
tracker when homing ends DONE (R172). The ramp part and the count left in the cruise of FAST and in BACKOFF are log 54, the
part at rest log 57. -/
def Obligations.HomingEnds : Prop :=
  (∀ (s : State) (a : Axis) (h : Homing) (x : MotionRec) (p : Port), s.powered = true →
    (s.chan a).state = .homing → (s.chan a).homing = some h → h.phase = .backoff →
    (s.chan a).switch.stable = true → (s.chan a).switch.pin = false → s.sched.queue = [] → s.sched.held = [] →
    s.sched.records.get a = some x → x.kind = .home → x.link = none → originPort x.origin = some p →
    ∃ t, exec (.homeFilterExpiry a) s =
        .next (t.setPort p ((s.port p).told a x.tag .done .moveDone)) ∧
      DoneTaken a { demand := 0, excess := 0, current := false }
        { s with
          axes := s.axes.set a
            { rested (s.chan a) .idle with
              referenced := true, lastResult := some .done
              position := (s.chan a).settings.homeOffset + ((s.chan a).position - (s.chan a).switch.edgePos)
              homeEdge := (s.chan a).settings.homeOffset
              switch := { (s.chan a).switch with filtered := false, stable := false } }
          sched := { slotFreed s.sched a with records := s.sched.records.set a none } } t) ∧
  (∀ (s : State) (a : Axis) (n : Nat), s.powered = true → (s.chan a).state = .homing →
    (s.chan a).homing = some ⟨.fast, n, .running⟩ →
    ((s.chan a).switch.stable = true → (s.chan a).switch.pin = true →
      ∀ c : Channel, c = { s.chan a with switch := { (s.chan a).switch with filtered := true, stable := false } } →
      (∀ l, (s.chan a).ramp.level = l + 1 →
        exec (.homeFilterExpiry a) s =
          .next (s.setChan a
            { c with
              homing := some ⟨.fast, n, .slowing⟩
              ramp := ⟨l, levelLength (s.chan a).table l, .decel⟩ })) ∧
      ((s.chan a).ramp.level = 0 →
        exec (.homeFilterExpiry a) s =
          .next (s.setChan a
            { c with
              homing := some ⟨.backoff, 0, .running⟩, ramp := ⟨0, 0, .cruise⟩, dir := .pos
              buffer := nextEntry .pos (s.chan a).phaseIndex }))) ∧
    (n + 1 < (s.chan a).settings.travel + 2048 →
      ∃ rp : RampPos,
        exec (.stepEvent a) s =
          .next (s.setChan a { stepped (s.chan a) with homing := some ⟨.fast, n + 1, .running⟩, ramp := rp })) ∧
    ((s.chan a).settings.travel + 2048 ≤ n + 1 → (s.chan a).ramp.part = .cruise →
      ∀ l, (s.chan a).ramp.level = l + 1 →
        exec (.stepEvent a) s =
          .next (s.setChan a
            { stepped (s.chan a) with
              homing := some ⟨.fast, n + 1, .failing⟩
              ramp := ⟨l, levelLength (s.chan a).table l, .decel⟩ }))) ∧
  (∀ (s : State) (a : Axis) (n : Nat), s.powered = true → (s.chan a).state = .homing →
    ((s.chan a).homing = some ⟨.fast, n, .slowing⟩ → LastMicrostep (s.chan a).ramp →
      exec (.stepEvent a) s =
        .next (s.setChan a
          { stepped (s.chan a) with
            homing := some ⟨.backoff, 0, .running⟩, ramp := ⟨0, 0, .cruise⟩, dir := .pos
            buffer := nextEntry .pos (stepped (s.chan a)).phaseIndex })) ∧
    (∀ run, (s.chan a).homing = some ⟨.backoff, n, run⟩ → n + 1 < 4096 →
      exec (.stepEvent a) s =
        .next (s.setChan a { stepped (s.chan a) with homing := some ⟨.backoff, n + 1, run⟩ })) ∧
    ∀ (why : FailReason) (run : HomingRun) (x : MotionRec) (p : Port),
      ((s.chan a).homing = some ⟨.fast, n, .failing⟩ ∧ LastMicrostep (s.chan a).ramp ∧ why = .homeNotFound ∨
        (s.chan a).homing = some ⟨.backoff, n, run⟩ ∧ 4096 ≤ n + 1 ∧ why = .homeStuck) →
      s.sched.queue = [] → s.sched.held = [] → s.sched.records.get a = some x → x.kind = .home → x.link = none →
      x.ran = true → originPort x.origin = some p →
      ∃ t, exec (.stepEvent a) s =
          .next (t.setPort p ((s.port p).told a x.tag (.failed why) .moveFailed)) ∧
        DemandWritten a { demand := 0, excess := 0, current := false }
          { s with
            axes := s.axes.set a
              { rested (stepped (s.chan a)) .unreferenced with lastResult := some (.failed why) }
            sched := { slotFreed s.sched a with records := s.sched.records.set a none } } t) ∧
  ∀ (s : State) (a : Axis) (n : Nat), s.powered = true → (s.chan a).state = .homing →
    (s.chan a).homing = some ⟨.fast, n, .failing⟩ → (s.chan a).switch.stable = true → (s.chan a).switch.pin = true →
    exec (.homeFilterExpiry a) s =
      .next (s.setChan a
        { s.chan a with switch := { (s.chan a).switch with filtered := true, stable := false } })

/-- A release of the home switch taken on an axis that is not homing and not moving positive, or whose raw edge did not
come while it moved positive, or that is unreferenced or at rest, is taken and checks nothing (R23). A pass of the home edge
by a referenced axis MOVING, JOGGING or STOPPING positive: no error changes nothing. An error beyond the tolerance is a lost
step, which takes the reference, marks the demand record of a shift axis not current and stops the axis with cause LOST, at
level 0 at once with FAILED(LOST), a STOPPING axis decelerating on (R24, R54, R55). An error within it is taken off the
position, and the ramp position follows the distance that remains (R25): the level is kept, or falls to the highest whose A
is within that distance; a deceleration goes on or is shortened; with none left a move goes on to its next segment, computes
its segments afresh or ends DONE, a jog ends DONE, and a stop ends as R16 gives, HELD or STOPPED. That none left ends
it at rest is log 19; a fresh move of one segment is log 50; the ramp part after a re-sync is log 53, at rest log 57. -/
def Obligations.HomeEdgeChecked : Prop :=
  (∀ (s : State) (a : Axis), s.powered = true → (s.chan a).switch.stable = true → (s.chan a).switch.pin = false →
    (s.chan a).state ≠ .homing →
    (s.chan a).dir = .neg ∨ (s.chan a).switch.edgeUp = false ∨ (s.chan a).referenced = false ∨
      inMotion (s.chan a).state = false →
    exec (.homeFilterExpiry a) s =
      .next (s.setChan a
        { s.chan a with switch := { (s.chan a).switch with filtered := false, stable := false } })) ∧
  (∀ (s : State) (a : Axis) (st : AxisState) (e : Int), PassesEdge s a st e → e = 0 →
    exec (.homeFilterExpiry a) s = .next (s.setChan a (released (s.chan a)))) ∧
  (∀ (s : State) (a : Axis) (st : AxisState) (e : Int), PassesEdge s a st e →
    (s.chan a).settings.tolerance < e.natAbs →
    (s.sched.entryOf a = none ∨ (∃ en, s.sched.entryOf a = some en ∧ en.motion = .home) →
      (∀ l : Nat, st = .moving ∨ st = .jogging → (s.chan a).ramp.level = l + 1 →
        exec (.homeFilterExpiry a) s =
          .next { s with
            axes := s.axes.set a
              { released (s.chan a) with
                state := .stopping, stopCause := some .lost, homing := none, referenced := false
                ramp := ⟨l, levelLength (s.chan a).table l, .decel⟩ }
            sched :=
              { s.sched with
                slot1 := if s.sched.slot1 = .granted a then .rundown a else s.sched.slot1
                slot2 := if s.sched.slot2 = .granted a then .rundown a else s.sched.slot2 }
            shift := demandLost s.shift a }) ∧
      (st = .stopping →
        exec (.homeFilterExpiry a) s =
          .next { s with
            axes := s.axes.set a { released (s.chan a) with stopCause := some .lost, referenced := false }
            shift := demandLost s.shift a })) ∧
    ∀ (x : MotionRec) (p : Port) (u : State), st = .moving ∨ st = .jogging → (s.chan a).ramp.level = 0 →
      s.sched.queue = [] → s.sched.held = [] → ToldTo s a x p → x.kind ≠ .home →
      u =
        { s with
          axes := s.axes.set a
            { rested (released (s.chan a)) .unreferenced with
              target := none, referenced := false, lastResult := some (.failed .lost) }
          sched := { slotFreed s.sched a with records := s.sched.records.set a none } } →
      ∃ t, exec (.homeFilterExpiry a) s =
          .next (t.setPort p ((s.port p).told a x.tag (.failed .lost) .moveFailed)) ∧
        DemandWritten a
          { demand := permilleOf a (s.chan a).settings s.geom.inputs.orientation (s.chan a).position, excess := 0
            current := false } u t) ∧
  ∀ (s : State) (a : Axis) (st : AxisState) (e r : Int) (c : Channel), PassesEdge s a st e → e ≠ 0 →
    e.natAbs ≤ (s.chan a).settings.tolerance →
    c = { released (s.chan a) with position := (s.chan a).position - e } →
    ((s.chan a).jog = none → r = (s.chan a).segEnd - c.position) →
    ((s.chan a).jog.isSome = true → r = (s.chan a).settings.softMax - c.position) →
    (0 < r → st ≠ .stopping → (st = .jogging ↔ (s.chan a).jog.isSome = true) →
      ∃ rp, RunResynced c.table r.toNat c.ramp rp ∧
        exec (.homeFilterExpiry a) s = .next (s.setChan a { c with ramp := rp })) ∧
    (0 < r → st = .stopping →
      ∃ rp, StopResynced c.table r.toNat c.ramp rp ∧
        exec (.homeFilterExpiry a) s = .next (s.setChan a { c with ramp := rp })) ∧
    (∀ (goal : Int) (d : Dir) (dist : Nat), r = 0 → st = .moving → c.jog = none → c.target = some goal →
      goal ≠ c.position → dist = (goal - c.position).natAbs → d = (if c.position < goal then .pos else .neg) →
      exec (.homeFilterExpiry a) s =
        .next (s.setChan a
          { c with
            dir := d, buffer := nextEntry d c.phaseIndex, segment := some .twoOfTwo, segEnd := goal
            peak := peakLevel c.table dist, ramp := rampBegin c.table (peakLevel c.table dist) dist })) ∧
    (∀ (goal last : Int) (seg : Segment) (dist : Nat), r < 0 → st = .moving → c.jog = none → c.target = some goal →
      softClamp c.settings goal ≠ c.position →
      firstSegment c.settings c.position (softClamp c.settings goal) = (seg, last) →
      dist = (last - c.position).natAbs →
      ∃ v : Channel, exec (.homeFilterExpiry a) s = .next (s.setChan a v) ∧
        v.state = .moving ∧ v.position = c.position ∧ v.target = some (softClamp c.settings goal) ∧
        v.segment = some seg ∧ v.segEnd = last ∧ v.dir = (if c.position < last then .pos else .neg) ∧
        v.peak = peakLevel c.table dist ∧ v.ramp = rampBegin c.table (peakLevel c.table dist) dist) ∧
    (st = .stopping → r ≤ 0 → (s.chan a).stopCause = some .allowance → c.jog = none → c.target.isSome = true →
      s.sched.entryOf a = none → s.sched.slot1 ≠ .granted a → s.sched.slot2 ≠ .granted a →
      allowance s ≤ s.sched.grantedCount →
      exec (.homeFilterExpiry a) s =
        .next { s with
          axes := s.axes.set a (rested c .held)
          sched := { slotFreed s.sched a with held := s.sched.held ++ [a] } }) ∧
    ∀ (x : MotionRec) (p : Port) (u v : State) (here : DemandRec), r ≤ 0 → s.sched.queue = [] → s.sched.held = [] →
      ToldTo s a x p →
      here =
        { demand := permilleOf a c.settings s.geom.inputs.orientation c.position, excess := 0, current := true } →
      u = { s with sched := { slotFreed s.sched a with records := s.sched.records.set a none } } →
      (∀ n, st = .jogging → c.jog.isSome = true → x.kind = .jog n →
        v = u.setChan a { rested c .idle with lastResult := some .done } →
        ∃ t, exec (.homeFilterExpiry a) s = .next (t.setPort p ((s.port p).told a x.tag .done .moveDone)) ∧
          DemandWritten a here v t) ∧
      (∀ (goal : Int) (shown : DemandRec), st = .moving → c.jog = none → x.kind = .move → c.target = some goal →
        (r = 0 → goal = c.position) → (r < 0 → softClamp c.settings goal = c.position) →
        (x.shift = none → shown = here) →
        (∀ y, x.shift = some y → shown = { demand := y.demand, excess := y.excess, current := true }) →
        v =
          u.setChan a
            { c with
              state := .idle, target := none, segment := none, lastResult := some .done, ramp := ⟨0, 0, .decel⟩
              holdTimer := if c.energized then 16 else c.holdTimer } →
        ∃ t, exec (.homeFilterExpiry a) s = .next (t.setPort p ((s.port p).told a x.tag .done .moveDone)) ∧
          DoneTaken a shown v t) ∧
      (v = u.setChan a { rested c .idle with target := none, lastResult := some .stopped } → st = .stopping →
        (∀ n, (s.chan a).stopCause = some .stop ∨ (s.chan a).stopCause = some .expiry ∨
            (s.chan a).stopCause = some .allowance → c.jog.isSome = true → x.kind = .jog n →
          ∃ t, exec (.homeFilterExpiry a) s = .next (t.setPort p ((s.port p).told a x.tag .stopped .moveDone)) ∧
            DemandWritten a here v t) ∧
        ((s.chan a).stopCause = some .stop → c.jog = none → c.target.isSome = true → x.kind = .move →
          ∃ t, exec (.homeFilterExpiry a) s = .next (t.setPort p ((s.port p).told a x.tag .stopped .moveDone)) ∧
            DoneTaken a here v t))

/-! ### Lens memories -/

/-- STORE and ERASE (R60, R61): BUSY while a write runs, and for a STORE while a present axis is not IDLE and referenced
or has a queued entry; otherwise the write begins, the slot's mark cleared and its contents kept as the old image, which
GET_MEMORY then reads. The end of the write gives the slot its contents and STORE_DONE to its port; a loss of power cuts
it and leaves the slot EMPTY (R62, R63). That the supply failing leaves the part taking nothing is log 8, and that the end
of a write changes nothing when no write runs is log 27. -/
def Obligations.MemoryWritten : Prop :=
  (∀ (s : State) (r : Req) (n : Byte), portTakes s r.port = true → n.toNat < 10 →
    (s.mem.job.isSome = true →
      exec (.store r n) s = .next (answered r { status := .busy } s) ∧
      exec (.erase r n) s = .next (answered r { status := .busy } s)) ∧
    ((∃ a, (s.chan a).state ≠ .absent ∧
        ((s.chan a).state ≠ .idle ∨ (s.chan a).referenced = false ∨ (s.sched.entryOf a).isSome = true)) →
      exec (.store r n) s = .next (answered r { status := .busy } s)) ∧
    (s.mem.job = none →
      (∀ a, (s.chan a).state = .absent ∨
        (s.chan a).state = .idle ∧ (s.chan a).referenced = true ∧ s.sched.entryOf a = none) →
      ∃ p : Picture,
        exec (.store r n) s =
          .next (answered r { status := .ok }
            { s with
              mem :=
                { records := s.mem.records.set n.toNat none
                  job := some
                    { slot := n.toNat, kind := .store, port := r.port, tag := r.tag, contents := some p
                      oldImage := (s.mem.records[n.toNat]?).join } } }) ∧
        (∀ a, p.position.get a = if (s.chan a).state = .absent then none else some (s.chan a).position) ∧
        p.demandSh = (if s.shift.sh.current then some s.shift.sh.demand else none) ∧
        p.demandSv = (if s.shift.sv.current then some s.shift.sv.demand else none) ∧
        p.kv = s.geom.inputs.kv ∧ p.kh = s.geom.inputs.kh) ∧
    (s.mem.job = none →
      exec (.erase r n) s =
        .next (answered r { status := .ok }
          { s with
            mem :=
              { records := s.mem.records.set n.toNat none
                job := some
                  { slot := n.toNat, kind := .erase, port := r.port, tag := r.tag, contents := none
                    oldImage := (s.mem.records[n.toNat]?).join } } }))) ∧
  (∀ (m : Memories) (j : WriteJob) (n : Nat), m.job = some j →
    memoryImage m n = if j.slot = n then j.oldImage else (m.records[n]?).join) ∧
  (∀ (s : State) (j : WriteJob), s.powered = true → s.mem.job = some j →
    exec .writeComplete s =
      .next (({ s with mem := { records := s.mem.records.set j.slot j.contents, job := none } } : State).setPort j.port
        (((s.port j.port).notice (.store j.slot j.tag j.kind)).raise .storeDone))) ∧
  (∀ s : State, s.mem.job = none → exec .writeComplete s = .next s) ∧
  ∀ s : State, s.powered = true →
    (s.mem.job = none → exec .powerFail s = .next { s with powered := false }) ∧
    ∀ j, s.mem.job = some j →
      exec .powerFail s =
        .next { s with powered := false, mem := { records := s.mem.records.set j.slot none, job := none } }

/-- RECALL (R63 to R68): WRONG_PHASE in START, COOLDOWN and FAULT, then EMPTY for an EMPTY record, then NOT_REFERENCED
for a present axis without a reference, and nothing changes. Otherwise it is taken, answered QUEUED and numbered. With each
axis it has an entry for without a queued entry, not HELD and not IDLE at its target, and no grant possible, an open context
is superseded, a new one is opened, the stored demand of an absent shift axis becomes its excess, and one entry for each
other axis the record holds joins the tail of the queue. With nothing to place, the context closes at once: the keystone is
written and the notice COMPLETE. -/
def Obligations.RecallTaken : Prop :=
  ∀ (s : State) (r : Req) (n : Byte), portTakes s r.port = true → n.toNat < 10 →
    (phaseRefuses s.phase.phase = true →
      exec (.recallMemory r n) s = .next (answered r { status := .wrongPhase } s)) ∧
    (phaseRefuses s.phase.phase = false → memoryImage s.mem n.toNat = none →
      exec (.recallMemory r n) s = .next (answered r { status := .empty } s)) ∧
    ∀ p : Picture, phaseRefuses s.phase.phase = false → memoryImage s.mem n.toNat = some p →
      ((∃ a, (s.chan a).state ≠ .absent ∧ (s.chan a).referenced = false) →
        exec (.recallMemory r n) s = .next (answered r { status := .notReferenced } s)) ∧
      ((∀ a, (s.chan a).state = .absent ∨ (s.chan a).referenced = true) →
        (∀ a, (s.chan a).settings.softMin ≤ (s.chan a).settings.softMax) →
        (∃ t : State,
          exec (.recallMemory r n) s =
            .next (answered r { status := .queued, clamped := recallClamped p s } t) ∧
          t.recallUnit.nextNumber = s.recallUnit.nextNumber + 1 ∧
          ∀ c, t.recallUnit.ctx = some c → c.number = s.recallUnit.nextNumber ∧ c.slot = n ∧ c.port = r.port) ∧
        ((∀ a x, recallTarget p s a = some x →
            s.sched.entryOf a = none ∧ (s.chan a).state ≠ .held ∧
            ¬((s.chan a).state = .idle ∧ (s.chan a).position = x.1)) →
          NoGrant s → (∃ a, (recallTarget p s a).isSome = true) →
          ∀ s' : State,
            s' =
              (match s.recallUnit.ctx with
              | none => s
              | some c =>
                s.setPort c.port
                  (((s.port c.port).notice (.recalled c.slot c.tag .superseded false c.endings)).raise
                    .recallDone)) →
            ∃ u v : State,
              RecallDemand p .sh s' u ∧ RecallDemand p .sv u v ∧
              exec (.recallMemory r n) s =
                .next (answered r { status := .queued, clamped := recallClamped p s }
                  { v with
                    sched :=
                      { s.sched with queue := s.sched.queue ++ recallEntries r s.recallUnit.nextNumber p s }
                    recallUnit :=
                      { ctx := some
                          { number := s.recallUnit.nextNumber, slot := n, port := r.port, tag := r.tag
                            outstanding :=
                              ⟨(recallTarget p s .sh).isSome, (recallTarget p s .sv).isSome,
                                (recallTarget p s .zm).isSome, (recallTarget p s .fc).isSome⟩
                            endings := ⟨none, none, none, none⟩, kv := p.kv, kh := p.kh, cancelled := false
                            placing := false }
                        nextNumber := s.recallUnit.nextNumber + 1 } }))) ∧
      ((∀ a, (s.chan a).state = .absent) → p.demandSh = none → p.demandSv = none → s.recallUnit.ctx = none →
        s.sched.queue = [] → s.sched.held = [] →
        ∃ t : State,
          exec (.recallMemory r n) s = .next (answered r { status := .queued } t) ∧
          t.recallUnit = { ctx := none, nextNumber := s.recallUnit.nextNumber + 1 } ∧
          t.geom.inputs = { s.geom.inputs with kv := p.kv, kh := p.kh, keystoneClamped := false } ∧
          t.axes = s.axes ∧ t.sched = s.sched ∧
          t.port r.port =
            ((s.port r.port).notice (.recalled n r.tag .complete true ⟨none, none, none, none⟩)).raise .recallDone)

/-! ### Geometry -/

/-- The requests that write the geometry inputs (R71, R72, R74, R75, R84, R95). SET_KEYSTONE clamps both values to ±60
and cancels the keystone of an open recall; SET_ORIENTATION makes both shift demands not current and hands the change to
the cooling controller; SET_PANEL is BUSY while the stream is on, RANGE outside its ranges, and otherwise marks the banks
INVALID. A write that changes an input asks for a recompute; SET_PANEL always asks for one. That the fan targets follow
the orientation at once is log 40. -/
def Obligations.InputsWritten : Prop :=
  (∀ (s : State) (r : Req) (kv kh : Half) (x : Inputs) (u : RecallUnit), portTakes s r.port = true →
    x =
      { s.geom.inputs with
        kv := clampInt (-60) 60 kv.toInt, kh := clampInt (-60) 60 kh.toInt
        keystoneClamped := decide (kv.toInt < -60 ∨ 60 < kv.toInt ∨ kh.toInt < -60 ∨ 60 < kh.toInt) } →
    u = { s.recallUnit with ctx := s.recallUnit.ctx.map fun c => { c with cancelled := true } } →
    ∃ t : State,
      exec (.setKeystone r kv kh) s = .next (answered r { status := .ok, clamped := x.keystoneClamped } t) ∧
      (x = s.geom.inputs → t = { s with recallUnit := u }) ∧
      (x ≠ s.geom.inputs → Recomputed { s with recallUnit := u, geom := { s.geom with inputs := x } } t)) ∧
  (∀ (s : State) (r : Req) (c : Byte) (o : Orientation), Takes s r .systemOnly → orientationOfCode c = some o →
    (o = s.geom.inputs.orientation → exec (.setOrientation r c) s = .next (answered r { status := .ok } s)) ∧
    (o ≠ s.geom.inputs.orientation →
      ∃ t u : State,
        exec (.setOrientation r c) s = .next (answered r { status := .ok } t) ∧
        Recomputed
          { s with
            shift :=
              { sh := { s.shift.sh with current := false }, sv := { s.shift.sv with current := false } }
            geom := { s.geom with inputs := { s.geom.inputs with orientation := o } } } u ∧
        CoolSettled s.cool u t)) ∧
  ∀ (s : State) (r : Req) (w h : Half) (g : Byte), Takes s r .systemOnly →
    (s.stream.mode ≠ .off → exec (.setPanel r w h g) s = .next (answered r { status := .busy } s)) ∧
    (s.stream.mode = .off →
      ((w.toNat < 640 ∨ 3840 < w.toNat ∨ h.toNat < 360 ∨ 2160 < h.toNat ∨ g ≠ 5 ∧ g ≠ 9 ∧ g ≠ 17) →
        exec (.setPanel r w h g) s = .next (answered r { status := .range } s)) ∧
      (640 ≤ w.toNat → w.toNat ≤ 3840 → 360 ≤ h.toNat → h.toNat ≤ 2160 → g = 5 ∨ g = 9 ∨ g = 17 →
        ∃ t : State,
          exec (.setPanel r w h g) s = .next (answered r { status := .ok } t) ∧
          Recomputed
            { s with
              geom :=
                { s.geom with inputs := { s.geom.inputs with w := w.toNat, h := h.toNat, g := g.toNat } }
              banks :=
                { s.banks with
                  a := { s.banks.a with state := if s.banks.a.state = .filling then .filling else .invalid }
                  b := { s.banks.b with state := if s.banks.b.state = .filling then .filling else .invalid } } } t))

/-- The end of a compute (R86): with restart set its result is dropped and a fresh compute starts into the same bank;
otherwise the bank is VALID with its header and grid, the summary is kept, and the bank waits for a frame strobe while a
present picture port streams, and becomes live at once otherwise. That the points are written whole at the end is log 26,
that the corners of the summary are those of stage 4 is log 46. With no compute running nothing happens (log 27). -/
def Obligations.ComputeEnds : Prop :=
  ∀ (s : State), s.powered = true →
    (s.geom.engine ≠ .computing → exec .computeComplete s = .next s) ∧
    ∀ (n : BankName) (i : Inputs), s.geom.engine = .computing → s.geom.bank = some n → s.geom.snapshot = some i →
      (s.geom.restart = true →
        exec .computeComplete s =
          .next { s with
            geom := { s.geom with restart := false, snapshot := some s.geom.inputs }
            banks := s.banks.set n { s.banks.get n with state := .filling } }) ∧
      (s.geom.restart = false → ∀ u : State,
        u =
          { s with
            geom :=
              { s.geom with
                inputs := { s.geom.inputs with shiftClamped := shiftClampedOf i }, engine := .swapPending
                summary := some
                  { corners := finalCorners i, dxPx := shiftPixels i.excessH i.w, dyPx := shiftPixels i.excessV i.h
                    s16 := scaleOf i, shiftClamped := shiftClampedOf i, snapshot := i } }
            banks :=
              s.banks.set n
                { s.banks.get n with
                  state := .valid, w := i.w, h := i.h, g := i.g, keystoneClamped := i.keystoneClamped
                  shiftClamped := shiftClampedOf i
                  points :=
                    (List.range i.g).flatMap fun j =>
                      (List.range i.g).map fun k => gridPoint (i.g - 1) (finalCorners i) k j } } →
        (s.presence.present = true ∧ s.stream.mode ≠ .off → exec .computeComplete s = .next u) ∧
        (s.presence.present = false ∨ s.stream.mode = .off →
          Completes .computeComplete s fun t => Exchanged n u t))

/-- Each interpolation lies between its two operands; the corners of stages 2 and 4 lie on the panel, since the room the
scale gives up holds the shift; every grid point lies within the corners of stage 4 and so on the panel, for the W and H
that go into its bank's header (R82). -/
def Obligations.GridOnPanel : Prop :=
  (∀ (n k : Nat) (a b : Int), 1 ≤ n → k ≤ n →
    (a ≤ b → a ≤ interpolate n a b k ∧ interpolate n a b k ≤ b) ∧
    (b ≤ a → b ≤ interpolate n a b k ∧ interpolate n a b k ≤ a)) ∧
  ∀ i : Inputs, InputsInRange i →
    OnPanel i (keystoneCorners i).tl ∧ OnPanel i (keystoneCorners i).tr ∧ OnPanel i (keystoneCorners i).bl ∧
    OnPanel i (keystoneCorners i).br ∧
    (∀ v : Int, 0 ≤ v → v ≤ 16 * i.w →
      ((towardZero ((v - 8 * i.w) * scaleOf i) 65536).natAbs : Int) * 65536 ≤ 8 * i.w * scaleOf i ∧
      ((shiftX16 i).natAbs : Int) * 65536 ≤ 8 * i.w * (65536 - scaleOf i) ∧
      (towardZero ((v - 8 * i.w) * scaleOf i) 65536).natAbs + (shiftX16 i).natAbs ≤ 8 * i.w) ∧
    (∀ v : Int, 0 ≤ v → v ≤ 16 * i.h →
      ((towardZero ((v - 8 * i.h) * scaleOf i) 65536).natAbs : Int) * 65536 ≤ 8 * i.h * scaleOf i ∧
      ((shiftY16 i).natAbs : Int) * 65536 ≤ 8 * i.h * (65536 - scaleOf i) ∧
      (towardZero ((v - 8 * i.h) * scaleOf i) 65536).natAbs + (shiftY16 i).natAbs ≤ 8 * i.h) ∧
    OnPanel i (finalCorners i).tl ∧ OnPanel i (finalCorners i).tr ∧ OnPanel i (finalCorners i).bl ∧
    OnPanel i (finalCorners i).br ∧
    (∀ p ∈ gridPoints i, WithinCorners (finalCorners i) p ∧ OnPanel i p) ∧
    ∀ b : Bank, (filledBank i b).points = gridPoints i ∧ (filledBank i b).w = i.w ∧ (filledBank i b).h = i.h

/-! ### Stream -/

/-- A frame strobe in FRAME mode with nothing sending and no result pending, then word after word: the four header words
and the points of the live bank in order go out, GS_VALID high and GS_DAT giving each word its most significant bit first,
and after the last the output is idle, both lines low, and the frame bank none (R98, R99, R191). The model field lastWord
holds the word last completed (log 14). -/
def Obligations.FrameStreamed : Prop :=
  ∀ (s : State) (n : BankName) (b : Bank) (k : Nat), s.powered = true → s.stream.mode = .frame →
    s.stream.activity = .idle → s.stream.finishing = none → s.geom.engine ≠ .swapPending →
    s.banks.live = some n → s.banks.get n = b → b.state = .valid → b.w < 65536 → b.h < 65536 → 1 ≤ b.g → b.g < 256 →
    b.points.length = b.g * b.g →
    (∀ p ∈ b.points, (0 ≤ p.x ∧ p.x < 65536) ∧ 0 ≤ p.y ∧ p.y < 65536) → k < 4 + b.g * b.g →
    ∃ (t u : State) (word : Quadword),
      runAll (.frameStrobe :: List.replicate (k + 1) .streamWordSent) s = .next t ∧
      t.stream.lastWord = some word ∧
      runAll (.frameStrobe :: List.replicate k .streamWordSent) s = .next u ∧ gsValid u = true ∧
      (∀ n, n < 32 → gsDat u n = word.toNat.testBit (31 - n)) ∧
      gsValid t = decide (k + 1 < 4 + b.g * b.g) ∧ (k + 1 = 4 + b.g * b.g → ∀ n, gsDat t n = false) ∧
      (∀ bank : Nat, bank = (match n with
          | .a => 0
          | .b => 1) →
        (k = 0 → word.toNat = (0xFF00 + bank) * 65536 + b.generation.toNat) ∧
        (k = 1 → word.toNat = b.w * 65536 + b.h) ∧
        (k = 2 → word.toNat = b.g * 16777216 + 2 * b.keystoneClamped.toNat + b.shiftClamped.toNat) ∧
        (k = 3 → word.toNat = 0xFFFFFFFF - ((0xFF00 + bank) * 65536 + b.generation.toNat)) ∧
        ∀ p : Point, 4 ≤ k → b.points[k - 4]? = some p → word.toNat = p.x.toNat * 65536 + p.y.toNat) ∧
      (k + 1 < 4 + b.g * b.g → t.stream.activity ≠ .idle ∧ t.stream.frameBank = some n) ∧
      (k + 1 = 4 + b.g * b.g → t.stream.activity = .idle ∧ t.stream.frameBank = none) ∧
      t.stream.wordCount = k + 1 ∧ t.stream.lastOverrun = s.stream.lastOverrun ∧ t.banks = s.banks ∧
      t.geom = s.geom ∧ t.picPort = s.picPort ∧ t.sysPort = s.sysPort

/-- SET_STREAM (R97): the mode held changes nothing; from OFF it only sets the mode; OFF, and a change between FRAME and
BAND, clear the stream context, over a send at the end of the word being sent, and OFF makes a pending result live. A frame
strobe is ignored in OFF; otherwise it makes a pending result live and fixes the new frame, from a VALID live bank or empty,
when it is taken (R87, R94, R96). With nothing sending that frame begins at once; over a send the word being sent is let
finish, activity and word count standing, and at that word's end STREAM_OVERRUN is raised and the frame begun (R98, R103,
R104, 5.9; log 18). A SET_STREAM taken in that word drops the frame (R97). A band strobe asks for the next row, waits for
the end of a send, or is dropped with STREAM_OVERRUN (R100, R101). A row is sent as its row word and its points (R100,
R191). -/
def Obligations.StreamRuled : Prop :=
  (∀ (s : State) (r : Req) (c : Byte) (m : StreamMode), Takes s r .pictureOnly → modeOfCode c = some m →
    (m = s.stream.mode → exec (.setStream r c) s = .next (answered r { status := .ok } s)) ∧
    (m ≠ .off → s.stream.mode = .off →
      exec (.setStream r c) s =
        .next (answered r { status := .ok } { s with stream := { s.stream with mode := m } })) ∧
    ∀ u : State, m ≠ s.stream.mode → s.stream.mode ≠ .off → s.stream.activity = .idle → s.stream.finishing = none →
      u =
        { s with
          stream := { s.stream with mode := m, frameBank := none, rowPtr := 0, bandPending := false } } →
      (m ≠ .off ∨ s.geom.engine ≠ .swapPending →
        exec (.setStream r c) s = .next (answered r { status := .ok } u)) ∧
      ∀ n, m = .off → s.geom.engine = .swapPending → s.geom.bank = some n →
        ∃ t, exec (.setStream r c) s = .next (answered r { status := .ok } t) ∧ Exchanged n u t) ∧
  (∀ (s u : State) (f : Finishing) (r : Req) (c : Byte) (m : StreamMode), Takes s r .pictureOnly →
    modeOfCode c = some m → m ≠ s.stream.mode → s.stream.mode ≠ .off → s.stream.activity ≠ .idle →
    (s.stream.finishing = none →
      f = { word := wordOut s, strobe := false, begins := none, bands := 0, reset := false }) →
    (∀ g, s.stream.finishing = some g → f = g) →
    u = { s with stream := { s.stream with mode := m, finishing := some { f with begins := none } } } →
    (m ≠ .off ∨ s.geom.engine ≠ .swapPending →
      exec (.setStream r c) s = .next (answered r { status := .ok } u)) ∧
    ∀ n, m = .off → s.geom.engine = .swapPending → s.geom.bank = some n →
      ∃ t, exec (.setStream r c) s = .next (answered r { status := .ok } t) ∧ Exchanged n u t) ∧
  (∀ (s v : State) (f : Finishing), s.powered = true → s.stream.finishing = some f → f.bands = 0 →
    ∀ st : Stream,
      st =
        { s.stream with
          activity := .idle, frameBank := none, rowPtr := 0, bandPending := false, finishing := none
          lastWord := some f.word, wordCount := if f.reset then 0 else s.stream.wordCount + 1 } →
      (f.strobe = false → f.begins = none → exec .streamWordSent s = .next { s with stream := st }) ∧
      (f.strobe = true →
        v = { s with stream := { st with lastOverrun := .frame }, picPort := s.picPort.raise .streamOverrun } →
        (f.begins = none → exec .streamWordSent s = .next v) ∧
        (f.begins = some .empty →
          exec .streamWordSent s = .next { v with stream := { v.stream with wordCount := 0 } }) ∧
        ∀ (n : BankName) (gen : Half), f.begins = some (.bank n gen) →
          exec .streamWordSent s =
            .next { v with
              stream :=
                { v.stream with activity := .header, wordCount := 0, frameBank := some n, frameGen := gen } })) ∧
  ∀ s : State, s.powered = true →
    (s.stream.mode = .off → exec .frameStrobe s = .next s) ∧
    (s.stream.mode ≠ .off → s.stream.activity ≠ .idle →
      ∀ f : Finishing,
      (s.stream.finishing = none →
        f = { word := wordOut s, strobe := true, begins := none, bands := 0, reset := false }) →
      (∀ g, s.stream.finishing = some g → f = { g with strobe := true, bands := 0 }) →
      (s.geom.engine ≠ .swapPending →
        (∀ n, s.banks.live = some n → (s.banks.get n).state = .valid →
          exec .frameStrobe s =
            .next { s with
              stream :=
                { s.stream with
                  finishing := some { f with begins := some (.bank n (s.banks.get n).generation) } } }) ∧
        ((∀ n, s.banks.live = some n → (s.banks.get n).state ≠ .valid) →
          exec .frameStrobe s =
            .next { s with stream := { s.stream with finishing := some { f with begins := some .empty } } })) ∧
      ∀ n, s.geom.engine = .swapPending → s.geom.bank = some n → (s.banks.get n).state = .valid →
        ∃ u : State, Exchanged n s u ∧
          exec .frameStrobe s =
            .next { u with
              stream :=
                { s.stream with
                  finishing := some { f with begins := some (.bank n (u.banks.get n).generation) } } }) ∧
    (s.stream.mode ≠ .off → s.stream.activity = .idle → s.stream.finishing = none →
      ∀ c : Stream, c = { s.stream with bandPending := false, rowPtr := 0, wordCount := 0 } →
      (s.geom.engine ≠ .swapPending →
        (∀ n, s.banks.live = some n → (s.banks.get n).state = .valid →
          exec .frameStrobe s =
            .next { s with
              stream :=
                { c with activity := .header, frameBank := some n, frameGen := (s.banks.get n).generation } }) ∧
        ((∀ n, s.banks.live = some n → (s.banks.get n).state ≠ .valid) →
          exec .frameStrobe s = .next { s with stream := { c with frameBank := none } })) ∧
      ∀ n, s.geom.engine = .swapPending → s.geom.bank = some n → (s.banks.get n).state = .valid →
        ∃ u : State, Exchanged n s u ∧
          exec .frameStrobe s =
            .next { u with
              stream :=
                { c with activity := .header, frameBank := some n, frameGen := (u.banks.get n).generation } }) ∧
    (∀ f : Finishing, s.stream.finishing = some f →
      exec .bandStrobe s =
        .next { s with stream := { s.stream with finishing := some { f with bands := f.bands + 1 } } }) ∧
    (s.stream.finishing = none → s.stream.mode ≠ .band ∨ s.stream.frameBank = none →
      exec .bandStrobe s = .next s) ∧
    ∀ n, s.stream.finishing = none → s.stream.mode = .band → s.stream.frameBank = some n →
      (s.stream.activity = .idle → s.stream.rowPtr < (s.banks.get n).g →
        exec .bandStrobe s =
          .next { s with
            stream := { s.stream with activity := .row, wordCount := 0, rowPtr := s.stream.rowPtr + 1 } }) ∧
      (s.stream.activity = .idle → (s.banks.get n).g ≤ s.stream.rowPtr → exec .bandStrobe s = .next s) ∧
      (s.stream.activity ≠ .idle → s.stream.bandPending = false →
        exec .bandStrobe s = .next { s with stream := { s.stream with bandPending := true } }) ∧
      (s.stream.activity ≠ .idle → s.stream.bandPending = true →
        exec .bandStrobe s =
          .next { s with
            stream := { s.stream with lastOverrun := .band }, picPort := s.picPort.raise .streamOverrun }) ∧
      ∀ row : Nat, s.stream.activity = .row → s.stream.bandPending = false →
        s.stream.rowPtr = row + 1 → row < 256 →
        (s.stream.wordCount = 0 → 1 ≤ (s.banks.get n).g →
          ∃ word : Quadword,
            exec .streamWordSent s =
              .next { s with stream := { s.stream with lastWord := some word, wordCount := 1 } } ∧
            word.toNat = (0xFE00 + row) * 65536 + s.stream.frameGen.toNat) ∧
        ∀ (k : Nat) (p : Point), s.stream.wordCount = k + 1 → k < (s.banks.get n).g →
          (s.banks.get n).points[row * (s.banks.get n).g + k]? = some p → 0 ≤ p.x → p.x < 65536 → 0 ≤ p.y →
          p.y < 65536 →
          ∃ word : Quadword,
            exec .streamWordSent s =
              .next { s with
                stream :=
                  { s.stream with
                    lastWord := some word, wordCount := k + 2
                    activity := if k + 1 < (s.banks.get n).g then .row else .idle } } ∧
            word.toNat = p.x.toNat * 65536 + p.y.toNat

/-! ### Cooling and measurement -/

/-- The cooling settings (R130, R132, R133, R137, R138): an accepted SET_ZONE writes the zone and forms its temperature
again, keeping state and age; SET_CURVE replaces one curve; SET_QUIET writes the quiet settings, a cap below 30 raised to
it and flagged; SET_FAN writes the fan, empties one that leaves and starts one that comes with its tach reading; a FAILED
fan that leaves goes from the set, whose number is handed to the phase controller (R141, R142). Targets and light cap
follow. A set outside its ranges is RANGE and changes nothing. -/
def Obligations.CoolingWritten : Prop :=
  (∀ (s : State) (r : Req) (c : Byte) (z : Zone) (m : PerChan Bool) (p : ZoneParams), Takes s r .systemOnly →
    zoneOfCode c = some z → chanSetOfBits p.members = some m →
    let good := m.any = true ∧ (-400 ≤ p.warm.toInt ∧ p.warm.toInt < p.hot.toInt ∧ p.hot.toInt < p.crit.toInt
      ∧ p.crit.toInt ≤ 1500) ∧ 10 ≤ p.derate.toNat ∧ p.derate.toNat ≤ 100
    (¬good → exec (.setZone r c p) s = .next (answered r { status := .range } s)) ∧
    (good →
      ∃ t, exec (.setZone r c p) s = .next (answered r { status := .ok } t) ∧
        CoolSettled
          { s.cool with
            zones := s.cool.zones.set z
              { s.cool.zones.get z with
                members := m, warm := p.warm.toInt, hot := p.hot.toInt, crit := p.crit.toInt
                derate := p.derate.toNat, temperature := zoneTemperature m p.crit.toInt s.cool.readings } } s t)) ∧
  (∀ (s : State) (r : Req) (b c : Byte) (o : Orientation) (z : Zone) (l : List PointParam), Takes s r .systemOnly →
    orientationOfCode b = some o → zoneOfCode c = some z → l.length = 6 →
    let good := (∀ p ∈ l, -400 ≤ p.t.toInt ∧ p.t.toInt ≤ 1500 ∧ p.d.toNat ≤ 100) ∧
      ∀ (n : Nat) (x y : PointParam), l[n]? = some x → l[n + 1]? = some y →
        x.t.toInt < y.t.toInt ∧ x.d.toNat ≤ y.d.toNat
    (¬good → exec (.setCurve r b c l) s = .next (answered r { status := .range } s)) ∧
    (good →
      ∃ t, exec (.setCurve r b c l) s = .next (answered r { status := .ok } t) ∧
        CoolSettled
          (match o with
          | .floor =>
            { s.cool with floorSet := s.cool.floorSet.set z (l.map fun p => ⟨p.t.toInt, p.d.toNat⟩) }
          | .ceiling =>
            { s.cool with ceilingSet := s.cool.ceilingSet.set z (l.map fun p => ⟨p.t.toInt, p.d.toNat⟩) }) s t)) ∧
  (∀ (s : State) (r : Req) (b cap level : Byte) (on : Bool), portTakes s r.port = true → yesNoOfCode b = some on →
    ((100 < cap.toNat ∨ level.toNat < 50 ∨ 100 < level.toNat) →
      exec (.setQuiet r b cap level) s = .next (answered r { status := .range } s)) ∧
    (cap.toNat ≤ 100 → 50 ≤ level.toNat → level.toNat ≤ 100 →
      ∃ t, exec (.setQuiet r b cap level) s =
          .next (answered r { status := .ok, clamped := decide (cap.toNat < 30) } t) ∧
        CoolSettled
          { s.cool with quietOn := on, quietCap := max cap.toNat 30, quietLevel := level.toNat } s t)) ∧
  ∀ (s : State) (r : Req) (c : Byte) (f : Fan) (p : FanParams) (present : Bool) (served : PerZone Bool) (x y : FanRec),
    Takes s r .systemOnly → fanOfCode c = some f → yesNoOfCode p.present = some present →
    zoneSetOfBits p.served = some served →
    let good := (10 ≤ p.minDuty.toNat ∧ p.minDuty.toNat ≤ 60) ∧ 100 ≤ p.rpmMin.toNat ∧
      p.rpmMin.toNat < p.rpmMax.toNat ∧ p.rpmMax.toNat ≤ 20000
    (¬good → exec (.setFan r c p) s = .next (answered r { status := .range } s)) ∧
    (good →
      x =
        { s.cool.fans.get f with
          present := present, served := served, minDuty := p.minDuty.toNat, rpmMin := p.rpmMin.toNat
          rpmMax := p.rpmMax.toNat } →
      y =
        (match (s.cool.fans.get f).present, present with
        | true, false =>
          { x with target := 0, commanded := 0, state := .ok, strikes := 0, goodRun := 0, grace := 0 }
        | false, true =>
          { x with
            commanded := 0, state := .ok, strikes := 0, goodRun := 0, grace := 0
            reading := 30 * (s.meas.tach.get f).buckets.sum }
        | true, true => x
        | false, false => x) →
      (present = true ∨ (s.cool.fans.get f).state ≠ .failed ∨ (s.cool.fans.get f).present = false →
        ∃ t, exec (.setFan r c p) s = .next (answered r { status := .ok } t) ∧
          CoolSettled { s.cool with fans := s.cool.fans.set f y } s t) ∧
      (present = false → (s.cool.fans.get f).state = .failed → (s.cool.fans.get f).present = true →
        s.phase.failedFans = failedCount s.cool →
        ∃ t, exec (.setFan r c p) s = .next (answered r { status := .ok } t) ∧
          CoolSettled { s.cool with fans := s.cool.fans.set f y }
            { s with phase := { s.phase with failedFans := s.phase.failedFans - 1 } } t))

/-- The settings and inputs of the measurement unit and the tracker. SET_THERM_TABLE replaces a table whose 17 values lie
in range and do not rise (R114); SET_TRIP takes a k from 1 to 15 and compares at once (R122); a change of a comparator's
input makes it compare, and an unpowered part only keeps the level (R119; log 8, log 28); a tach pulse counts up to 255
(R123); SET_TRACKING writes its settings and re-anchors when the gains or the limit change (R173), while comp keeps its
value under a lowered limit until the next tick (log 49). -/
def Obligations.MeasureWritten : Prop :=
  (∀ (s : State) (r : Req) (l : List Half), Takes s r .systemOnly → l.length = 17 →
    let good := (∀ x ∈ l, -400 ≤ x.toInt ∧ x.toInt ≤ 1500) ∧
      ∀ (n : Nat) (x y : Half), l[n]? = some x → l[n + 1]? = some y → y.toInt ≤ x.toInt
    (¬good → ∀ c, c = 0 ∨ c = 1 → exec (.setThermTable r c l) s = .next (answered r { status := .range } s)) ∧
    (good →
      exec (.setThermTable r 0 l) s =
        .next (answered r { status := .ok } { s with meas := { s.meas with tableA := l.map (·.toInt) } }) ∧
      exec (.setThermTable r 1 l) s =
        .next (answered r { status := .ok } { s with meas := { s.meas with tableB := l.map (·.toInt) } }))) ∧
  (∀ (s : State) (r : Req) (k : Byte) (x : Comparator) (hot : Bool), Takes s r .systemOnly → 1 ≤ k.toNat →
    k.toNat ≤ 15 →
    (x = s.meas.laser → hot = decide (x.level < 256 * k.toNat) →
      exec (.setTrip r 0 k) s =
        .next (answered r { status := .ok }
          { s with
            meas :=
              { s.meas with
                laser :=
                  { x with k := k.toNat, active := hot, running := if hot = x.active then x.running else hot } } })) ∧
    (x = s.meas.wheel → hot = decide (x.level < 256 * k.toNat) →
      exec (.setTrip r 1 k) s =
        .next (answered r { status := .ok }
          { s with
            meas :=
              { s.meas with
                wheel :=
                  { x with
                    k := k.toNat, active := hot, running := if hot = x.active then x.running else hot } } }))) ∧
  (∀ (s : State) (c : Comp) (level : Nat) (x : Comparator) (hot : Bool), x = s.meas.comp c →
    hot = decide (level < 256 * x.k) →
    (s.powered = true →
      exec (.tripInputChange c level) s =
        .next { s with
          meas := s.meas.setComp c
            { x with level := level, active := hot, running := if hot = x.active then x.running else hot } }) ∧
    (s.powered = false →
      exec (.tripInputChange c level) s = .next { s with meas := s.meas.setComp c { x with level := level } })) ∧
  (∀ (s : State) (f : Fan), s.powered = true →
    exec (.tachPulse f) s =
      .next { s with
        meas :=
          { s.meas with
            tach := s.meas.tach.set f
              { s.meas.tach.get f with accumulator := min ((s.meas.tach.get f).accumulator + 1) 255 } } }) ∧
  ∀ (s : State) (r : Req) (p : TrackParams) (g : Gains) (u : Tracker), Takes s r .systemOnly →
    g = ⟨p.g0.toInt, p.g1.toInt, p.g2.toInt, p.g3.toInt, p.g4.toInt⟩ →
    u = { s.track with gains := g, limit := p.limit.toNat, deadband := p.deadband.toNat } →
    let good := (∀ x ∈ [g.g0, g.g1, g.g2, g.g3, g.g4], -512 ≤ x ∧ x ≤ 512) ∧ p.limit.toNat ≤ 2000 ∧ p.deadband ≠ 0
    (¬good → exec (.setTracking r p) s = .next (answered r { status := .range } s)) ∧
    (good → g = s.track.gains → p.limit.toNat = s.track.limit →
      exec (.setTracking r p) s = .next (answered r { status := .ok } { s with track := u })) ∧
    (good → g ≠ s.track.gains ∨ p.limit.toNat ≠ s.track.limit →
      exec (.setTracking r p) s =
        .next (answered r { status := .ok }
          { s with
            track :=
              { u with
                base := if (s.chan .fc).referenced then some (s.chan .fc).position else none, applied := 0
                tRef :=
                  if s.track.lensStatus = .live ∨ s.track.lensStatus = .held then s.track.tLens else none } }))

/-- The setting of a trip latch (R120, R154): TRIP goes to both ports, every present fan is forced to 100, FAULT_N is
asserted; DARK, WARMUP and LIT go to COOLDOWN with reason TRIP, COOLDOWN takes the reason and drops a restrike, START and
FAULT stay. With no persistence time running or the latch set nothing happens (log 27). CLEAR_TRIP (R121): BUSY while a
named latch is set and its comparator hot; otherwise the named latches clear and FAULT_N and the fan targets follow. -/
def Obligations.TripsLatched : Prop :=
  (∀ (s : State) (c : Comp), s.powered = true →
    ((s.meas.comp c).running = false ∨ (s.meas.comp c).latch = true → exec (.tripLatchSet c) s = .next s) ∧
    ((s.meas.comp c).running = true → (s.meas.comp c).latch = false →
      Completes (.tripLatchSet c) s fun t =>
        t.meas = s.meas.setComp c { s.meas.comp c with latch := true } ∧
        (∀ q, (t.port q).flags.getLsbD (eventBit .trip) = true) ∧
        t.phase.faultN = true ∧ t.phase.restrike = (s.phase.restrike && (s.phase.phase = .start || s.phase.phase = .fault)) ∧
        Settled t ∧ (∀ f, (t.cool.fans.get f).present = true →
          (t.cool.fans.get f).commanded = 100 ∧ (t.cool.fans.get f).target = 100) ∧
        (s.phase.phase = .dark ∨ s.phase.phase = .warmup ∨ s.phase.phase = .lit → CooledDown .trip s t) ∧
        (s.phase.phase = .cooldown → t.phase = { s.phase with
          reason := .trip, restrike := false, lightPermit := false, coolDone := false, faultN := true }) ∧
        (s.phase.phase = .start ∨ s.phase.phase = .fault → t.phase = { s.phase with
          lightPermit := false, coolDone := false, faultN := true }))) ∧
  ∀ (s : State) (r : Req) (c : Byte) (l : List Comp), Takes s r .systemOnly → compsOfCode c = some l →
    ((∃ x ∈ l, (s.meas.comp x).latch = true ∧ (s.meas.comp x).active = true) →
      exec (.clearTrip r c) s = .next (answered r { status := .busy } s)) ∧
    ((∀ x ∈ l, (s.meas.comp x).latch = false) →
      exec (.clearTrip r c) s = .next (answered r { status := .ok } s)) ∧
    ((∃ x ∈ l, (s.meas.comp x).latch = true) →
      (∀ x ∈ l, (s.meas.comp x).latch = true → (s.meas.comp x).active = false) →
      ∃ t u : State,
        exec (.clearTrip r c) s = .next (answered r { status := .ok } t) ∧
        (∀ x, u.meas.comp x = if x ∈ l then { s.meas.comp x with latch := false } else s.meas.comp x) ∧
        u =
          { s with
            meas := { s.meas with laser := u.meas.laser, wheel := u.meas.wheel }
            phase :=
              { s.phase with
                lightPermit := decide (s.phase.phase = .warmup ∨ s.phase.phase = .lit)
                coolDone := decide (s.phase.phase = .dark)
                faultN := decide (s.phase.phase = .fault) || u.meas.laser.latch || u.meas.wheel.latch } } ∧
        CoolSettled s.cool u t)

/-- A conversion of the channel under conversion (R111, R113 to R118, R127): the scan moves on; an in-range code of an OK
channel joins its ring and makes a LIVE reading of the mean through the table, which the zones of the channel take; an
out-of-range one counts, and the fourth fails the channel, HELD at the last valid temperature or SUBSTITUTED. A FAILED
channel gathers four in-range codes and is OK again. The die allowance follows its table at each DIE temperature, live or
held, and is 1 at a substitution (R36); the old value after a recovery is the allowance as it stands (log 51). The end of the first pass with all channels settled leaves START for
COOLDOWN or DARK (R118, R149). The tenth
tick of a FAILED channel substitutes its reading, and zones of the channel then stand at their crit threshold or above
(R116; log 3). -/
def Obligations.ConversionsTaken : Prop :=
  (∀ (s : State) (code : BitVec 12) (ch : Chan) (x : ChanRec), s.powered = true → s.meas.scan = ch →
    x = s.meas.chans.get ch → x.failed = false →
    (16 ≤ code.toNat → code.toNat ≤ 4079 →
      ∀ (ring : List Nat) (temp : Int),
        ring = (if x.ring.length < 4 then x.ring else x.ring.drop 1) ++ [code.toNat] →
        temp = ruledTemp s.meas ch (ring.sum / ring.length) →
        Completes (.conversionComplete code) s fun t =>
          t.meas.scan = nextChan ch ∧
          t.meas.chans = s.meas.chans.set ch
            { x with
              lastCode := some code.toNat, ring := ring, badRun := 0, filtered := some temp, lastValid := some temp
              status := .live } ∧
          t.cool.readings = s.cool.readings.set ch ⟨.live, some temp⟩ ∧
          (∀ z, (s.cool.zones.get z).members.get ch = true →
            (t.cool.zones.get z).temperature =
              zoneTemperature (s.cool.zones.get z).members (s.cool.zones.get z).crit t.cool.readings) ∧
          (ch = .lens → t.track.tLens = some temp ∧ t.track.lensStatus = .live) ∧
          (ch = .die → DieRuled s.sched.dieAllow temp t.sched.dieAllow) ∧
          (ch = .die → s.meas.scanGiven = false →
            (∀ c, c ≠ .die → (s.meas.chans.get c).status ≠ .unread) → s.phase.phase = .start →
            s.phase.restrike = false →
            t.meas.scanGiven = true ∧
            (latched s = true → Entered .cooldown .trip t) ∧
            (latched s = false →
              ((∃ v, t.cool.zones.z0.temperature = some v ∧ s.cool.zones.z0.warm ≤ v) → Entered .cooldown .resume t) ∧
              ((∀ v, t.cool.zones.z0.temperature = some v → v < s.cool.zones.z0.warm) → Entered .dark .noReason t)))) ∧
    (code.toNat < 16 ∨ 4079 < code.toNat →
      (x.badRun < 3 → ch ≠ .die →
        exec (.conversionComplete code) s =
          .next { s with
            meas :=
              { s.meas with
                scan := nextChan ch
                chans := s.meas.chans.set ch { x with lastCode := some code.toNat, badRun := x.badRun + 1 } } }) ∧
      (x.badRun = 3 →
        Completes (.conversionComplete code) s fun t =>
          t.meas.scan = nextChan ch ∧
          (∀ v, x.lastValid = some v →
            t.meas.chans.get ch =
              { x with
                lastCode := some code.toNat, failed := true, ring := [], badRun := 0, failureAge := 0
                status := .held } ∧
            t.cool.readings.get ch = ⟨.held, some v⟩ ∧
            (ch = .die → DieRuled s.sched.dieAllow v t.sched.dieAllow)) ∧
          (x.lastValid = none →
            t.meas.chans.get ch =
              { x with
                lastCode := some code.toNat, failed := true, ring := [], badRun := 0, failureAge := 10
                status := .substituted } ∧
            t.cool.readings.get ch = ⟨.substituted, none⟩ ∧
            (ch = .die → t.sched.dieAllow = 1))))) ∧
  (∀ (s : State) (code : BitVec 12) (ch : Chan) (x : ChanRec), s.powered = true → s.meas.scan = ch →
    x = s.meas.chans.get ch → x.failed = true →
    (code.toNat < 16 ∨ 4079 < code.toNat → ch ≠ .die →
      exec (.conversionComplete code) s =
        .next { s with
          meas :=
            { s.meas with
              scan := nextChan ch
              chans := s.meas.chans.set ch { x with lastCode := some code.toNat, ring := [] } } }) ∧
    (16 ≤ code.toNat → code.toNat ≤ 4079 →
      (x.ring.length < 3 → ch ≠ .die →
        exec (.conversionComplete code) s =
          .next { s with
            meas :=
              { s.meas with
                scan := nextChan ch
                chans := s.meas.chans.set ch
                  { x with lastCode := some code.toNat, ring := x.ring ++ [code.toNat] } } }) ∧
      (x.ring.length = 3 →
        ∀ temp : Int, temp = ruledTemp s.meas ch ((x.ring ++ [code.toNat]).sum / 4) →
          Completes (.conversionComplete code) s fun t =>
            t.meas.scan = nextChan ch ∧
            t.meas.chans = s.meas.chans.set ch
              { x with
                failed := false, failureAge := 0, badRun := 0, lastCode := some code.toNat
                ring := x.ring ++ [code.toNat], filtered := some temp, lastValid := some temp, status := .live } ∧
            t.cool.readings = s.cool.readings.set ch ⟨.live, some temp⟩ ∧
            (ch = .die → DieRuled s.sched.dieAllow temp t.sched.dieAllow)))) ∧
  ∀ (s : State) (ch : Chan) (x : ChanRec), s.powered = true → x = s.meas.chans.get ch →
    (x.failureAge ≠ 9 → exec (.sensorSubstitution ch) s = .next s) ∧
    (x.failed = true → x.failureAge = 9 →
      Completes (.sensorSubstitution ch) s fun t =>
        t.meas = { s.meas with chans := s.meas.chans.set ch { x with failureAge := 10, status := .substituted } } ∧
        t.cool.readings = s.cool.readings.set ch ⟨.substituted, x.lastValid⟩ ∧
        (∀ z, (s.cool.zones.get z).members.get ch = true →
          ∃ v, (t.cool.zones.get z).temperature = some v ∧ (s.cool.zones.get z).crit ≤ v) ∧
        (ch = .die → t.sched.dieAllow = 1))

/-! ### Light and time -/

/-- LIGHT_ON by its table (R150): refused in START, FAULT and while a latch is set or a zone CRITICAL, nothing to do in
WARMUP and LIT, WARMUP at level 40 from DARK and from a COOLDOWN below 55.0 degrees, otherwise a pending restrike. An
absent Z0 temperature counts as not below (log 36). No PARK entry is left in the queue on the way from COOLDOWN to WARMUP,
whatever the park was (R157; log 38). LIGHT_OFF by its table (R151). CLEAR_FAULT (R161): BUSY in FAULT
while a latch is set, two fans are FAILED or a zone is HOT or CRITICAL, otherwise COOLDOWN with reason RESUME. -/
def Obligations.LightRuled : Prop :=
  (∀ (s : State) (r : Req), Takes s r .systemOnly →
    (s.phase.phase = .start → exec (.lightOn r) s = .next (answered r { status := .wrongPhase } s)) ∧
    (s.phase.phase = .warmup ∨ s.phase.phase = .lit → exec (.lightOn r) s = .next (answered r { status := .ok } s)) ∧
    (s.phase.phase = .fault ∨ (s.phase.phase = .dark ∨ s.phase.phase = .cooldown) ∧ ¬Cool s →
      exec (.lightOn r) s = .next (answered r { status := .faulted } s)) ∧
    (Cool s → s.phase.phase = .dark → GrantsWithin s →
      ∃ t, exec (.lightOn r) s = .next (answered r { status := .ok } t) ∧ Entered .warmup .noReason t ∧
        t.phase.rampLevel = some 40 ∧ t.phase.rampCount = 0 ∧ t.phase.lightPermit = true ∧ t.cool.lightCap ≤ 40 ∧
        t = { s with phase := t.phase, cool := t.cool, sysPort := t.sysPort, picPort := t.picPort }) ∧
    (Cool s → s.phase.phase = .cooldown → OneEntry s →
      ((∃ v, s.cool.zones.z0.temperature = some v ∧ v < 550) →
        ∃ t, exec (.lightOn r) s = .next (answered r { status := .ok } t) ∧ Entered .warmup .noReason t ∧
          t.phase.rampLevel = some 40 ∧ t.phase.rampCount = 0 ∧ t.phase.lightPermit = true ∧ t.cool.lightCap ≤ 40 ∧
          t.phase.park ≠ .running ∧ ∀ en ∈ t.sched.queue, en.origin ≠ .park) ∧
      ((∀ v, s.cool.zones.z0.temperature = some v → 550 ≤ v) →
        exec (.lightOn r) s =
          .next (answered r { status := .queued } { s with phase := { s.phase with restrike := true } })))) ∧
  (∀ (s : State) (r : Req), Takes s r .systemOnly →
    (s.phase.phase = .warmup ∨ s.phase.phase = .lit →
      ∃ t, exec (.lightOff r) s = .next (answered r { status := .ok } t) ∧ CooledDown .off s t) ∧
    (s.phase.phase = .cooldown →
      exec (.lightOff r) s =
        .next (answered r { status := .ok } { s with phase := { s.phase with restrike := false } })) ∧
    (s.phase.phase = .start ∨ s.phase.phase = .dark ∨ s.phase.phase = .fault →
      exec (.lightOff r) s = .next (answered r { status := .ok } s))) ∧
  ∀ (s : State) (r : Req), Takes s r .systemOnly →
    (s.phase.phase ≠ .fault → exec (.clearFault r) s = .next (answered r { status := .ok } s)) ∧
    (s.phase.phase = .fault →
      (latched s = true ∨ 2 ≤ s.phase.failedFans ∨
          (∃ z, (s.cool.zones.get z).state = .hot ∨ (s.cool.zones.get z).state = .critical) →
        exec (.clearFault r) s = .next (answered r { status := .busy } s)) ∧
      (latched s = false → s.phase.failedFans < 2 →
        (∀ z, (s.cool.zones.get z).state ≠ .hot ∧ (s.cool.zones.get z).state ≠ .critical) →
        ∃ t, exec (.clearFault r) s = .next (answered r { status := .ok } t) ∧ CooledDown .resume s t))

/-- The ends of the counts that the phase controller and the zones keep, and the divider. A COOLDOWN of 600 ticks above
the release temperature ends in FAULT with reason TIMEOUT (R158, R159); a park of 40 ticks is PARK_INCOMPLETE (R157);
the warm-up level rises by 10 at the fourth tick and LIT follows 90 (R152); a zone CRITICAL for 60 evaluations puts the
part in FAULT (R129, R159), unless it has no temperature or the evaluation takes it out of CRITICAL. Each takes its last
tick by itself (log 3). An absent Z0 temperature counts as not below (log 36). The divider advances by one, gives no tick
off a multiple of 8, counts the hold timers down at a T32 tick, shifts the tach rings and slews the fans, an absent fan
keeping its reading (log 31), at a T8 tick, and at a T2 tick evaluates the zones with their CRITICAL ages, and ages the
FAILED channels (R109 to R111, R11, R123, R136, R128, R129, R116). At a T2 count every taker takes its tick in the order
given (log 4): the supervision judges each fan on the duties before any failure acts (log 5), raises FAN_FAULT for one that becomes FAILED, hands their number once
(log 47), and two enter FAULT (R139 to R142, R159); the tracker sets ACTIVE or INACTIVE, takes up the reference, computes comp,
and ends DEADBAND, BUSY, LIMIT or PLACED with its correction granted or queued; an unreferenced FC clears the record (R168 to
R170). The entry to LIT takes up the reference too (R168). -/
def Obligations.TimersRun : Prop :=
  (∀ s : State, s.powered = true →
    (s.phase.phase ≠ .cooldown ∨ s.phase.coolTimer < 599 → exec .cooldownTimeout s = .next s) ∧
    (s.phase.phase = .cooldown → 599 ≤ s.phase.coolTimer → s.phase.restrike = false →
      (∀ v, s.cool.zones.z0.temperature = some v → 450 ≤ v) →
      Completes .cooldownTimeout s fun t =>
        Entered .fault .timeout t ∧ t.phase.park ≠ .running ∧ t.phase.coolTimer = 600) ∧
    (s.phase.phase = .cooldown → s.phase.park = .running → s.phase.parkTimer = 39 → s.phase.coolTimer < 599 →
      s.phase.restrike = false → (∀ v, s.cool.zones.z0.temperature = some v → 450 ≤ v) →
      exec .parkTimeout s =
        .next { s with
          phase :=
            { s.phase with
              coolTimer := s.phase.coolTimer + 1, parkTimer := 40, park := .incomplete
              parkSet := ⟨false, false, false, false⟩ } }) ∧
    (∀ l, s.phase.phase = .warmup → s.phase.rampCount = 3 → s.phase.rampLevel = some l → l < 90 →
      Completes .rampStep s fun t =>
        CoolSettled s.cool { s with phase := { s.phase with rampCount := 0, rampLevel := some (l + 10) } } t) ∧
    (s.phase.phase = .warmup → s.phase.rampCount = 3 → s.phase.rampLevel = some 90 → s.phase.restrike = false →
      GrantsWithin s →
      Completes .rampStep s fun t =>
        Entered .lit .noReason t ∧ t.phase.rampLevel = none ∧ t.phase.lightPermit = true ∧ t.axes = s.axes ∧
        t.sched = s.sched ∧
        t.track =
          { s.track with
            base := if (s.chan .fc).referenced then some (s.chan .fc).position else none, applied := 0
            tRef :=
              if s.track.lensStatus = .live ∨ s.track.lensStatus = .held then s.track.tLens else none }) ∧
    ∀ z : Zone,
      (∀ v, (s.cool.zones.get z).state = .critical → (s.cool.zones.get z).age = 59 →
        (s.cool.zones.get z).temperature = some v → (s.cool.zones.get z).crit - 30 ≤ v →
        Completes (.criticalPersisted z) s fun t =>
          t.cool.zones = s.cool.zones.set z { s.cool.zones.get z with age := 60 } ∧
          (s.phase.phase ≠ .fault → Entered .fault .critical t ∧ t.phase.park ≠ .running)) ∧
      ((s.cool.zones.get z).state ≠ .critical ∨ (s.cool.zones.get z).age ≠ 59 ∨
          (∀ v, (s.cool.zones.get z).temperature = some v → v < (s.cool.zones.get z).crit - 30) →
        exec (.criticalPersisted z) s = .next s)) ∧
  (∀ (s t : State) (f : Fan) (n : Nat), takeTick s .supervision = t → n = failedCount t.cool →
    s.phase.failedFans = failedCount s.cool →
    (Supervised (s.cool.fans.get f) →
      ((t.cool.fans.get f).state, (t.cool.fans.get f).strikes, (t.cool.fans.get f).goodRun)
        = fanJudged (s.cool.fans.get f)) ∧
    ((s.cool.fans.get f).present = true → ¬Supervised (s.cool.fans.get f) →
      (t.cool.fans.get f).state = (s.cool.fans.get f).state ∧ (t.cool.fans.get f).strikes = 0 ∧
      (t.cool.fans.get f).goodRun = 0 ∧
      ((t.cool.fans.get f).commanded = (s.cool.fans.get f).commanded →
        (t.cool.fans.get f).grace = (s.cool.fans.get f).grace - 1)) ∧
    ((s.cool.fans.get f).present = false → t.cool.fans.get f = s.cool.fans.get f) ∧
    ((s.cool.fans.get f).state ≠ .failed → (t.cool.fans.get f).state = .failed →
      ∀ p, (t.port p).flags.getLsbD (eventBit .fanFault) = true) ∧
    t.phase.failedFans = n ∧
    (failedCount s.cool < 2 → 2 ≤ n → s.phase.phase ≠ .fault → Entered .fault .fans t ∧ t.phase.park ≠ .running) ∧
    (2 ≤ failedCount s.cool ∨ n < 2 ∨ s.phase.phase = .fault → t.phase = { s.phase with failedFans := n })) ∧
  (∀ s t : State, takeTick s .tracking = t →
    (¬Tracks s →
      ((s.chan .fc).referenced = true → t = { s with track := { s.track with active := false } }) ∧
      ((s.chan .fc).referenced = false →
        t = { s with track := { s.track with active := false, base := none, applied := 0, tRef := none } })) ∧
    (Tracks s → s.track.tRef = none →
      t =
        { s with
          track :=
            { s.track with
              active := true, base := some (s.chan .fc).position, applied := 0, tRef := s.track.tLens } }) ∧
    ∀ (ref lens gain comp goal : Int) (pos : Nat) (u : Tracker), Tracks s → s.track.tRef = some ref →
      s.track.tLens = some lens → (pos : Int) = clampInt 0 (s.chan .zm).settings.travel (s.chan .zm).position →
      GainRuled s.track.gains (s.chan .zm).settings.travel pos gain →
      comp = clampInt (-(s.track.limit : Int)) s.track.limit (roundedAway (gain * (lens - ref)) 160) →
      goal = softClamp (s.chan .fc).settings ((s.chan .fc).position + (comp - s.track.applied)) →
      u =
        { s.track with
          active := true, comp := some comp, gainUsed := some gain, zmUsed := some (s.chan .zm).position } →
      ((comp - s.track.applied).natAbs < s.track.deadband →
        t = { s with track := { u with lastAction := .deadband } }) ∧
      (s.track.deadband ≤ (comp - s.track.applied).natAbs →
        ((s.chan .fc).state ≠ .idle ∨ (s.sched.entryOf .fc).isSome = true →
          t = { s with track := { u with lastAction := .busy } }) ∧
        ((s.chan .fc).state = .idle → s.sched.entryOf .fc = none →
          (goal = (s.chan .fc).position → t = { s with track := { u with lastAction := .limit } }) ∧
          (goal ≠ (s.chan .fc).position → (s.chan .fc).settings.softMin ≤ (s.chan .fc).settings.softMax →
            (NoGrant s →
              t =
                { s with
                  track := { u with lastAction := .placed }
                  sched :=
                    { s.sched with
                      queue := s.sched.queue ++
                        [{ axis := .fc, motion := .move goal, origin := .focusTrack, tag := none, shift := none
                           link := none, parkNo := none }] } }) ∧
            (s.sched.held = [] → s.sched.queue = [] → s.sched.hasFree = true →
              s.sched.grantedCount < allowance s →
              t.track = { u with lastAction := .placed } ∧ (t.chan .fc).state = .moving ∧ (t.chan .fc).target = some goal ∧
              (t.chan .fc).lastOrigin = some .focusTrack ∧
              t.sched.records.get .fc =
                some
                  { kind := .move, origin := .focusTrack, tag := none, shift := none, link := none, parkNo := none
                    ran := true, startPos := (s.chan .fc).position }))))) ∧
  ∀ (s : State) (order : List Taker) (count : Nat), s.powered = true → count = (s.divider + 1).toNat →
    (Completes (.dividerAdvance order) s fun t => t.divider = s.divider + 1) ∧
    (count % 8 ≠ 0 → exec (.dividerAdvance order) s = .next { s with divider := s.divider + 1 }) ∧
    (count % 8 = 0 → count % 32 ≠ 0 → NoJog s →
      exec (.dividerAdvance order) s =
        .next { s with
          divider := s.divider + 1
          axes := ⟨heldDown s.axes.sh, heldDown s.axes.sv, heldDown s.axes.zm, heldDown s.axes.fc⟩ }) ∧
    (count % 32 = 0 → count % 128 ≠ 0 →
      Completes (.dividerAdvance order) s fun t =>
        ∀ f, ∀ buckets : List Nat,
          buckets = (s.meas.tach.get f).buckets.drop 1 ++ [(s.meas.tach.get f).accumulator] →
          t.meas.tach.get f = { accumulator := 0, buckets := buckets, rpm := 30 * buckets.sum } ∧
          ((s.cool.fans.get f).present = false → t.cool.fans.get f = s.cool.fans.get f) ∧
          ((s.cool.fans.get f).present = true →
            (t.cool.fans.get f).reading = 30 * buckets.sum ∧
            (t.cool.fans.get f).target = (s.cool.fans.get f).target ∧
            (t.cool.fans.get f).commanded =
              slewed (s.cool.fans.get f).commanded (s.cool.fans.get f).target (s.cool.fans.get f).minDuty)) ∧
    (count % 128 = 0 →
      exec (.dividerAdvance order) s =
        .next ((fullOrder order).foldl takeTick { s with divider := s.divider + 1 })) ∧
    (count % 128 = 0 → (∀ ch, (s.meas.chans.get ch).failed = true → (s.meas.chans.get ch).failureAge ≠ 9) →
      Completes (.dividerAdvance order) s fun t =>
        (∀ z, (t.cool.zones.get z).temperature = (s.cool.zones.get z).temperature ∧
          ∀ next, next =
              (match (s.cool.zones.get z).temperature with
              | some v => zoneAfter (s.cool.zones.get z) v
              | none => (s.cool.zones.get z).state) →
            (t.cool.zones.get z).state = next ∧
            ((s.cool.zones.get z).state = .critical → (s.cool.zones.get z).temperature.isSome = true →
              (t.cool.zones.get z).age = if next = .critical then min ((s.cool.zones.get z).age + 1) 60 else 0) ∧
            ((s.cool.zones.get z).state ≠ .critical → next = .critical → (t.cool.zones.get z).age = 0) ∧
            ((s.cool.zones.get z).temperature = none → (t.cool.zones.get z).age = (s.cool.zones.get z).age)) ∧
        ∀ ch, t.meas.chans.get ch =
          if (s.meas.chans.get ch).failed = true ∧ (s.meas.chans.get ch).failureAge < 10 then
            { s.meas.chans.get ch with failureAge := (s.meas.chans.get ch).failureAge + 1 }
          else s.meas.chans.get ch)

end
end

