-- ==== Sys2Proof/Laws/State.lean ====
section
/-! SUPPORT. The small lemmas of the state: one per field per writer, reading back what a write by axis, zone, fan,
channel, port or bank stored. -/

namespace Sys2Proof.Machine

variable (s : State)


/-! ### withAxes -/

@[simp] theorem State.withAxes_pending (x : PerAxis Channel) : (s.withAxes x).pending = s.pending := rfl
@[simp] theorem State.withAxes_powered (x : PerAxis Channel) : (s.withAxes x).powered = s.powered := rfl
@[simp] theorem State.withAxes_resetCause (x : PerAxis Channel) : (s.withAxes x).resetCause = s.resetCause := rfl
@[simp] theorem State.withAxes_addrPin (x : PerAxis Channel) : (s.withAxes x).addrPin = s.addrPin := rfl
@[simp] theorem State.withAxes_addrStrap (x : PerAxis Channel) : (s.withAxes x).addrStrap = s.addrStrap := rfl
@[simp] theorem State.withAxes_axes (x : PerAxis Channel) : (s.withAxes x).axes = x := rfl
@[simp] theorem State.withAxes_sched (x : PerAxis Channel) : (s.withAxes x).sched = s.sched := rfl
@[simp] theorem State.withAxes_shift (x : PerAxis Channel) : (s.withAxes x).shift = s.shift := rfl
@[simp] theorem State.withAxes_mem (x : PerAxis Channel) : (s.withAxes x).mem = s.mem := rfl
@[simp] theorem State.withAxes_recallUnit (x : PerAxis Channel) : (s.withAxes x).recallUnit = s.recallUnit := rfl
@[simp] theorem State.withAxes_geom (x : PerAxis Channel) : (s.withAxes x).geom = s.geom := rfl
@[simp] theorem State.withAxes_banks (x : PerAxis Channel) : (s.withAxes x).banks = s.banks := rfl
@[simp] theorem State.withAxes_stream (x : PerAxis Channel) : (s.withAxes x).stream = s.stream := rfl
@[simp] theorem State.withAxes_divider (x : PerAxis Channel) : (s.withAxes x).divider = s.divider := rfl
@[simp] theorem State.withAxes_meas (x : PerAxis Channel) : (s.withAxes x).meas = s.meas := rfl
@[simp] theorem State.withAxes_cool (x : PerAxis Channel) : (s.withAxes x).cool = s.cool := rfl
@[simp] theorem State.withAxes_phase (x : PerAxis Channel) : (s.withAxes x).phase = s.phase := rfl
@[simp] theorem State.withAxes_track (x : PerAxis Channel) : (s.withAxes x).track = s.track := rfl
@[simp] theorem State.withAxes_sysPort (x : PerAxis Channel) : (s.withAxes x).sysPort = s.sysPort := rfl
@[simp] theorem State.withAxes_picPort (x : PerAxis Channel) : (s.withAxes x).picPort = s.picPort := rfl
@[simp] theorem State.withAxes_presence (x : PerAxis Channel) : (s.withAxes x).presence = s.presence := rfl


/-! ### withSched -/

@[simp] theorem State.withSched_pending (x : Scheduler) : (s.withSched x).pending = s.pending := rfl
@[simp] theorem State.withSched_powered (x : Scheduler) : (s.withSched x).powered = s.powered := rfl
@[simp] theorem State.withSched_resetCause (x : Scheduler) : (s.withSched x).resetCause = s.resetCause := rfl
@[simp] theorem State.withSched_addrPin (x : Scheduler) : (s.withSched x).addrPin = s.addrPin := rfl
@[simp] theorem State.withSched_addrStrap (x : Scheduler) : (s.withSched x).addrStrap = s.addrStrap := rfl
@[simp] theorem State.withSched_axes (x : Scheduler) : (s.withSched x).axes = s.axes := rfl
@[simp] theorem State.withSched_sched (x : Scheduler) : (s.withSched x).sched = x := rfl
@[simp] theorem State.withSched_shift (x : Scheduler) : (s.withSched x).shift = s.shift := rfl
@[simp] theorem State.withSched_mem (x : Scheduler) : (s.withSched x).mem = s.mem := rfl
@[simp] theorem State.withSched_recallUnit (x : Scheduler) : (s.withSched x).recallUnit = s.recallUnit := rfl
@[simp] theorem State.withSched_geom (x : Scheduler) : (s.withSched x).geom = s.geom := rfl
@[simp] theorem State.withSched_banks (x : Scheduler) : (s.withSched x).banks = s.banks := rfl
@[simp] theorem State.withSched_stream (x : Scheduler) : (s.withSched x).stream = s.stream := rfl
@[simp] theorem State.withSched_divider (x : Scheduler) : (s.withSched x).divider = s.divider := rfl
@[simp] theorem State.withSched_meas (x : Scheduler) : (s.withSched x).meas = s.meas := rfl
@[simp] theorem State.withSched_cool (x : Scheduler) : (s.withSched x).cool = s.cool := rfl
@[simp] theorem State.withSched_phase (x : Scheduler) : (s.withSched x).phase = s.phase := rfl
@[simp] theorem State.withSched_track (x : Scheduler) : (s.withSched x).track = s.track := rfl
@[simp] theorem State.withSched_sysPort (x : Scheduler) : (s.withSched x).sysPort = s.sysPort := rfl
@[simp] theorem State.withSched_picPort (x : Scheduler) : (s.withSched x).picPort = s.picPort := rfl
@[simp] theorem State.withSched_presence (x : Scheduler) : (s.withSched x).presence = s.presence := rfl


/-! ### withShift -/

@[simp] theorem State.withShift_pending (x : ShiftUnit) : (s.withShift x).pending = s.pending := rfl
@[simp] theorem State.withShift_powered (x : ShiftUnit) : (s.withShift x).powered = s.powered := rfl
@[simp] theorem State.withShift_resetCause (x : ShiftUnit) : (s.withShift x).resetCause = s.resetCause := rfl
@[simp] theorem State.withShift_addrPin (x : ShiftUnit) : (s.withShift x).addrPin = s.addrPin := rfl
@[simp] theorem State.withShift_addrStrap (x : ShiftUnit) : (s.withShift x).addrStrap = s.addrStrap := rfl
@[simp] theorem State.withShift_axes (x : ShiftUnit) : (s.withShift x).axes = s.axes := rfl
@[simp] theorem State.withShift_sched (x : ShiftUnit) : (s.withShift x).sched = s.sched := rfl
@[simp] theorem State.withShift_shift (x : ShiftUnit) : (s.withShift x).shift = x := rfl
@[simp] theorem State.withShift_mem (x : ShiftUnit) : (s.withShift x).mem = s.mem := rfl
@[simp] theorem State.withShift_recallUnit (x : ShiftUnit) : (s.withShift x).recallUnit = s.recallUnit := rfl
@[simp] theorem State.withShift_geom (x : ShiftUnit) : (s.withShift x).geom = s.geom := rfl
@[simp] theorem State.withShift_banks (x : ShiftUnit) : (s.withShift x).banks = s.banks := rfl
@[simp] theorem State.withShift_stream (x : ShiftUnit) : (s.withShift x).stream = s.stream := rfl
@[simp] theorem State.withShift_divider (x : ShiftUnit) : (s.withShift x).divider = s.divider := rfl
@[simp] theorem State.withShift_meas (x : ShiftUnit) : (s.withShift x).meas = s.meas := rfl
@[simp] theorem State.withShift_cool (x : ShiftUnit) : (s.withShift x).cool = s.cool := rfl
@[simp] theorem State.withShift_phase (x : ShiftUnit) : (s.withShift x).phase = s.phase := rfl
@[simp] theorem State.withShift_track (x : ShiftUnit) : (s.withShift x).track = s.track := rfl
@[simp] theorem State.withShift_sysPort (x : ShiftUnit) : (s.withShift x).sysPort = s.sysPort := rfl
@[simp] theorem State.withShift_picPort (x : ShiftUnit) : (s.withShift x).picPort = s.picPort := rfl
@[simp] theorem State.withShift_presence (x : ShiftUnit) : (s.withShift x).presence = s.presence := rfl


/-! ### withMem -/

@[simp] theorem State.withMem_pending (x : Memories) : (s.withMem x).pending = s.pending := rfl
@[simp] theorem State.withMem_powered (x : Memories) : (s.withMem x).powered = s.powered := rfl
@[simp] theorem State.withMem_resetCause (x : Memories) : (s.withMem x).resetCause = s.resetCause := rfl
@[simp] theorem State.withMem_addrPin (x : Memories) : (s.withMem x).addrPin = s.addrPin := rfl
@[simp] theorem State.withMem_addrStrap (x : Memories) : (s.withMem x).addrStrap = s.addrStrap := rfl
@[simp] theorem State.withMem_axes (x : Memories) : (s.withMem x).axes = s.axes := rfl
@[simp] theorem State.withMem_sched (x : Memories) : (s.withMem x).sched = s.sched := rfl
@[simp] theorem State.withMem_shift (x : Memories) : (s.withMem x).shift = s.shift := rfl
@[simp] theorem State.withMem_mem (x : Memories) : (s.withMem x).mem = x := rfl
@[simp] theorem State.withMem_recallUnit (x : Memories) : (s.withMem x).recallUnit = s.recallUnit := rfl
@[simp] theorem State.withMem_geom (x : Memories) : (s.withMem x).geom = s.geom := rfl
@[simp] theorem State.withMem_banks (x : Memories) : (s.withMem x).banks = s.banks := rfl
@[simp] theorem State.withMem_stream (x : Memories) : (s.withMem x).stream = s.stream := rfl
@[simp] theorem State.withMem_divider (x : Memories) : (s.withMem x).divider = s.divider := rfl
@[simp] theorem State.withMem_meas (x : Memories) : (s.withMem x).meas = s.meas := rfl
@[simp] theorem State.withMem_cool (x : Memories) : (s.withMem x).cool = s.cool := rfl
@[simp] theorem State.withMem_phase (x : Memories) : (s.withMem x).phase = s.phase := rfl
@[simp] theorem State.withMem_track (x : Memories) : (s.withMem x).track = s.track := rfl
@[simp] theorem State.withMem_sysPort (x : Memories) : (s.withMem x).sysPort = s.sysPort := rfl
@[simp] theorem State.withMem_picPort (x : Memories) : (s.withMem x).picPort = s.picPort := rfl
@[simp] theorem State.withMem_presence (x : Memories) : (s.withMem x).presence = s.presence := rfl


/-! ### withRecall -/

@[simp] theorem State.withRecall_pending (x : RecallUnit) : (s.withRecall x).pending = s.pending := rfl
@[simp] theorem State.withRecall_powered (x : RecallUnit) : (s.withRecall x).powered = s.powered := rfl
@[simp] theorem State.withRecall_resetCause (x : RecallUnit) : (s.withRecall x).resetCause = s.resetCause := rfl
@[simp] theorem State.withRecall_addrPin (x : RecallUnit) : (s.withRecall x).addrPin = s.addrPin := rfl
@[simp] theorem State.withRecall_addrStrap (x : RecallUnit) : (s.withRecall x).addrStrap = s.addrStrap := rfl
@[simp] theorem State.withRecall_axes (x : RecallUnit) : (s.withRecall x).axes = s.axes := rfl
@[simp] theorem State.withRecall_sched (x : RecallUnit) : (s.withRecall x).sched = s.sched := rfl
@[simp] theorem State.withRecall_shift (x : RecallUnit) : (s.withRecall x).shift = s.shift := rfl
@[simp] theorem State.withRecall_mem (x : RecallUnit) : (s.withRecall x).mem = s.mem := rfl
@[simp] theorem State.withRecall_recallUnit (x : RecallUnit) : (s.withRecall x).recallUnit = x := rfl
@[simp] theorem State.withRecall_geom (x : RecallUnit) : (s.withRecall x).geom = s.geom := rfl
@[simp] theorem State.withRecall_banks (x : RecallUnit) : (s.withRecall x).banks = s.banks := rfl
@[simp] theorem State.withRecall_stream (x : RecallUnit) : (s.withRecall x).stream = s.stream := rfl
@[simp] theorem State.withRecall_divider (x : RecallUnit) : (s.withRecall x).divider = s.divider := rfl
@[simp] theorem State.withRecall_meas (x : RecallUnit) : (s.withRecall x).meas = s.meas := rfl
@[simp] theorem State.withRecall_cool (x : RecallUnit) : (s.withRecall x).cool = s.cool := rfl
@[simp] theorem State.withRecall_phase (x : RecallUnit) : (s.withRecall x).phase = s.phase := rfl
@[simp] theorem State.withRecall_track (x : RecallUnit) : (s.withRecall x).track = s.track := rfl
@[simp] theorem State.withRecall_sysPort (x : RecallUnit) : (s.withRecall x).sysPort = s.sysPort := rfl
@[simp] theorem State.withRecall_picPort (x : RecallUnit) : (s.withRecall x).picPort = s.picPort := rfl
@[simp] theorem State.withRecall_presence (x : RecallUnit) : (s.withRecall x).presence = s.presence := rfl


/-! ### withGeom -/

@[simp] theorem State.withGeom_pending (x : Geometry) : (s.withGeom x).pending = s.pending := rfl
@[simp] theorem State.withGeom_powered (x : Geometry) : (s.withGeom x).powered = s.powered := rfl
@[simp] theorem State.withGeom_resetCause (x : Geometry) : (s.withGeom x).resetCause = s.resetCause := rfl
@[simp] theorem State.withGeom_addrPin (x : Geometry) : (s.withGeom x).addrPin = s.addrPin := rfl
@[simp] theorem State.withGeom_addrStrap (x : Geometry) : (s.withGeom x).addrStrap = s.addrStrap := rfl
@[simp] theorem State.withGeom_axes (x : Geometry) : (s.withGeom x).axes = s.axes := rfl
@[simp] theorem State.withGeom_sched (x : Geometry) : (s.withGeom x).sched = s.sched := rfl
@[simp] theorem State.withGeom_shift (x : Geometry) : (s.withGeom x).shift = s.shift := rfl
@[simp] theorem State.withGeom_mem (x : Geometry) : (s.withGeom x).mem = s.mem := rfl
@[simp] theorem State.withGeom_recallUnit (x : Geometry) : (s.withGeom x).recallUnit = s.recallUnit := rfl
@[simp] theorem State.withGeom_geom (x : Geometry) : (s.withGeom x).geom = x := rfl
@[simp] theorem State.withGeom_banks (x : Geometry) : (s.withGeom x).banks = s.banks := rfl
@[simp] theorem State.withGeom_stream (x : Geometry) : (s.withGeom x).stream = s.stream := rfl
@[simp] theorem State.withGeom_divider (x : Geometry) : (s.withGeom x).divider = s.divider := rfl
@[simp] theorem State.withGeom_meas (x : Geometry) : (s.withGeom x).meas = s.meas := rfl
@[simp] theorem State.withGeom_cool (x : Geometry) : (s.withGeom x).cool = s.cool := rfl
@[simp] theorem State.withGeom_phase (x : Geometry) : (s.withGeom x).phase = s.phase := rfl
@[simp] theorem State.withGeom_track (x : Geometry) : (s.withGeom x).track = s.track := rfl
@[simp] theorem State.withGeom_sysPort (x : Geometry) : (s.withGeom x).sysPort = s.sysPort := rfl
@[simp] theorem State.withGeom_picPort (x : Geometry) : (s.withGeom x).picPort = s.picPort := rfl
@[simp] theorem State.withGeom_presence (x : Geometry) : (s.withGeom x).presence = s.presence := rfl


/-! ### withBanks -/

@[simp] theorem State.withBanks_pending (x : Banks) : (s.withBanks x).pending = s.pending := rfl
@[simp] theorem State.withBanks_powered (x : Banks) : (s.withBanks x).powered = s.powered := rfl
@[simp] theorem State.withBanks_resetCause (x : Banks) : (s.withBanks x).resetCause = s.resetCause := rfl
@[simp] theorem State.withBanks_addrPin (x : Banks) : (s.withBanks x).addrPin = s.addrPin := rfl
@[simp] theorem State.withBanks_addrStrap (x : Banks) : (s.withBanks x).addrStrap = s.addrStrap := rfl
@[simp] theorem State.withBanks_axes (x : Banks) : (s.withBanks x).axes = s.axes := rfl
@[simp] theorem State.withBanks_sched (x : Banks) : (s.withBanks x).sched = s.sched := rfl
@[simp] theorem State.withBanks_shift (x : Banks) : (s.withBanks x).shift = s.shift := rfl
@[simp] theorem State.withBanks_mem (x : Banks) : (s.withBanks x).mem = s.mem := rfl
@[simp] theorem State.withBanks_recallUnit (x : Banks) : (s.withBanks x).recallUnit = s.recallUnit := rfl
@[simp] theorem State.withBanks_geom (x : Banks) : (s.withBanks x).geom = s.geom := rfl
@[simp] theorem State.withBanks_banks (x : Banks) : (s.withBanks x).banks = x := rfl
@[simp] theorem State.withBanks_stream (x : Banks) : (s.withBanks x).stream = s.stream := rfl
@[simp] theorem State.withBanks_divider (x : Banks) : (s.withBanks x).divider = s.divider := rfl
@[simp] theorem State.withBanks_meas (x : Banks) : (s.withBanks x).meas = s.meas := rfl
@[simp] theorem State.withBanks_cool (x : Banks) : (s.withBanks x).cool = s.cool := rfl
@[simp] theorem State.withBanks_phase (x : Banks) : (s.withBanks x).phase = s.phase := rfl
@[simp] theorem State.withBanks_track (x : Banks) : (s.withBanks x).track = s.track := rfl
@[simp] theorem State.withBanks_sysPort (x : Banks) : (s.withBanks x).sysPort = s.sysPort := rfl
@[simp] theorem State.withBanks_picPort (x : Banks) : (s.withBanks x).picPort = s.picPort := rfl
@[simp] theorem State.withBanks_presence (x : Banks) : (s.withBanks x).presence = s.presence := rfl


/-! ### withStream -/

@[simp] theorem State.withStream_pending (x : Stream) : (s.withStream x).pending = s.pending := rfl
@[simp] theorem State.withStream_powered (x : Stream) : (s.withStream x).powered = s.powered := rfl
@[simp] theorem State.withStream_resetCause (x : Stream) : (s.withStream x).resetCause = s.resetCause := rfl
@[simp] theorem State.withStream_addrPin (x : Stream) : (s.withStream x).addrPin = s.addrPin := rfl
@[simp] theorem State.withStream_addrStrap (x : Stream) : (s.withStream x).addrStrap = s.addrStrap := rfl
@[simp] theorem State.withStream_axes (x : Stream) : (s.withStream x).axes = s.axes := rfl
@[simp] theorem State.withStream_sched (x : Stream) : (s.withStream x).sched = s.sched := rfl
@[simp] theorem State.withStream_shift (x : Stream) : (s.withStream x).shift = s.shift := rfl
@[simp] theorem State.withStream_mem (x : Stream) : (s.withStream x).mem = s.mem := rfl
@[simp] theorem State.withStream_recallUnit (x : Stream) : (s.withStream x).recallUnit = s.recallUnit := rfl
@[simp] theorem State.withStream_geom (x : Stream) : (s.withStream x).geom = s.geom := rfl
@[simp] theorem State.withStream_banks (x : Stream) : (s.withStream x).banks = s.banks := rfl
@[simp] theorem State.withStream_stream (x : Stream) : (s.withStream x).stream = x := rfl
@[simp] theorem State.withStream_divider (x : Stream) : (s.withStream x).divider = s.divider := rfl
@[simp] theorem State.withStream_meas (x : Stream) : (s.withStream x).meas = s.meas := rfl
@[simp] theorem State.withStream_cool (x : Stream) : (s.withStream x).cool = s.cool := rfl
@[simp] theorem State.withStream_phase (x : Stream) : (s.withStream x).phase = s.phase := rfl
@[simp] theorem State.withStream_track (x : Stream) : (s.withStream x).track = s.track := rfl
@[simp] theorem State.withStream_sysPort (x : Stream) : (s.withStream x).sysPort = s.sysPort := rfl
@[simp] theorem State.withStream_picPort (x : Stream) : (s.withStream x).picPort = s.picPort := rfl
@[simp] theorem State.withStream_presence (x : Stream) : (s.withStream x).presence = s.presence := rfl


/-! ### withDivider -/

@[simp] theorem State.withDivider_pending (x : Byte) : (s.withDivider x).pending = s.pending := rfl
@[simp] theorem State.withDivider_powered (x : Byte) : (s.withDivider x).powered = s.powered := rfl
@[simp] theorem State.withDivider_resetCause (x : Byte) : (s.withDivider x).resetCause = s.resetCause := rfl
@[simp] theorem State.withDivider_addrPin (x : Byte) : (s.withDivider x).addrPin = s.addrPin := rfl
@[simp] theorem State.withDivider_addrStrap (x : Byte) : (s.withDivider x).addrStrap = s.addrStrap := rfl
@[simp] theorem State.withDivider_axes (x : Byte) : (s.withDivider x).axes = s.axes := rfl
@[simp] theorem State.withDivider_sched (x : Byte) : (s.withDivider x).sched = s.sched := rfl
@[simp] theorem State.withDivider_shift (x : Byte) : (s.withDivider x).shift = s.shift := rfl
@[simp] theorem State.withDivider_mem (x : Byte) : (s.withDivider x).mem = s.mem := rfl
@[simp] theorem State.withDivider_recallUnit (x : Byte) : (s.withDivider x).recallUnit = s.recallUnit := rfl
@[simp] theorem State.withDivider_geom (x : Byte) : (s.withDivider x).geom = s.geom := rfl
@[simp] theorem State.withDivider_banks (x : Byte) : (s.withDivider x).banks = s.banks := rfl
@[simp] theorem State.withDivider_stream (x : Byte) : (s.withDivider x).stream = s.stream := rfl
@[simp] theorem State.withDivider_divider (x : Byte) : (s.withDivider x).divider = x := rfl
@[simp] theorem State.withDivider_meas (x : Byte) : (s.withDivider x).meas = s.meas := rfl
@[simp] theorem State.withDivider_cool (x : Byte) : (s.withDivider x).cool = s.cool := rfl
@[simp] theorem State.withDivider_phase (x : Byte) : (s.withDivider x).phase = s.phase := rfl
@[simp] theorem State.withDivider_track (x : Byte) : (s.withDivider x).track = s.track := rfl
@[simp] theorem State.withDivider_sysPort (x : Byte) : (s.withDivider x).sysPort = s.sysPort := rfl
@[simp] theorem State.withDivider_picPort (x : Byte) : (s.withDivider x).picPort = s.picPort := rfl
@[simp] theorem State.withDivider_presence (x : Byte) : (s.withDivider x).presence = s.presence := rfl


/-! ### withMeas -/

@[simp] theorem State.withMeas_pending (x : Measure) : (s.withMeas x).pending = s.pending := rfl
@[simp] theorem State.withMeas_powered (x : Measure) : (s.withMeas x).powered = s.powered := rfl
@[simp] theorem State.withMeas_resetCause (x : Measure) : (s.withMeas x).resetCause = s.resetCause := rfl
@[simp] theorem State.withMeas_addrPin (x : Measure) : (s.withMeas x).addrPin = s.addrPin := rfl
@[simp] theorem State.withMeas_addrStrap (x : Measure) : (s.withMeas x).addrStrap = s.addrStrap := rfl
@[simp] theorem State.withMeas_axes (x : Measure) : (s.withMeas x).axes = s.axes := rfl
@[simp] theorem State.withMeas_sched (x : Measure) : (s.withMeas x).sched = s.sched := rfl
@[simp] theorem State.withMeas_shift (x : Measure) : (s.withMeas x).shift = s.shift := rfl
@[simp] theorem State.withMeas_mem (x : Measure) : (s.withMeas x).mem = s.mem := rfl
@[simp] theorem State.withMeas_recallUnit (x : Measure) : (s.withMeas x).recallUnit = s.recallUnit := rfl
@[simp] theorem State.withMeas_geom (x : Measure) : (s.withMeas x).geom = s.geom := rfl
@[simp] theorem State.withMeas_banks (x : Measure) : (s.withMeas x).banks = s.banks := rfl
@[simp] theorem State.withMeas_stream (x : Measure) : (s.withMeas x).stream = s.stream := rfl
@[simp] theorem State.withMeas_divider (x : Measure) : (s.withMeas x).divider = s.divider := rfl
@[simp] theorem State.withMeas_meas (x : Measure) : (s.withMeas x).meas = x := rfl
@[simp] theorem State.withMeas_cool (x : Measure) : (s.withMeas x).cool = s.cool := rfl
@[simp] theorem State.withMeas_phase (x : Measure) : (s.withMeas x).phase = s.phase := rfl
@[simp] theorem State.withMeas_track (x : Measure) : (s.withMeas x).track = s.track := rfl
@[simp] theorem State.withMeas_sysPort (x : Measure) : (s.withMeas x).sysPort = s.sysPort := rfl
@[simp] theorem State.withMeas_picPort (x : Measure) : (s.withMeas x).picPort = s.picPort := rfl
@[simp] theorem State.withMeas_presence (x : Measure) : (s.withMeas x).presence = s.presence := rfl


/-! ### withCool -/

@[simp] theorem State.withCool_pending (x : Cooling) : (s.withCool x).pending = s.pending := rfl
@[simp] theorem State.withCool_powered (x : Cooling) : (s.withCool x).powered = s.powered := rfl
@[simp] theorem State.withCool_resetCause (x : Cooling) : (s.withCool x).resetCause = s.resetCause := rfl
@[simp] theorem State.withCool_addrPin (x : Cooling) : (s.withCool x).addrPin = s.addrPin := rfl
@[simp] theorem State.withCool_addrStrap (x : Cooling) : (s.withCool x).addrStrap = s.addrStrap := rfl
@[simp] theorem State.withCool_axes (x : Cooling) : (s.withCool x).axes = s.axes := rfl
@[simp] theorem State.withCool_sched (x : Cooling) : (s.withCool x).sched = s.sched := rfl
@[simp] theorem State.withCool_shift (x : Cooling) : (s.withCool x).shift = s.shift := rfl
@[simp] theorem State.withCool_mem (x : Cooling) : (s.withCool x).mem = s.mem := rfl
@[simp] theorem State.withCool_recallUnit (x : Cooling) : (s.withCool x).recallUnit = s.recallUnit := rfl
@[simp] theorem State.withCool_geom (x : Cooling) : (s.withCool x).geom = s.geom := rfl
@[simp] theorem State.withCool_banks (x : Cooling) : (s.withCool x).banks = s.banks := rfl
@[simp] theorem State.withCool_stream (x : Cooling) : (s.withCool x).stream = s.stream := rfl
@[simp] theorem State.withCool_divider (x : Cooling) : (s.withCool x).divider = s.divider := rfl
@[simp] theorem State.withCool_meas (x : Cooling) : (s.withCool x).meas = s.meas := rfl
@[simp] theorem State.withCool_cool (x : Cooling) : (s.withCool x).cool = x := rfl
@[simp] theorem State.withCool_phase (x : Cooling) : (s.withCool x).phase = s.phase := rfl
@[simp] theorem State.withCool_track (x : Cooling) : (s.withCool x).track = s.track := rfl
@[simp] theorem State.withCool_sysPort (x : Cooling) : (s.withCool x).sysPort = s.sysPort := rfl
@[simp] theorem State.withCool_picPort (x : Cooling) : (s.withCool x).picPort = s.picPort := rfl
@[simp] theorem State.withCool_presence (x : Cooling) : (s.withCool x).presence = s.presence := rfl


/-! ### withPhase -/

@[simp] theorem State.withPhase_pending (x : PhaseRec) : (s.withPhase x).pending = s.pending := rfl
@[simp] theorem State.withPhase_powered (x : PhaseRec) : (s.withPhase x).powered = s.powered := rfl
@[simp] theorem State.withPhase_resetCause (x : PhaseRec) : (s.withPhase x).resetCause = s.resetCause := rfl
@[simp] theorem State.withPhase_addrPin (x : PhaseRec) : (s.withPhase x).addrPin = s.addrPin := rfl
@[simp] theorem State.withPhase_addrStrap (x : PhaseRec) : (s.withPhase x).addrStrap = s.addrStrap := rfl
@[simp] theorem State.withPhase_axes (x : PhaseRec) : (s.withPhase x).axes = s.axes := rfl
@[simp] theorem State.withPhase_sched (x : PhaseRec) : (s.withPhase x).sched = s.sched := rfl
@[simp] theorem State.withPhase_shift (x : PhaseRec) : (s.withPhase x).shift = s.shift := rfl
@[simp] theorem State.withPhase_mem (x : PhaseRec) : (s.withPhase x).mem = s.mem := rfl
@[simp] theorem State.withPhase_recallUnit (x : PhaseRec) : (s.withPhase x).recallUnit = s.recallUnit := rfl
@[simp] theorem State.withPhase_geom (x : PhaseRec) : (s.withPhase x).geom = s.geom := rfl
@[simp] theorem State.withPhase_banks (x : PhaseRec) : (s.withPhase x).banks = s.banks := rfl
@[simp] theorem State.withPhase_stream (x : PhaseRec) : (s.withPhase x).stream = s.stream := rfl
@[simp] theorem State.withPhase_divider (x : PhaseRec) : (s.withPhase x).divider = s.divider := rfl
@[simp] theorem State.withPhase_meas (x : PhaseRec) : (s.withPhase x).meas = s.meas := rfl
@[simp] theorem State.withPhase_cool (x : PhaseRec) : (s.withPhase x).cool = s.cool := rfl
@[simp] theorem State.withPhase_phase (x : PhaseRec) : (s.withPhase x).phase = x := rfl
@[simp] theorem State.withPhase_track (x : PhaseRec) : (s.withPhase x).track = s.track := rfl
@[simp] theorem State.withPhase_sysPort (x : PhaseRec) : (s.withPhase x).sysPort = s.sysPort := rfl
@[simp] theorem State.withPhase_picPort (x : PhaseRec) : (s.withPhase x).picPort = s.picPort := rfl
@[simp] theorem State.withPhase_presence (x : PhaseRec) : (s.withPhase x).presence = s.presence := rfl


/-! ### withTrack -/

@[simp] theorem State.withTrack_pending (x : Tracker) : (s.withTrack x).pending = s.pending := rfl
@[simp] theorem State.withTrack_powered (x : Tracker) : (s.withTrack x).powered = s.powered := rfl
@[simp] theorem State.withTrack_resetCause (x : Tracker) : (s.withTrack x).resetCause = s.resetCause := rfl
@[simp] theorem State.withTrack_addrPin (x : Tracker) : (s.withTrack x).addrPin = s.addrPin := rfl
@[simp] theorem State.withTrack_addrStrap (x : Tracker) : (s.withTrack x).addrStrap = s.addrStrap := rfl
@[simp] theorem State.withTrack_axes (x : Tracker) : (s.withTrack x).axes = s.axes := rfl
@[simp] theorem State.withTrack_sched (x : Tracker) : (s.withTrack x).sched = s.sched := rfl
@[simp] theorem State.withTrack_shift (x : Tracker) : (s.withTrack x).shift = s.shift := rfl
@[simp] theorem State.withTrack_mem (x : Tracker) : (s.withTrack x).mem = s.mem := rfl
@[simp] theorem State.withTrack_recallUnit (x : Tracker) : (s.withTrack x).recallUnit = s.recallUnit := rfl
@[simp] theorem State.withTrack_geom (x : Tracker) : (s.withTrack x).geom = s.geom := rfl
@[simp] theorem State.withTrack_banks (x : Tracker) : (s.withTrack x).banks = s.banks := rfl
@[simp] theorem State.withTrack_stream (x : Tracker) : (s.withTrack x).stream = s.stream := rfl
@[simp] theorem State.withTrack_divider (x : Tracker) : (s.withTrack x).divider = s.divider := rfl
@[simp] theorem State.withTrack_meas (x : Tracker) : (s.withTrack x).meas = s.meas := rfl
@[simp] theorem State.withTrack_cool (x : Tracker) : (s.withTrack x).cool = s.cool := rfl
@[simp] theorem State.withTrack_phase (x : Tracker) : (s.withTrack x).phase = s.phase := rfl
@[simp] theorem State.withTrack_track (x : Tracker) : (s.withTrack x).track = x := rfl
@[simp] theorem State.withTrack_sysPort (x : Tracker) : (s.withTrack x).sysPort = s.sysPort := rfl
@[simp] theorem State.withTrack_picPort (x : Tracker) : (s.withTrack x).picPort = s.picPort := rfl
@[simp] theorem State.withTrack_presence (x : Tracker) : (s.withTrack x).presence = s.presence := rfl


/-! ### withSysPort -/

@[simp] theorem State.withSysPort_pending (x : PortRec) : (s.withSysPort x).pending = s.pending := rfl
@[simp] theorem State.withSysPort_powered (x : PortRec) : (s.withSysPort x).powered = s.powered := rfl
@[simp] theorem State.withSysPort_resetCause (x : PortRec) : (s.withSysPort x).resetCause = s.resetCause := rfl
@[simp] theorem State.withSysPort_addrPin (x : PortRec) : (s.withSysPort x).addrPin = s.addrPin := rfl
@[simp] theorem State.withSysPort_addrStrap (x : PortRec) : (s.withSysPort x).addrStrap = s.addrStrap := rfl
@[simp] theorem State.withSysPort_axes (x : PortRec) : (s.withSysPort x).axes = s.axes := rfl
@[simp] theorem State.withSysPort_sched (x : PortRec) : (s.withSysPort x).sched = s.sched := rfl
@[simp] theorem State.withSysPort_shift (x : PortRec) : (s.withSysPort x).shift = s.shift := rfl
@[simp] theorem State.withSysPort_mem (x : PortRec) : (s.withSysPort x).mem = s.mem := rfl
@[simp] theorem State.withSysPort_recallUnit (x : PortRec) : (s.withSysPort x).recallUnit = s.recallUnit := rfl
@[simp] theorem State.withSysPort_geom (x : PortRec) : (s.withSysPort x).geom = s.geom := rfl
@[simp] theorem State.withSysPort_banks (x : PortRec) : (s.withSysPort x).banks = s.banks := rfl
@[simp] theorem State.withSysPort_stream (x : PortRec) : (s.withSysPort x).stream = s.stream := rfl
@[simp] theorem State.withSysPort_divider (x : PortRec) : (s.withSysPort x).divider = s.divider := rfl
@[simp] theorem State.withSysPort_meas (x : PortRec) : (s.withSysPort x).meas = s.meas := rfl
@[simp] theorem State.withSysPort_cool (x : PortRec) : (s.withSysPort x).cool = s.cool := rfl
@[simp] theorem State.withSysPort_phase (x : PortRec) : (s.withSysPort x).phase = s.phase := rfl
@[simp] theorem State.withSysPort_track (x : PortRec) : (s.withSysPort x).track = s.track := rfl
@[simp] theorem State.withSysPort_sysPort (x : PortRec) : (s.withSysPort x).sysPort = x := rfl
@[simp] theorem State.withSysPort_picPort (x : PortRec) : (s.withSysPort x).picPort = s.picPort := rfl
@[simp] theorem State.withSysPort_presence (x : PortRec) : (s.withSysPort x).presence = s.presence := rfl


/-! ### withPicPort -/

@[simp] theorem State.withPicPort_pending (x : PortRec) : (s.withPicPort x).pending = s.pending := rfl
@[simp] theorem State.withPicPort_powered (x : PortRec) : (s.withPicPort x).powered = s.powered := rfl
@[simp] theorem State.withPicPort_resetCause (x : PortRec) : (s.withPicPort x).resetCause = s.resetCause := rfl
@[simp] theorem State.withPicPort_addrPin (x : PortRec) : (s.withPicPort x).addrPin = s.addrPin := rfl
@[simp] theorem State.withPicPort_addrStrap (x : PortRec) : (s.withPicPort x).addrStrap = s.addrStrap := rfl
@[simp] theorem State.withPicPort_axes (x : PortRec) : (s.withPicPort x).axes = s.axes := rfl
@[simp] theorem State.withPicPort_sched (x : PortRec) : (s.withPicPort x).sched = s.sched := rfl
@[simp] theorem State.withPicPort_shift (x : PortRec) : (s.withPicPort x).shift = s.shift := rfl
@[simp] theorem State.withPicPort_mem (x : PortRec) : (s.withPicPort x).mem = s.mem := rfl
@[simp] theorem State.withPicPort_recallUnit (x : PortRec) : (s.withPicPort x).recallUnit = s.recallUnit := rfl
@[simp] theorem State.withPicPort_geom (x : PortRec) : (s.withPicPort x).geom = s.geom := rfl
@[simp] theorem State.withPicPort_banks (x : PortRec) : (s.withPicPort x).banks = s.banks := rfl
@[simp] theorem State.withPicPort_stream (x : PortRec) : (s.withPicPort x).stream = s.stream := rfl
@[simp] theorem State.withPicPort_divider (x : PortRec) : (s.withPicPort x).divider = s.divider := rfl
@[simp] theorem State.withPicPort_meas (x : PortRec) : (s.withPicPort x).meas = s.meas := rfl
@[simp] theorem State.withPicPort_cool (x : PortRec) : (s.withPicPort x).cool = s.cool := rfl
@[simp] theorem State.withPicPort_phase (x : PortRec) : (s.withPicPort x).phase = s.phase := rfl
@[simp] theorem State.withPicPort_track (x : PortRec) : (s.withPicPort x).track = s.track := rfl
@[simp] theorem State.withPicPort_sysPort (x : PortRec) : (s.withPicPort x).sysPort = s.sysPort := rfl
@[simp] theorem State.withPicPort_picPort (x : PortRec) : (s.withPicPort x).picPort = x := rfl
@[simp] theorem State.withPicPort_presence (x : PortRec) : (s.withPicPort x).presence = s.presence := rfl


/-! ### withPresence -/

@[simp] theorem State.withPresence_pending (x : Presence) : (s.withPresence x).pending = s.pending := rfl
@[simp] theorem State.withPresence_powered (x : Presence) : (s.withPresence x).powered = s.powered := rfl
@[simp] theorem State.withPresence_resetCause (x : Presence) : (s.withPresence x).resetCause = s.resetCause := rfl
@[simp] theorem State.withPresence_addrPin (x : Presence) : (s.withPresence x).addrPin = s.addrPin := rfl
@[simp] theorem State.withPresence_addrStrap (x : Presence) : (s.withPresence x).addrStrap = s.addrStrap := rfl
@[simp] theorem State.withPresence_axes (x : Presence) : (s.withPresence x).axes = s.axes := rfl
@[simp] theorem State.withPresence_sched (x : Presence) : (s.withPresence x).sched = s.sched := rfl
@[simp] theorem State.withPresence_shift (x : Presence) : (s.withPresence x).shift = s.shift := rfl
@[simp] theorem State.withPresence_mem (x : Presence) : (s.withPresence x).mem = s.mem := rfl
@[simp] theorem State.withPresence_recallUnit (x : Presence) : (s.withPresence x).recallUnit = s.recallUnit := rfl
@[simp] theorem State.withPresence_geom (x : Presence) : (s.withPresence x).geom = s.geom := rfl
@[simp] theorem State.withPresence_banks (x : Presence) : (s.withPresence x).banks = s.banks := rfl
@[simp] theorem State.withPresence_stream (x : Presence) : (s.withPresence x).stream = s.stream := rfl
@[simp] theorem State.withPresence_divider (x : Presence) : (s.withPresence x).divider = s.divider := rfl
@[simp] theorem State.withPresence_meas (x : Presence) : (s.withPresence x).meas = s.meas := rfl
@[simp] theorem State.withPresence_cool (x : Presence) : (s.withPresence x).cool = s.cool := rfl
@[simp] theorem State.withPresence_phase (x : Presence) : (s.withPresence x).phase = s.phase := rfl
@[simp] theorem State.withPresence_track (x : Presence) : (s.withPresence x).track = s.track := rfl
@[simp] theorem State.withPresence_sysPort (x : Presence) : (s.withPresence x).sysPort = s.sysPort := rfl
@[simp] theorem State.withPresence_picPort (x : Presence) : (s.withPresence x).picPort = s.picPort := rfl
@[simp] theorem State.withPresence_presence (x : Presence) : (s.withPresence x).presence = x := rfl


/-! ### withPowered -/

@[simp] theorem State.withPowered_pending (x : Bool) : (s.withPowered x).pending = s.pending := rfl
@[simp] theorem State.withPowered_powered (x : Bool) : (s.withPowered x).powered = x := rfl
@[simp] theorem State.withPowered_resetCause (x : Bool) : (s.withPowered x).resetCause = s.resetCause := rfl
@[simp] theorem State.withPowered_addrPin (x : Bool) : (s.withPowered x).addrPin = s.addrPin := rfl
@[simp] theorem State.withPowered_addrStrap (x : Bool) : (s.withPowered x).addrStrap = s.addrStrap := rfl
@[simp] theorem State.withPowered_axes (x : Bool) : (s.withPowered x).axes = s.axes := rfl
@[simp] theorem State.withPowered_sched (x : Bool) : (s.withPowered x).sched = s.sched := rfl
@[simp] theorem State.withPowered_shift (x : Bool) : (s.withPowered x).shift = s.shift := rfl
@[simp] theorem State.withPowered_mem (x : Bool) : (s.withPowered x).mem = s.mem := rfl
@[simp] theorem State.withPowered_recallUnit (x : Bool) : (s.withPowered x).recallUnit = s.recallUnit := rfl
@[simp] theorem State.withPowered_geom (x : Bool) : (s.withPowered x).geom = s.geom := rfl
@[simp] theorem State.withPowered_banks (x : Bool) : (s.withPowered x).banks = s.banks := rfl
@[simp] theorem State.withPowered_stream (x : Bool) : (s.withPowered x).stream = s.stream := rfl
@[simp] theorem State.withPowered_divider (x : Bool) : (s.withPowered x).divider = s.divider := rfl
@[simp] theorem State.withPowered_meas (x : Bool) : (s.withPowered x).meas = s.meas := rfl
@[simp] theorem State.withPowered_cool (x : Bool) : (s.withPowered x).cool = s.cool := rfl
@[simp] theorem State.withPowered_phase (x : Bool) : (s.withPowered x).phase = s.phase := rfl
@[simp] theorem State.withPowered_track (x : Bool) : (s.withPowered x).track = s.track := rfl
@[simp] theorem State.withPowered_sysPort (x : Bool) : (s.withPowered x).sysPort = s.sysPort := rfl
@[simp] theorem State.withPowered_picPort (x : Bool) : (s.withPowered x).picPort = s.picPort := rfl
@[simp] theorem State.withPowered_presence (x : Bool) : (s.withPowered x).presence = s.presence := rfl

/-! ### One value per axis, zone, fan, channel or bank -/

@[simp] theorem PerAxis.get_set_same {α : Type} (q : PerAxis α) (a : Axis) (x : α) : (q.set a x).get a = x := by
  cases a <;> rfl

theorem PerAxis.get_set_other {α : Type} (q : PerAxis α) {i j : Axis} (x : α) (h : i ≠ j) : (q.set i x).get j = q.get j := by
  cases i <;> cases j <;> first | rfl | exact absurd rfl h

theorem PerAxis.get_set {α : Type} (q : PerAxis α) (i j : Axis) (x : α) :
    (q.set i x).get j = if j = i then x else q.get j := by
  cases i <;> cases j <;> rfl

@[simp] theorem PerAxis.set_get {α : Type} (q : PerAxis α) (a : Axis) : q.set a (q.get a) = q := by
  cases a <;> rfl

@[simp] theorem PerAxis.set_set {α : Type} (q : PerAxis α) (a : Axis) (x y : α) : (q.set a x).set a y = q.set a y := by
  cases a <;> rfl

theorem PerAxis.ext_get {α : Type} {p q : PerAxis α} (h : ∀ a, p.get a = q.get a) : p = q := by
  cases p
  cases q
  simp only [PerAxis.mk.injEq]
  exact ⟨h .sh, h .sv, h .zm, h .fc⟩

@[simp] theorem PerZone.get_set_same {α : Type} (q : PerZone α) (z : Zone) (x : α) : (q.set z x).get z = x := by
  cases z <;> rfl

theorem PerZone.get_set_other {α : Type} (q : PerZone α) {i j : Zone} (x : α) (h : i ≠ j) : (q.set i x).get j = q.get j := by
  cases i <;> cases j <;> first | rfl | exact absurd rfl h

theorem PerZone.get_set {α : Type} (q : PerZone α) (i j : Zone) (x : α) :
    (q.set i x).get j = if j = i then x else q.get j := by
  cases i <;> cases j <;> rfl

@[simp] theorem PerZone.set_get {α : Type} (q : PerZone α) (z : Zone) : q.set z (q.get z) = q := by
  cases z <;> rfl

@[simp] theorem PerZone.set_set {α : Type} (q : PerZone α) (z : Zone) (x y : α) : (q.set z x).set z y = q.set z y := by
  cases z <;> rfl

theorem PerZone.ext_get {α : Type} {p q : PerZone α} (h : ∀ z, p.get z = q.get z) : p = q := by
  cases p
  cases q
  simp only [PerZone.mk.injEq]
  exact ⟨h .z0, h .z1, h .z2, h .z3⟩

@[simp] theorem PerFan.get_set_same {α : Type} (q : PerFan α) (f : Fan) (x : α) : (q.set f x).get f = x := by
  cases f <;> rfl

theorem PerFan.get_set_other {α : Type} (q : PerFan α) {i j : Fan} (x : α) (h : i ≠ j) : (q.set i x).get j = q.get j := by
  cases i <;> cases j <;> first | rfl | exact absurd rfl h

theorem PerFan.get_set {α : Type} (q : PerFan α) (i j : Fan) (x : α) :
    (q.set i x).get j = if j = i then x else q.get j := by
  cases i <;> cases j <;> rfl

@[simp] theorem PerFan.set_get {α : Type} (q : PerFan α) (f : Fan) : q.set f (q.get f) = q := by
  cases f <;> rfl

@[simp] theorem PerFan.set_set {α : Type} (q : PerFan α) (f : Fan) (x y : α) : (q.set f x).set f y = q.set f y := by
  cases f <;> rfl

theorem PerFan.ext_get {α : Type} {p q : PerFan α} (h : ∀ f, p.get f = q.get f) : p = q := by
  cases p
  cases q
  simp only [PerFan.mk.injEq]
  exact ⟨h .f0, h .f1, h .f2, h .f3⟩

@[simp] theorem PerChan.get_set_same {α : Type} (q : PerChan α) (c : Chan) (x : α) : (q.set c x).get c = x := by
  cases c <;> rfl

theorem PerChan.get_set_other {α : Type} (q : PerChan α) {i j : Chan} (x : α) (h : i ≠ j) : (q.set i x).get j = q.get j := by
  cases i <;> cases j <;> first | rfl | exact absurd rfl h

theorem PerChan.get_set {α : Type} (q : PerChan α) (i j : Chan) (x : α) :
    (q.set i x).get j = if j = i then x else q.get j := by
  cases i <;> cases j <;> rfl

@[simp] theorem PerChan.set_get {α : Type} (q : PerChan α) (c : Chan) : q.set c (q.get c) = q := by
  cases c <;> rfl

@[simp] theorem PerChan.set_set {α : Type} (q : PerChan α) (c : Chan) (x y : α) : (q.set c x).set c y = q.set c y := by
  cases c <;> rfl

theorem PerChan.ext_get {α : Type} {p q : PerChan α} (h : ∀ c, p.get c = q.get c) : p = q := by
  cases p
  cases q
  simp only [PerChan.mk.injEq]
  exact ⟨h .laser, h .wheel, h .imager, h .psu, h .intake, h .exhaust, h .lens, h .spare, h .die⟩

@[simp] theorem Banks.get_set_same (b : Banks) (n : BankName) (x : Bank) : (b.set n x).get n = x := by
  cases n <;> rfl

theorem Banks.get_set (b : Banks) (n m : BankName) (x : Bank) :
    (b.set n x).get m = if m = n then x else b.get m := by
  cases n <;> cases m <;> rfl

@[simp] theorem Banks.set_live (b : Banks) (n : BankName) (x : Bank) : (b.set n x).live = b.live := by
  cases n <;> rfl

/-! ### Axis channels -/

@[simp] theorem State.setChan_chan_same (a : Axis) (c : Channel) : (s.setChan a c).chan a = c := by
  simp [State.setChan, State.chan]

theorem State.setChan_chan (a b : Axis) (c : Channel) : (s.setChan a c).chan b = if b = a then c else s.chan b := by
  simp [State.setChan, State.chan, PerAxis.get_set]

theorem State.setChan_chan_other {a b : Axis} (c : Channel) (h : b ≠ a) : (s.setChan a c).chan b = s.chan b := by
  simp [State.setChan_chan, h]

@[simp] theorem State.setChan_pending (a : Axis) (c : Channel) : (s.setChan a c).pending = s.pending := rfl
@[simp] theorem State.setChan_powered (a : Axis) (c : Channel) : (s.setChan a c).powered = s.powered := rfl
@[simp] theorem State.setChan_resetCause (a : Axis) (c : Channel) : (s.setChan a c).resetCause = s.resetCause := rfl
@[simp] theorem State.setChan_addrPin (a : Axis) (c : Channel) : (s.setChan a c).addrPin = s.addrPin := rfl
@[simp] theorem State.setChan_addrStrap (a : Axis) (c : Channel) : (s.setChan a c).addrStrap = s.addrStrap := rfl
@[simp] theorem State.setChan_sched (a : Axis) (c : Channel) : (s.setChan a c).sched = s.sched := rfl
@[simp] theorem State.setChan_shift (a : Axis) (c : Channel) : (s.setChan a c).shift = s.shift := rfl
@[simp] theorem State.setChan_mem (a : Axis) (c : Channel) : (s.setChan a c).mem = s.mem := rfl
@[simp] theorem State.setChan_recallUnit (a : Axis) (c : Channel) : (s.setChan a c).recallUnit = s.recallUnit := rfl
@[simp] theorem State.setChan_geom (a : Axis) (c : Channel) : (s.setChan a c).geom = s.geom := rfl
@[simp] theorem State.setChan_banks (a : Axis) (c : Channel) : (s.setChan a c).banks = s.banks := rfl
@[simp] theorem State.setChan_stream (a : Axis) (c : Channel) : (s.setChan a c).stream = s.stream := rfl
@[simp] theorem State.setChan_divider (a : Axis) (c : Channel) : (s.setChan a c).divider = s.divider := rfl
@[simp] theorem State.setChan_meas (a : Axis) (c : Channel) : (s.setChan a c).meas = s.meas := rfl
@[simp] theorem State.setChan_cool (a : Axis) (c : Channel) : (s.setChan a c).cool = s.cool := rfl
@[simp] theorem State.setChan_phase (a : Axis) (c : Channel) : (s.setChan a c).phase = s.phase := rfl
@[simp] theorem State.setChan_track (a : Axis) (c : Channel) : (s.setChan a c).track = s.track := rfl
@[simp] theorem State.setChan_sysPort (a : Axis) (c : Channel) : (s.setChan a c).sysPort = s.sysPort := rfl
@[simp] theorem State.setChan_picPort (a : Axis) (c : Channel) : (s.setChan a c).picPort = s.picPort := rfl
@[simp] theorem State.setChan_presence (a : Axis) (c : Channel) : (s.setChan a c).presence = s.presence := rfl

@[simp] theorem State.withSched_chan (x : Scheduler) (a : Axis) : (s.withSched x).chan a = s.chan a := rfl
@[simp] theorem State.withShift_chan (x : ShiftUnit) (a : Axis) : (s.withShift x).chan a = s.chan a := rfl
@[simp] theorem State.withMem_chan (x : Memories) (a : Axis) : (s.withMem x).chan a = s.chan a := rfl
@[simp] theorem State.withRecall_chan (x : RecallUnit) (a : Axis) : (s.withRecall x).chan a = s.chan a := rfl
@[simp] theorem State.withGeom_chan (x : Geometry) (a : Axis) : (s.withGeom x).chan a = s.chan a := rfl
@[simp] theorem State.withBanks_chan (x : Banks) (a : Axis) : (s.withBanks x).chan a = s.chan a := rfl
@[simp] theorem State.withStream_chan (x : Stream) (a : Axis) : (s.withStream x).chan a = s.chan a := rfl
@[simp] theorem State.withDivider_chan (x : Byte) (a : Axis) : (s.withDivider x).chan a = s.chan a := rfl
@[simp] theorem State.withMeas_chan (x : Measure) (a : Axis) : (s.withMeas x).chan a = s.chan a := rfl
@[simp] theorem State.withCool_chan (x : Cooling) (a : Axis) : (s.withCool x).chan a = s.chan a := rfl
@[simp] theorem State.withPhase_chan (x : PhaseRec) (a : Axis) : (s.withPhase x).chan a = s.chan a := rfl
@[simp] theorem State.withTrack_chan (x : Tracker) (a : Axis) : (s.withTrack x).chan a = s.chan a := rfl
@[simp] theorem State.withSysPort_chan (x : PortRec) (a : Axis) : (s.withSysPort x).chan a = s.chan a := rfl
@[simp] theorem State.withPicPort_chan (x : PortRec) (a : Axis) : (s.withPicPort x).chan a = s.chan a := rfl
@[simp] theorem State.withPresence_chan (x : Presence) (a : Axis) : (s.withPresence x).chan a = s.chan a := rfl
@[simp] theorem State.withPowered_chan (x : Bool) (a : Axis) : (s.withPowered x).chan a = s.chan a := rfl

/-! ### Ports -/

@[simp] theorem State.setPort_port_same (p : Port) (r : PortRec) : (s.setPort p r).port p = r := by
  cases p <;> rfl

theorem State.setPort_port (p q : Port) (r : PortRec) : (s.setPort p r).port q = if q = p then r else s.port q := by
  cases p <;> cases q <;> rfl

@[simp] theorem State.setPort_setPort (p : Port) (r x : PortRec) : (s.setPort p r).setPort p x = s.setPort p x := by
  cases p <;> rfl

@[simp] theorem State.setPort_port_self (p : Port) : s.setPort p (s.port p) = s := by
  cases p <;> rfl

@[simp] theorem State.setPort_chan (p : Port) (r : PortRec) (a : Axis) : (s.setPort p r).chan a = s.chan a := by
  cases p <;> rfl

@[simp] theorem State.setPort_pending (p : Port) (r : PortRec) : (s.setPort p r).pending = s.pending := by cases p <;> rfl
@[simp] theorem State.setPort_powered (p : Port) (r : PortRec) : (s.setPort p r).powered = s.powered := by cases p <;> rfl
@[simp] theorem State.setPort_resetCause (p : Port) (r : PortRec) : (s.setPort p r).resetCause = s.resetCause := by cases p <;> rfl
@[simp] theorem State.setPort_addrPin (p : Port) (r : PortRec) : (s.setPort p r).addrPin = s.addrPin := by cases p <;> rfl
@[simp] theorem State.setPort_addrStrap (p : Port) (r : PortRec) : (s.setPort p r).addrStrap = s.addrStrap := by cases p <;> rfl
@[simp] theorem State.setPort_axes (p : Port) (r : PortRec) : (s.setPort p r).axes = s.axes := by cases p <;> rfl
@[simp] theorem State.setPort_sched (p : Port) (r : PortRec) : (s.setPort p r).sched = s.sched := by cases p <;> rfl
@[simp] theorem State.setPort_shift (p : Port) (r : PortRec) : (s.setPort p r).shift = s.shift := by cases p <;> rfl
@[simp] theorem State.setPort_mem (p : Port) (r : PortRec) : (s.setPort p r).mem = s.mem := by cases p <;> rfl
@[simp] theorem State.setPort_recallUnit (p : Port) (r : PortRec) : (s.setPort p r).recallUnit = s.recallUnit := by cases p <;> rfl
@[simp] theorem State.setPort_geom (p : Port) (r : PortRec) : (s.setPort p r).geom = s.geom := by cases p <;> rfl
@[simp] theorem State.setPort_banks (p : Port) (r : PortRec) : (s.setPort p r).banks = s.banks := by cases p <;> rfl
@[simp] theorem State.setPort_stream (p : Port) (r : PortRec) : (s.setPort p r).stream = s.stream := by cases p <;> rfl
@[simp] theorem State.setPort_divider (p : Port) (r : PortRec) : (s.setPort p r).divider = s.divider := by cases p <;> rfl
@[simp] theorem State.setPort_meas (p : Port) (r : PortRec) : (s.setPort p r).meas = s.meas := by cases p <;> rfl
@[simp] theorem State.setPort_cool (p : Port) (r : PortRec) : (s.setPort p r).cool = s.cool := by cases p <;> rfl
@[simp] theorem State.setPort_phase (p : Port) (r : PortRec) : (s.setPort p r).phase = s.phase := by cases p <;> rfl
@[simp] theorem State.setPort_track (p : Port) (r : PortRec) : (s.setPort p r).track = s.track := by cases p <;> rfl
@[simp] theorem State.setPort_presence (p : Port) (r : PortRec) : (s.setPort p r).presence = s.presence := by cases p <;> rfl

@[simp] theorem State.withAxes_port (x : PerAxis Channel) (p : Port) : (s.withAxes x).port p = s.port p := by cases p <;> rfl
@[simp] theorem State.withSched_port (x : Scheduler) (p : Port) : (s.withSched x).port p = s.port p := by cases p <;> rfl
@[simp] theorem State.withShift_port (x : ShiftUnit) (p : Port) : (s.withShift x).port p = s.port p := by cases p <;> rfl
@[simp] theorem State.withMem_port (x : Memories) (p : Port) : (s.withMem x).port p = s.port p := by cases p <;> rfl
@[simp] theorem State.withRecall_port (x : RecallUnit) (p : Port) : (s.withRecall x).port p = s.port p := by cases p <;> rfl
@[simp] theorem State.withGeom_port (x : Geometry) (p : Port) : (s.withGeom x).port p = s.port p := by cases p <;> rfl
@[simp] theorem State.withBanks_port (x : Banks) (p : Port) : (s.withBanks x).port p = s.port p := by cases p <;> rfl
@[simp] theorem State.withStream_port (x : Stream) (p : Port) : (s.withStream x).port p = s.port p := by cases p <;> rfl
@[simp] theorem State.withDivider_port (x : Byte) (p : Port) : (s.withDivider x).port p = s.port p := by cases p <;> rfl
@[simp] theorem State.withMeas_port (x : Measure) (p : Port) : (s.withMeas x).port p = s.port p := by cases p <;> rfl
@[simp] theorem State.withCool_port (x : Cooling) (p : Port) : (s.withCool x).port p = s.port p := by cases p <;> rfl
@[simp] theorem State.withPhase_port (x : PhaseRec) (p : Port) : (s.withPhase x).port p = s.port p := by cases p <;> rfl
@[simp] theorem State.withTrack_port (x : Tracker) (p : Port) : (s.withTrack x).port p = s.port p := by cases p <;> rfl
@[simp] theorem State.withPresence_port (x : Presence) (p : Port) : (s.withPresence x).port p = s.port p := by cases p <;> rfl
@[simp] theorem State.withPowered_port (x : Bool) (p : Port) : (s.withPowered x).port p = s.port p := by cases p <;> rfl
@[simp] theorem State.setChan_port (a : Axis) (c : Channel) (p : Port) : (s.setChan a c).port p = s.port p := by cases p <;> rfl

/-! ### Shift demand records -/

theorem ShiftUnit.get_set (u : ShiftUnit) (a b : Axis) (d : DemandRec) :
    (u.set a d).get b = if b = a then (u.get b).map fun _ => d else u.get b := by
  cases a <;> cases b <;> rfl

end Sys2Proof.Machine
end

