-- ==== Sys2Proof/Laws/Channels.lean ====
section
/-! SUPPORT. What each operation of one axis channel can do: which fields it leaves (`Still`), that its coils follow, and
how a step event moves the axis. -/

namespace Sys2Proof.Machine

/-- A channel at the same place with the same settings: position, phase index, home edge, switch, settings and table. -/
structure Still (c d : Channel) : Prop where
  position : d.position = c.position
  phaseIndex : d.phaseIndex = c.phaseIndex
  homeEdge : d.homeEdge = c.homeEdge
  switch : d.switch = c.switch
  settings : d.settings = c.settings
  table : d.table = c.table

theorem Still.refl (c : Channel) : Still c c := ⟨rfl, rfl, rfl, rfl, rfl, rfl⟩

theorem Still.trans {c d e : Channel} (h : Still c d) (k : Still d e) : Still c e :=
  ⟨k.position.trans h.position, k.phaseIndex.trans h.phaseIndex, k.homeEdge.trans h.homeEdge, k.switch.trans h.switch,
    k.settings.trans h.settings, k.table.trans h.table⟩

/-- The channel a grant or a step leaves. -/
def Progress.chan : Progress → Channel
  | .running c => c
  | .ended c _ => c

/-- The channel a stop leaves. -/
def StopEnd.chan : StopEnd → Channel
  | .result c _ => c
  | .heldOn c => c

/-! ### The coil sequence -/

theorem nextEntry_lt (d : Dir) (i : Nat) : nextEntry d i < Config.phaseEntries := by
  cases d <;> exact Nat.mod_lt _ (by decide)

/-! ### Still -/

theorem energize_still (c : Channel) : Still c c.energize := by
  unfold Channel.energize
  split <;> exact ⟨rfl, rfl, rfl, rfl, rfl, rfl⟩

theorem beginSegment_still (c : Channel) (g : Segment) (x : Int) : Still c (c.beginSegment g x) :=
  ⟨rfl, rfl, rfl, rfl, rfl, rfl⟩

theorem runMove_still (c : Channel) (t : Int) : Still c (c.runMove t) := by
  unfold Channel.runMove
  split
  · split <;> exact beginSegment_still _ _ _
  · exact beginSegment_still _ _ _

theorem startMove_still (c : Channel) (t : Int) : Still c (c.startMove t).chan := by
  unfold Channel.startMove
  simp only
  split
  · exact ⟨rfl, rfl, rfl, rfl, rfl, rfl⟩
  · refine Still.trans ?_ (runMove_still _ _)
    refine Still.trans ?_ (energize_still _)
    exact ⟨rfl, rfl, rfl, rfl, rfl, rfl⟩

theorem startHome_still (c : Channel) : Still c c.startHome := by
  have h := energize_still { c with state := .homing, referenced := false, heldHome := false }
  have k : Still c { c with state := .homing, referenced := false, heldHome := false } := ⟨rfl, rfl, rfl, rfl, rfl, rfl⟩
  unfold Channel.startHome
  simp only
  split
  · exact (k.trans h).trans ⟨rfl, rfl, rfl, rfl, rfl, rfl⟩
  · exact (k.trans h).trans ⟨rfl, rfl, rfl, rfl, rfl, rfl⟩

theorem startJog_still (c : Channel) (d : Dir) (l : Nat) : Still c (c.startJog d l).chan := by
  have h := energize_still { c with state := .jogging, jog := some ⟨d, min l (topLevel c.table)⟩ }
  have k : Still c { c with state := .jogging, jog := some ⟨d, min l (topLevel c.table)⟩ } :=
    ⟨rfl, rfl, rfl, rfl, rfl, rfl⟩
  unfold Channel.startJog
  simp only
  split
  · exact (k.trans h).trans ⟨rfl, rfl, rfl, rfl, rfl, rfl⟩
  · exact (k.trans h).trans ⟨rfl, rfl, rfl, rfl, rfl, rfl⟩

theorem segmentOver_still (c : Channel) : Still c c.segmentOver.chan := by
  unfold Channel.segmentOver
  split
  · split <;> exact ⟨rfl, rfl, rfl, rfl, rfl, rfl⟩
  · exact ⟨rfl, rfl, rfl, rfl, rfl, rfl⟩

theorem fastOver_still (c : Channel) (h : Homing) : Still c (c.fastOver h).chan := by
  unfold Channel.fastOver
  split <;> exact ⟨rfl, rfl, rfl, rfl, rfl, rfl⟩

theorem slowFast_still (c : Channel) (h : Homing) (r : HomingRun) : Still c (c.slowFast h r).chan := by
  unfold Channel.slowFast
  simp only
  split
  · refine Still.trans ?_ (fastOver_still _ _)
    exact ⟨rfl, rfl, rfl, rfl, rfl, rfl⟩
  · exact ⟨rfl, rfl, rfl, rfl, rfl, rfl⟩

theorem stopEnd_still (c : Channel) : Still c c.stopEnd.chan := by
  unfold Channel.stopEnd Channel.stopped
  split <;> (try split) <;> (try split) <;> exact ⟨rfl, rfl, rfl, rfl, rfl, rfl⟩

theorem stopping_still (c : Channel) (k : StopCause) : Still c (c.stopping k) := ⟨rfl, rfl, rfl, rfl, rfl, rfl⟩

theorem dropHeld_still (c : Channel) : Still c c.dropHeld := ⟨rfl, rfl, rfl, rfl, rfl, rfl⟩

theorem heldEnded_still (c : Channel) (e : Ending) (m : Option MotionRec) : Still c (c.heldEnded e m) :=
  ⟨rfl, rfl, rfl, rfl, rfl, rfl⟩

@[simp] theorem heldEnded_state (c : Channel) (e : Ending) (m : Option MotionRec) : (c.heldEnded e m).state = c.state :=
  rfl

@[simp] theorem heldEnded_target (c : Channel) (e : Ending) (m : Option MotionRec) :
    (c.heldEnded e m).target = c.target := rfl

@[simp] theorem heldEnded_heldHome (c : Channel) (e : Ending) (m : Option MotionRec) :
    (c.heldEnded e m).heldHome = c.heldHome := rfl

@[simp] theorem heldEnded_referenced (c : Channel) (e : Ending) (m : Option MotionRec) :
    (c.heldEnded e m).referenced = c.referenced := rfl

theorem from_still (c : Channel) (o : Origin) : Still c (c.from o) := ⟨rfl, rfl, rfl, rfl, rfl, rfl⟩

theorem moveDone_still (c : Channel) : Still c c.moveDone := ⟨rfl, rfl, rfl, rfl, rfl, rfl⟩

theorem moveResync_still (c : Channel) : Still c c.moveResync.chan := by
  unfold Channel.moveResync
  simp only
  split
  · exact ⟨rfl, rfl, rfl, rfl, rfl, rfl⟩
  · split
    · exact segmentOver_still c
    · split
      · exact startMove_still _ _
      · exact ⟨rfl, rfl, rfl, rfl, rfl, rfl⟩

theorem jogResync_still (c : Channel) : Still c c.jogResync.chan := by
  unfold Channel.jogResync
  simp only
  split <;> exact ⟨rfl, rfl, rfl, rfl, rfl, rfl⟩

theorem holdTick_still (c : Channel) : Still c c.holdTick := by
  unfold Channel.holdTick
  split
  · exact .refl c
  · split
    · exact ⟨rfl, rfl, rfl, rfl, rfl, rfl⟩
    · split <;> exact ⟨rfl, rfl, rfl, rfl, rfl, rfl⟩

/-! ### Step events -/

theorem moveStep_still (c : Channel) : Still c.microstep c.moveStep.chan := by
  unfold Channel.moveStep
  simp only
  split
  · refine Still.trans ?_ (segmentOver_still _)
    exact ⟨rfl, rfl, rfl, rfl, rfl, rfl⟩
  · exact ⟨rfl, rfl, rfl, rfl, rfl, rfl⟩

theorem jogStep_still (c : Channel) : Still c.microstep c.jogStep.chan := by
  unfold Channel.jogStep
  simp only
  split <;> exact ⟨rfl, rfl, rfl, rfl, rfl, rfl⟩

theorem homeStep_still (c : Channel) : Still c.microstep c.homeStep.chan := by
  unfold Channel.homeStep
  simp only
  split
  · exact .refl _
  · split
    · split <;> exact ⟨rfl, rfl, rfl, rfl, rfl, rfl⟩
    · split
      · split
        · refine Still.trans ?_ (slowFast_still _ _ _)
          exact ⟨rfl, rfl, rfl, rfl, rfl, rfl⟩
        · exact ⟨rfl, rfl, rfl, rfl, rfl, rfl⟩
      · split
        · refine Still.trans ?_ (fastOver_still _ _)
          exact ⟨rfl, rfl, rfl, rfl, rfl, rfl⟩
        · exact ⟨rfl, rfl, rfl, rfl, rfl, rfl⟩
      · split
        · refine Still.trans ?_ (fastOver_still _ _)
          exact ⟨rfl, rfl, rfl, rfl, rfl, rfl⟩
        · exact ⟨rfl, rfl, rfl, rfl, rfl, rfl⟩

/-! ### Coils -/

theorem setOff_follow {c : Channel} (h : CoilsFollow c) (d : Dir) : CoilsFollow (c.setOff d) :=
  ⟨h.index, nextEntry_lt d c.phaseIndex, h.driven⟩

theorem startBackoff_follow {c : Channel} (h : CoilsFollow c) : CoilsFollow c.startBackoff :=
  ⟨h.index, nextEntry_lt .pos c.phaseIndex, h.driven⟩

theorem energize_follow {c : Channel} (h : CoilsFollow c) : CoilsFollow c.energize := by
  unfold Channel.energize
  split
  · exact ⟨h.index, h.buffer, h.driven⟩
  · exact ⟨h.index, h.buffer, fun _ => ⟨rfl, rfl⟩⟩

theorem beginSegment_follow {c : Channel} (h : CoilsFollow c) (g : Segment) (x : Int) :
    CoilsFollow (c.beginSegment g x) :=
  ⟨h.index, nextEntry_lt _ _, h.driven⟩

theorem runMove_follow {c : Channel} (h : CoilsFollow c) (t : Int) : CoilsFollow (c.runMove t) := by
  unfold Channel.runMove
  split
  · split <;> exact beginSegment_follow h _ _
  · exact beginSegment_follow h _ _

theorem moveDone_follow {c : Channel} (h : CoilsFollow c) : CoilsFollow c.moveDone := ⟨h.index, h.buffer, h.driven⟩

theorem atRest_follow {c : Channel} (h : CoilsFollow c) (st : AxisState) : CoilsFollow (c.atRest st) :=
  ⟨h.index, h.buffer, h.driven⟩

theorem dropHeld_follow {c : Channel} (h : CoilsFollow c) : CoilsFollow c.dropHeld := ⟨h.index, h.buffer, h.driven⟩

theorem heldEnded_follow {c : Channel} (h : CoilsFollow c) (e : Ending) (m : Option MotionRec) :
    CoilsFollow (c.heldEnded e m) :=
  ⟨h.index, h.buffer, h.driven⟩

theorem from_follow {c : Channel} (h : CoilsFollow c) (o : Origin) : CoilsFollow (c.from o) :=
  ⟨h.index, h.buffer, h.driven⟩

theorem stopping_follow {c : Channel} (h : CoilsFollow c) (k : StopCause) : CoilsFollow (c.stopping k) :=
  ⟨h.index, h.buffer, h.driven⟩

theorem startMove_follow {c : Channel} (h : CoilsFollow c) (t : Int) : CoilsFollow (c.startMove t).chan := by
  unfold Channel.startMove
  simp only
  split
  · exact moveDone_follow h
  · refine runMove_follow (energize_follow ?_) _
    exact ⟨h.index, h.buffer, h.driven⟩

theorem startHome_follow {c : Channel} (h : CoilsFollow c) : CoilsFollow c.startHome := by
  have k : CoilsFollow ({ c with state := .homing, referenced := false, heldHome := false }.energize) :=
    energize_follow ⟨h.index, h.buffer, h.driven⟩
  unfold Channel.startHome
  simp only
  split
  · exact startBackoff_follow k
  · have j := setOff_follow k .neg
    exact ⟨j.index, j.buffer, j.driven⟩

theorem startJog_follow {c : Channel} (h : CoilsFollow c) (d : Dir) (l : Nat) : CoilsFollow (c.startJog d l).chan := by
  have k : CoilsFollow ({ c with state := .jogging, jog := some ⟨d, min l (topLevel c.table)⟩ }.energize) :=
    energize_follow ⟨h.index, h.buffer, h.driven⟩
  have j := setOff_follow k d
  unfold Channel.startJog
  simp only
  split
  · exact ⟨j.index, j.buffer, j.driven⟩
  · exact ⟨j.index, j.buffer, j.driven⟩

theorem segmentOver_follow {c : Channel} (h : CoilsFollow c) : CoilsFollow c.segmentOver.chan := by
  unfold Channel.segmentOver
  split
  · split
    · exact moveDone_follow h
    · exact beginSegment_follow h _ _
  · exact moveDone_follow h

theorem fastOver_follow {c : Channel} (h : CoilsFollow c) (x : Homing) : CoilsFollow (c.fastOver x).chan := by
  unfold Channel.fastOver
  split
  · exact startBackoff_follow h
  · exact ⟨h.index, h.buffer, h.driven⟩
  · exact h

theorem slowFast_follow {c : Channel} (h : CoilsFollow c) (x : Homing) (r : HomingRun) :
    CoilsFollow (c.slowFast x r).chan := by
  unfold Channel.slowFast
  simp only
  have k : CoilsFollow { c with homing := some { x with run := r }, ramp := decelFrom c.table c.ramp.level } :=
    ⟨h.index, h.buffer, h.driven⟩
  split
  · exact fastOver_follow k _
  · exact k

theorem stopEnd_follow {c : Channel} (h : CoilsFollow c) : CoilsFollow c.stopEnd.chan := by
  unfold Channel.stopEnd Channel.stopped
  split <;> (try split) <;> (try split) <;> exact ⟨h.index, h.buffer, h.driven⟩

/-- A microstep drives the entry it moves to, whatever the coils carried. -/
theorem microstep_follow {c : Channel} (h : CoilsFollow c) : CoilsFollow c.microstep :=
  ⟨h.buffer, nextEntry_lt _ _, fun _ => ⟨rfl, rfl⟩⟩

theorem moveStep_follow {c : Channel} (h : CoilsFollow c) : CoilsFollow c.moveStep.chan := by
  have k := microstep_follow h
  unfold Channel.moveStep
  simp only
  split
  · refine segmentOver_follow ?_
    exact ⟨k.index, k.buffer, k.driven⟩
  · exact ⟨k.index, k.buffer, k.driven⟩

theorem jogStep_follow {c : Channel} (h : CoilsFollow c) : CoilsFollow c.jogStep.chan := by
  have k := microstep_follow h
  unfold Channel.jogStep
  simp only
  split <;> exact ⟨k.index, k.buffer, k.driven⟩

theorem homeStep_follow {c : Channel} (h : CoilsFollow c) : CoilsFollow c.homeStep.chan := by
  have k := microstep_follow h
  unfold Channel.homeStep
  simp only
  split
  · exact k
  · split
    · split <;> exact ⟨k.index, k.buffer, k.driven⟩
    · split
      · split
        · refine slowFast_follow ?_ _ _
          exact ⟨k.index, k.buffer, k.driven⟩
        · exact ⟨k.index, k.buffer, k.driven⟩
      · split
        · refine fastOver_follow ?_ _
          exact ⟨k.index, k.buffer, k.driven⟩
        · exact ⟨k.index, k.buffer, k.driven⟩
      · split
        · refine fastOver_follow ?_ _
          exact ⟨k.index, k.buffer, k.driven⟩
        · exact ⟨k.index, k.buffer, k.driven⟩

theorem moveResync_follow {c : Channel} (h : CoilsFollow c) : CoilsFollow c.moveResync.chan := by
  unfold Channel.moveResync
  simp only
  split
  · exact ⟨h.index, h.buffer, h.driven⟩
  · split
    · exact segmentOver_follow h
    · split
      · exact startMove_follow h _
      · exact moveDone_follow h

theorem jogResync_follow {c : Channel} (h : CoilsFollow c) : CoilsFollow c.jogResync.chan := by
  unfold Channel.jogResync
  simp only
  split <;> exact ⟨h.index, h.buffer, h.driven⟩

theorem release_follow {c : Channel} (h : CoilsFollow c) : CoilsFollow c.release :=
  ⟨h.index, h.buffer, fun k => absurd (show false = true from k) (by decide)⟩

theorem holdTick_follow {c : Channel} (h : CoilsFollow c) : CoilsFollow c.holdTick := by
  unfold Channel.holdTick
  split
  · exact h
  · split
    · exact ⟨h.index, h.buffer, h.driven⟩
    · split
      · exact release_follow h
      · exact h

end Sys2Proof.Machine
end

