-- ==== Sys2Proof/Laws/Ports.lean ====
section
/-! SUPPORT. What raising an event, a notice, a response and the gate of a request can do (R177 to R186). -/

namespace Sys2Proof.Machine

/-! ### Port records -/

theorem PortRec.settle_attn (p : PortRec) : p.settle.attn = attnOf p.settle.flags p.settle.mask := rfl

/-- Raising a flag changes flags and the attention line alone. -/
theorem PortRec.raise_eq (p : PortRec) (e : Event) :
    p.raise e = { p with flags := p.flags ||| eventFlag e, attn := attnOf (p.flags ||| eventFlag e) p.mask } := rfl

/-- A notice changes the list and the lost mark alone. -/
theorem PortRec.notice_eq (p : PortRec) (n : Notice) :
    p.notice n =
      if p.notices.length < Config.noticeCapacity then { p with notices := p.notices ++ [n] }
      else { p with notices := p.notices.drop 1 ++ [n], lost := true } := rfl

/-- A read drives the response that it finds, then zeros. -/
theorem PortRec.read_lastRead (p : PortRec) (n : Nat) :
    (p.read n).lastRead = p.response.take n ++ List.replicate (n - p.response.length) 0 := by
  unfold PortRec.read PortRec.response drivenBytes
  cases p.unread <;> rfl

/-- SDO while the picture port takes transactions. -/
theorem sdoBit_taken {s : State} (h : portTakes s .picture = true) (first : Byte) (n : Nat) :
    sdoBit s first n = some ((sdoByte s.picPort first (n / 8)).getMsbD (n % 8)) := if_pos h

theorem sdoBit_idle {s : State} (h : portTakes s .picture = false) (first : Byte) (n : Nat) :
    sdoBit s first n = none := if_neg (by simp [h])

theorem PortSafe.settle {p : PortRec} (h : p.notices.length ≤ Config.noticeCapacity) : PortSafe p.settle :=
  ⟨rfl, h⟩

theorem PortSafe.raise {p : PortRec} (h : PortSafe p) (e : Event) : PortSafe (p.raise e) := ⟨rfl, h.notices⟩

/-- A notice and its flag keep a port safe: the list never holds more than eight (R184). -/
theorem PortSafe.noticed {p : PortRec} (h : PortSafe p) (n : Notice) (e : Event) : PortSafe ((p.notice n).raise e) := by
  refine ⟨rfl, ?_⟩
  have hn := h.notices
  simp only [PortRec.raise_eq, PortRec.notice_eq]
  split
  · simp only [List.length_append, List.length_singleton]
    omega
  · have : (p.notices.drop 1 ++ [n]).length ≤ 8 := by
      simp only [List.length_append, List.length_drop, List.length_singleton]
      simp only [Config.noticeCapacity] at hn
      omega
    exact this

/-- An unread response takes no part in a port's safety. -/
theorem PortSafe.unread {p : PortRec} (h : PortSafe p) (x : Option Response) : PortSafe { p with unread := x } :=
  ⟨h.attn, h.notices⟩

theorem PortSafe.setPort {s : State} (h : PortsSafe s) (p : Port) {r : PortRec} (hr : PortSafe r) :
    PortsSafe (s.setPort p r) := by
  intro q
  rw [State.setPort_port]
  split
  · exact hr
  · exact h q

/-! ### Raising and notifying -/

@[simp] theorem raiseOn_port_same (p : Port) (e : Event) (s : State) : (raiseOn p e s).port p = (s.port p).raise e := by
  simp [raiseOn]

theorem raiseOn_port (p q : Port) (e : Event) (s : State) :
    (raiseOn p e s).port q = if q = p then (s.port q).raise e else s.port q := by
  unfold raiseOn
  rw [State.setPort_port]
  split
  · next h => rw [h]
  · rfl

theorem raiseBoth_port (q : Port) (e : Event) (s : State) : (raiseBoth e s).port q = (s.port q).raise e := by
  cases q <;> rfl

theorem notify_port (p q : Port) (n : Notice) (s : State) :
    (notify p n s).port q = if q = p then ((s.port q).notice n).raise (noticeEvent n) else s.port q := by
  unfold notify
  rw [State.setPort_port]
  split
  · next h => rw [h]
  · rfl

theorem raiseOn_portsSafe {s : State} (h : PortsSafe s) (p : Port) (e : Event) : PortsSafe (raiseOn p e s) :=
  PortSafe.setPort h p ((h p).raise e)

theorem raiseBoth_portsSafe {s : State} (h : PortsSafe s) (e : Event) : PortsSafe (raiseBoth e s) :=
  raiseOn_portsSafe (raiseOn_portsSafe h _ e) _ e

theorem notify_portsSafe {s : State} (h : PortsSafe s) (p : Port) (n : Notice) : PortsSafe (notify p n s) :=
  PortSafe.setPort h p ((h p).noticed n _)

theorem respond_portsSafe {s : State} (h : PortsSafe s) (p : Port) (tag : Byte) (r : Reply) :
    PortsSafe (respond p tag r s) :=
  PortSafe.setPort h p ((h p).unread _)

/-! ### What these leave alone -/

/-- Two states that differ at most in their ports. -/
structure SameButPorts (s t : State) : Prop where
  pending : t.pending = s.pending
  powered : t.powered = s.powered
  resetCause : t.resetCause = s.resetCause
  addrPin : t.addrPin = s.addrPin
  addrStrap : t.addrStrap = s.addrStrap
  axes : t.axes = s.axes
  sched : t.sched = s.sched
  shift : t.shift = s.shift
  mem : t.mem = s.mem
  recallUnit : t.recallUnit = s.recallUnit
  geom : t.geom = s.geom
  banks : t.banks = s.banks
  stream : t.stream = s.stream
  divider : t.divider = s.divider
  meas : t.meas = s.meas
  cool : t.cool = s.cool
  phase : t.phase = s.phase
  track : t.track = s.track
  presence : t.presence = s.presence

theorem setPort_sameButPorts (p : Port) (r : PortRec) (s : State) : SameButPorts s (s.setPort p r) := by
  cases p <;> constructor <;> rfl

theorem SameButPorts.trans {s t u : State} (h : SameButPorts s t) (k : SameButPorts t u) : SameButPorts s u := by
  constructor
  all_goals first
    | exact k.pending.trans h.pending | exact k.powered.trans h.powered | exact k.resetCause.trans h.resetCause
    | exact k.addrPin.trans h.addrPin | exact k.addrStrap.trans h.addrStrap | exact k.axes.trans h.axes
    | exact k.sched.trans h.sched | exact k.shift.trans h.shift | exact k.mem.trans h.mem
    | exact k.recallUnit.trans h.recallUnit | exact k.geom.trans h.geom | exact k.banks.trans h.banks
    | exact k.stream.trans h.stream | exact k.divider.trans h.divider | exact k.meas.trans h.meas
    | exact k.cool.trans h.cool | exact k.phase.trans h.phase | exact k.track.trans h.track
    | exact k.presence.trans h.presence

theorem raiseOn_sameButPorts (p : Port) (e : Event) (s : State) : SameButPorts s (raiseOn p e s) :=
  setPort_sameButPorts _ _ _

theorem raiseBoth_sameButPorts (e : Event) (s : State) : SameButPorts s (raiseBoth e s) :=
  (raiseOn_sameButPorts .system e s).trans (raiseOn_sameButPorts .picture e _)

theorem notify_sameButPorts (p : Port) (n : Notice) (s : State) : SameButPorts s (notify p n s) :=
  setPort_sameButPorts _ _ _

theorem respond_sameButPorts (p : Port) (tag : Byte) (r : Reply) (s : State) : SameButPorts s (respond p tag r s) :=
  setPort_sameButPorts _ _ _

/-! ### The gate of a request -/

/-- A request that its port takes and that is allowed there. -/
theorem request_taken {r : Req} {c : Privilege} {s : State} (h : Takes s r c) (f : State → State × Reply) :
    request r c s f = .next (answered r (f s).2 (f s).1) := by
  simp [request, h.1, h.2, answered]

/-- A request on a port where its kind is not allowed (check 4 of R178). -/
theorem request_denied {r : Req} {c : Privilege} {s : State} (h : portTakes s r.port = true)
    (k : allowedOn c r.port = false) (f : State → State × Reply) :
    request r c s f = .next (answered r (refuse .denied) s) := by
  simp [request, h, k, answered]

/-- A request on a port that takes none (R177). -/
theorem request_ignored {r : Req} {c : Privilege} {s : State} (h : portTakes s r.port = false)
    (f : State → State × Reply) : request r c s f = .next s := by
  simp [request, h]

/-- A request that only reads, on a port that takes it. -/
theorem reading_taken {r : Req} {s : State} (h : portTakes s r.port = true) (f : State → Reply) :
    reading r s f = .next (answered r (f s) s) := request_taken ⟨h, rfl⟩ _

theorem reading_ignored {r : Req} {s : State} (h : portTakes s r.port = false) (f : State → Reply) :
    reading r s f = .next s := request_ignored h _

theorem reading_next (r : Req) (s : State) (f : State → Reply) : ∃ t, reading r s f = .next t := by
  unfold reading request
  split
  · split <;> exact ⟨_, rfl⟩
  · exact ⟨_, rfl⟩

/-- A request only ever answers a next state. -/
theorem request_next (r : Req) (c : Privilege) (s : State) (f : State → State × Reply) :
    ∃ t, request r c s f = .next t := by
  unfold request
  split
  · split <;> exact ⟨_, rfl⟩
  · exact ⟨_, rfl⟩

/-- An event only ever answers a next state. -/
theorem event_next (s : State) (f : State → State) : ∃ t, event s f = .next t := by
  unfold event
  split <;> exact ⟨_, rfl⟩

theorem event_taken {s : State} (h : s.powered = true) (f : State → State) : event s f = .next (f s) := by
  simp [event, h]

/-- Every fact that a request's own rules keep and that does not look at a port's unread response is kept by the
request. -/
theorem request_keeps {P : State → Prop} {r : Req} {c : Privilege} {s t : State} {f : State → State × Reply}
    (hp : P s) (hf : P s → P (f s).1) (hr : ∀ u x, P u → P (respond r.port r.tag x u))
    (h : request r c s f = .next t) : P t := by
  unfold request at h
  split at h
  · split at h
    · cases h
      exact hr _ _ (hf hp)
    · cases h
      exact hr _ _ hp
  · cases h
    exact hp

theorem event_keeps {P : State → Prop} {s t : State} {f : State → State} (hp : P s) (hf : P s → P (f s))
    (h : event s f = .next t) : P t := by
  unfold event at h
  split at h
  · cases h
    exact hf hp
  · cases h
    exact hp

end Sys2Proof.Machine
end

