-- ==== Sys2Proof/Laws/MotionFrame.lean ====
section
/-! SUPPORT. What the motion side of the part (axis channels, scheduler, shift and memory unit, recall context, tracker
record, park outcome) can do to everything else, said once as a relation and shown for each shared operation. -/

namespace Sys2Proof.Machine

/-- What every shared operation of the motion side keeps, from `s` to `t`. -/
structure MotionFrame (s t : State) : Prop where
  pending : t.pending = s.pending
  powered : t.powered = s.powered
  resetCause : t.resetCause = s.resetCause
  addrPin : t.addrPin = s.addrPin
  addrStrap : t.addrStrap = s.addrStrap
  mem : t.mem = s.mem
  stream : t.stream = s.stream
  divider : t.divider = s.divider
  meas : t.meas = s.meas
  cool : t.cool = s.cool
  presence : t.presence = s.presence
  phase : { t.phase with park := s.phase.park, parkSet := s.phase.parkSet, parkClean := s.phase.parkClean } = s.phase
  dieAllow : t.sched.dieAllow = s.sched.dieAllow
  orientation : t.geom.inputs.orientation = s.geom.inputs.orientation
  w : t.geom.inputs.w = s.geom.inputs.w
  h : t.geom.inputs.h = s.geom.inputs.h
  g : t.geom.inputs.g = s.geom.inputs.g
  live : t.banks.live = s.banks.live
  mask : ∀ p, (t.port p).mask = (s.port p).mask
  unit : ∀ p, (t.port p).unit = (s.port p).unit
  unread : ∀ p, (t.port p).unread = (s.port p).unread
  lastRead : ∀ p, (t.port p).lastRead = (s.port p).lastRead
  ports : PortsSafe s → PortsSafe t
  engine : EngineSafe s → EngineSafe t
  excess : ExcessAgrees s → ExcessAgrees t
  limit : t.track.limit = s.track.limit
  offset : OffsetWithin s → OffsetWithin t

theorem MotionFrame.refl (s : State) : MotionFrame s s where
  pending := rfl
  powered := rfl
  resetCause := rfl
  addrPin := rfl
  addrStrap := rfl
  mem := rfl
  stream := rfl
  divider := rfl
  meas := rfl
  cool := rfl
  presence := rfl
  phase := rfl
  dieAllow := rfl
  orientation := rfl
  w := rfl
  h := rfl
  g := rfl
  live := rfl
  mask _ := rfl
  unit _ := rfl
  unread _ := rfl
  lastRead _ := rfl
  ports := id
  engine := id
  excess := id
  limit := rfl
  offset := id

/-- Phase records that agree but for the park outcome. -/
theorem phase_trans {p q r : PhaseRec}
    (h : { q with park := p.park, parkSet := p.parkSet, parkClean := p.parkClean } = p)
    (k : { r with park := q.park, parkSet := q.parkSet, parkClean := q.parkClean } = q) :
    { r with park := p.park, parkSet := p.parkSet, parkClean := p.parkClean } = p := by
  obtain ⟨⟩ := p
  obtain ⟨⟩ := q
  obtain ⟨⟩ := r
  simp_all

theorem MotionFrame.trans {s t u : State} (h : MotionFrame s t) (k : MotionFrame t u) : MotionFrame s u where
  pending := k.pending.trans h.pending
  powered := k.powered.trans h.powered
  resetCause := k.resetCause.trans h.resetCause
  addrPin := k.addrPin.trans h.addrPin
  addrStrap := k.addrStrap.trans h.addrStrap
  mem := k.mem.trans h.mem
  stream := k.stream.trans h.stream
  divider := k.divider.trans h.divider
  meas := k.meas.trans h.meas
  cool := k.cool.trans h.cool
  presence := k.presence.trans h.presence
  phase := phase_trans h.phase k.phase
  dieAllow := k.dieAllow.trans h.dieAllow
  orientation := k.orientation.trans h.orientation
  w := k.w.trans h.w
  h := k.h.trans h.h
  g := k.g.trans h.g
  live := k.live.trans h.live
  mask p := (k.mask p).trans (h.mask p)
  unit p := (k.unit p).trans (h.unit p)
  unread p := (k.unread p).trans (h.unread p)
  lastRead p := (k.lastRead p).trans (h.lastRead p)
  ports x := k.ports (h.ports x)
  engine x := k.engine (h.engine x)
  excess x := k.excess (h.excess x)
  limit := k.limit.trans h.limit
  offset x := k.offset (h.offset x)

/-- A fold of operations that each keep the frame. -/
theorem MotionFrame.foldl {α : Type} {f : State → α → State} (hf : ∀ s x, MotionFrame s (f s x)) (l : List α)
    (s : State) : MotionFrame s (l.foldl f s) := by
  induction l generalizing s with
  | nil => exact .refl s
  | cons x l ih => exact (hf s x).trans (ih _)

/-! ### Writes -/

theorem setChan_frame (a : Axis) (c : Channel) (s : State) : MotionFrame s (s.setChan a c) :=
  { MotionFrame.refl s with }

theorem withSched_frame {s : State} {q : Scheduler} (h : q.dieAllow = s.sched.dieAllow) :
    MotionFrame s (s.withSched q) :=
  { MotionFrame.refl s with dieAllow := h }

theorem withRecall_frame (s : State) (x : RecallUnit) : MotionFrame s (s.withRecall x) := { MotionFrame.refl s with }

theorem withTrack_frame {s : State} {x : Tracker} (hl : x.limit = s.track.limit)
    (ho : s.track.applied.natAbs ≤ s.track.limit → x.applied.natAbs ≤ x.limit) : MotionFrame s (s.withTrack x) :=
  { MotionFrame.refl s with limit := hl, offset := ho }

theorem withPhase_frame {s : State} {x : PhaseRec}
    (h : { x with park := s.phase.park, parkSet := s.phase.parkSet, parkClean := s.phase.parkClean } = s.phase) :
    MotionFrame s (s.withPhase x) :=
  { MotionFrame.refl s with phase := h }

/-- A change of a port that keeps what the motion side keeps of it. -/
theorem setPort_frame {s : State} {p : Port} {r : PortRec} (hm : r.mask = (s.port p).mask) (hu : r.unit = (s.port p).unit)
    (hr : r.unread = (s.port p).unread) (hl : r.lastRead = (s.port p).lastRead)
    (hs : PortSafe (s.port p) → PortSafe r) : MotionFrame s (s.setPort p r) := by
  have k := setPort_sameButPorts p r s
  refine
    { pending := k.pending, powered := k.powered, resetCause := k.resetCause, addrPin := k.addrPin
      addrStrap := k.addrStrap, mem := k.mem, stream := k.stream, divider := k.divider, meas := k.meas
      cool := k.cool, presence := k.presence, phase := by rw [k.phase], dieAllow := by rw [k.sched]
      orientation := by rw [k.geom], w := by rw [k.geom], h := by rw [k.geom], g := by rw [k.geom]
      live := by rw [k.banks], mask := ?_, unit := ?_, unread := ?_, lastRead := ?_, ports := ?_
      engine := fun h => by unfold EngineSafe at *; rw [k.geom, k.banks]; exact h
      excess := fun h => by unfold ExcessAgrees at *; rw [k.geom, k.shift]; exact h
      limit := by rw [k.track], offset := fun h => by unfold OffsetWithin at *; rw [k.track]; exact h }
  · intro q
    rw [State.setPort_port]
    split
    · next e => rw [e, hm]
    · rfl
  · intro q
    rw [State.setPort_port]
    split
    · next e => rw [e, hu]
    · rfl
  · intro q
    rw [State.setPort_port]
    split
    · next e => rw [e, hr]
    · rfl
  · intro q
    rw [State.setPort_port]
    split
    · next e => rw [e, hl]
    · rfl
  · exact fun h => PortSafe.setPort h p (hs (h p))

theorem raiseOn_frame (p : Port) (e : Event) (s : State) : MotionFrame s (raiseOn p e s) :=
  setPort_frame rfl rfl rfl rfl fun h => h.raise e

theorem raiseBoth_frame (e : Event) (s : State) : MotionFrame s (raiseBoth e s) :=
  (raiseOn_frame .system e s).trans (raiseOn_frame .picture e _)

theorem PortRec.notice_keeps (p : PortRec) (n : Notice) :
    (p.notice n).mask = p.mask ∧ (p.notice n).unit = p.unit ∧ (p.notice n).unread = p.unread
      ∧ (p.notice n).lastRead = p.lastRead := by
  rw [PortRec.notice_eq]
  split <;> exact ⟨rfl, rfl, rfl, rfl⟩

theorem notify_frame (p : Port) (n : Notice) (s : State) : MotionFrame s (notify p n s) :=
  setPort_frame (PortRec.notice_keeps _ n).1 (PortRec.notice_keeps _ n).2.1 (PortRec.notice_keeps _ n).2.2.1
    (PortRec.notice_keeps _ n).2.2.2 fun h => h.noticed n _

/-! ### Geometry inputs -/

/-- The start of a compute keeps EngineSafe when the bank is not live and no other bank is FILLING. -/
theorem startCompute_engine {s : State} {n : BankName} (hl : s.banks.live ≠ some n)
    (hf : ∀ m, (s.banks.get m).state = .filling → m = n) : EngineSafe (startCompute n s) := by
  refine ⟨n, rfl, ?_, ?_⟩
  · simpa [startCompute, Banks.mark] using hl
  · intro m hm
    simp only [startCompute, State.withBanks_banks, Banks.mark, Banks.get_set] at hm
    split at hm
    · assumption
    · exact hf m hm

theorem startCompute_frame {s : State} {n : BankName} (h : EngineSafe s → EngineSafe (startCompute n s)) :
    MotionFrame s (startCompute n s) :=
  { MotionFrame.refl s with
    live := by simp [startCompute, Banks.mark]
    engine := h }

theorem Banks.shadow_not_live (b : Banks) : b.live ≠ some b.shadow := by
  unfold Banks.shadow
  split <;> simp_all

/-- A recompute request, whatever the engine does with it (R84). -/
theorem recompute_frame (s : State) : MotionFrame s (recompute s) := by
  unfold recompute
  split
  · next he =>
    refine startCompute_frame fun h => startCompute_engine (Banks.shadow_not_live _) fun m hm => ?_
    simp only [EngineSafe, he] at h
    exact absurd hm (h m)
  · next he =>
    refine { MotionFrame.refl s with engine := fun h => ?_ }
    simp only [EngineSafe, he, State.withGeom_geom, State.withGeom_banks] at h ⊢
    exact h
  · next he =>
    refine startCompute_frame fun h => ?_
    simp only [EngineSafe, he] at h
    obtain ⟨n, hn, hl, hf⟩ := h
    rw [hn]
    exact startCompute_engine hl fun m hm => absurd hm (hf m)

/-- A recompute request keeps the inputs. -/
theorem recompute_inputs (s : State) : (recompute s).geom.inputs = s.geom.inputs := by
  unfold recompute
  split <;> rfl

theorem recompute_shift (s : State) : (recompute s).shift = s.shift := by
  unfold recompute
  split <;> rfl

/-- A write of the inputs leaves exactly the value written. -/
theorem writeInputs_inputs (x : Inputs) (s : State) : (writeInputs x s).geom.inputs = x := by
  unfold writeInputs
  split
  · next h => exact h.symm
  · rw [recompute_inputs]
    rfl

theorem writeInputs_shift (x : Inputs) (s : State) : (writeInputs x s).shift = s.shift := by
  unfold writeInputs
  split
  · rfl
  · rw [recompute_shift]
    rfl

/-- What a write of the inputs keeps, but for the excess it may break. -/
theorem writeInputs_frame {s : State} {x : Inputs} (ho : x.orientation = s.geom.inputs.orientation)
    (hw : x.w = s.geom.inputs.w) (hh : x.h = s.geom.inputs.h) (hg : x.g = s.geom.inputs.g)
    (he : ExcessAgrees s → x.excessH = s.shift.sh.excess ∧ x.excessV = s.shift.sv.excess) :
    MotionFrame s (writeInputs x s) := by
  have hx : ExcessAgrees s → ExcessAgrees (writeInputs x s) := fun h => by
    unfold ExcessAgrees
    rw [writeInputs_inputs, writeInputs_shift]
    exact he h
  unfold writeInputs at hx ⊢
  split
  · exact .refl s
  · next hne =>
    rw [if_neg hne] at hx
    have k := recompute_frame (s.withGeom { s.geom with inputs := x })
    exact
      { k with
        orientation := k.orientation.trans ho, w := k.w.trans hw, h := k.h.trans hh, g := k.g.trans hg
        engine := fun h => k.engine h
        excess := hx }

/-! ### Shift demand records -/

theorem writeDemand_frame (a : Axis) (d : DemandRec) (s : State) : MotionFrame s (writeDemand a d s) := by
  unfold writeDemand
  have hx : ExcessAgrees s → ExcessAgrees (writeInputs (s.geom.inputs.withExcess a d.excess) (s.withShift (s.shift.set a d))) := by
    intro h
    unfold ExcessAgrees at *
    rw [writeInputs_inputs, writeInputs_shift]
    cases a <;> simp only [Inputs.withExcess, ShiftUnit.set, State.withShift_shift]
    · exact ⟨trivial, h.2⟩
    · exact ⟨h.1, trivial⟩
    · exact h
    · exact h
  unfold writeInputs at hx ⊢
  split
  · next he =>
    rw [if_pos he] at hx
    exact { MotionFrame.refl s with excess := hx }
  · next hne =>
    rw [if_neg hne] at hx
    have k := recompute_frame
      ((s.withShift (s.shift.set a d)).withGeom
        { (s.withShift (s.shift.set a d)).geom with inputs := s.geom.inputs.withExcess a d.excess })
    refine
      { k with
        orientation := k.orientation.trans ?_, w := k.w.trans ?_, h := k.h.trans ?_, g := k.g.trans ?_
        engine := fun h => k.engine h
        excess := hx }
    all_goals cases a <;> rfl

theorem uncurrent_frame (a : Axis) (s : State) : MotionFrame s (uncurrent a s) := by
  unfold uncurrent
  split
  · next d h =>
    refine { MotionFrame.refl s with excess := fun k => ?_ }
    unfold ExcessAgrees at *
    cases a <;> simp_all [ShiftUnit.get, ShiftUnit.set]
  · exact .refl s

end Sys2Proof.Machine
end

