-- ==== Sys2Proof/Laws/Delivery.lean ====
section
/-! SUPPORT. What delivering an ending can do (R34, R54, R66, R67, R157, R171, R172): it leaves every axis channel and
the scheduler as they are. -/

namespace Sys2Proof.Machine

/-- The motion frame, with the channels and the scheduler unchanged. -/
structure DeliveryFrame (s t : State) : Prop where
  frame : MotionFrame s t
  axes : t.axes = s.axes
  sched : t.sched = s.sched

theorem DeliveryFrame.refl (s : State) : DeliveryFrame s s := ⟨.refl s, rfl, rfl⟩

theorem DeliveryFrame.trans {s t u : State} (h : DeliveryFrame s t) (k : DeliveryFrame t u) : DeliveryFrame s u :=
  ⟨h.frame.trans k.frame, k.axes.trans h.axes, k.sched.trans h.sched⟩

/-! ### Shift and memory unit -/

theorem recompute_axes (s : State) : (recompute s).axes = s.axes := by
  unfold recompute
  split <;> rfl

theorem recompute_sched (s : State) : (recompute s).sched = s.sched := by
  unfold recompute
  split <;> rfl

theorem writeInputs_axes (x : Inputs) (s : State) : (writeInputs x s).axes = s.axes := by
  unfold writeInputs
  split
  · rfl
  · rw [recompute_axes]
    rfl

theorem writeInputs_sched (x : Inputs) (s : State) : (writeInputs x s).sched = s.sched := by
  unfold writeInputs
  split
  · rfl
  · rw [recompute_sched]
    rfl

theorem writeDemand_delivery (a : Axis) (d : DemandRec) (s : State) : DeliveryFrame s (writeDemand a d s) :=
  ⟨writeDemand_frame a d s, by simp [writeDemand, writeInputs_axes], by simp [writeDemand, writeInputs_sched]⟩

theorem uncurrent_delivery (a : Axis) (s : State) : DeliveryFrame s (uncurrent a s) := by
  refine ⟨uncurrent_frame a s, ?_, ?_⟩ <;> unfold uncurrent <;> split <;> rfl

theorem shiftEnding_delivery (a : Axis) (m : MotionRec) (e : Ending) (s : State) :
    DeliveryFrame s (shiftEnding a m e s) := by
  unfold shiftEnding
  split
  · split
    · exact writeDemand_delivery _ _ _
    · exact .refl s
  · exact .refl s

theorem notify_delivery (p : Port) (n : Notice) (s : State) : DeliveryFrame s (notify p n s) :=
  ⟨notify_frame p n s, (notify_sameButPorts p n s).axes, (notify_sameButPorts p n s).sched⟩

theorem withRecall_delivery (s : State) (x : RecallUnit) : DeliveryFrame s (s.withRecall x) :=
  ⟨withRecall_frame s x, rfl, rfl⟩

/-- A write of the keystone (R72, R73). -/
theorem writeKeystone_delivery (kv kh : Int) (k : Bool) (s : State) :
    DeliveryFrame s (writeInputs { s.geom.inputs with kv := kv, kh := kh, keystoneClamped := k } s) :=
  ⟨writeInputs_frame rfl rfl rfl rfl id, writeInputs_axes _ _, writeInputs_sched _ _⟩

theorem closeRecall_delivery (c : RecallCtx) (s : State) : DeliveryFrame s (closeRecall c s) := by
  unfold closeRecall
  refine DeliveryFrame.trans ?_ (notify_delivery _ _ _)
  refine (withRecall_delivery s { s.recallUnit with ctx := none }).trans ?_
  split
  · exact .refl _
  · exact writeKeystone_delivery _ _ _ _

theorem recallSettle_delivery (s : State) : DeliveryFrame s (recallSettle s) := by
  unfold recallSettle
  split
  · split
    · exact .refl s
    · exact closeRecall_delivery _ _
  · exact .refl s

theorem recallEnding_delivery (a : Axis) (l : Byte) (e : Ending) (s : State) :
    DeliveryFrame s (recallEnding a l e s) := by
  unfold recallEnding
  split
  · split
    · exact (withRecall_delivery _ _).trans (recallSettle_delivery _)
    · exact .refl s
  · exact .refl s

theorem supersedeRecall_delivery (s : State) : DeliveryFrame s (supersedeRecall s) := by
  unfold supersedeRecall
  split
  · exact (withRecall_delivery _ _).trans (notify_delivery _ _ _)
  · exact .refl s

theorem cancelRecallKeystone_delivery (s : State) : DeliveryFrame s (cancelRecallKeystone s) := by
  unfold cancelRecallKeystone
  split
  · exact withRecall_delivery _ _
  · exact .refl s

/-! ### Park -/

theorem withPhase_delivery {s : State} {x : PhaseRec}
    (h : { x with park := s.phase.park, parkSet := s.phase.parkSet, parkClean := s.phase.parkClean } = s.phase) :
    DeliveryFrame s (s.withPhase x) :=
  ⟨withPhase_frame h, rfl, rfl⟩

theorem parkSettle_delivery (s : State) : DeliveryFrame s (parkSettle s) := by
  unfold parkSettle
  split
  · exact withPhase_delivery rfl
  · exact .refl s

theorem parkEnding_delivery (a : Axis) (n : Option Byte) (e : Ending) (s : State) :
    DeliveryFrame s (parkEnding a n e s) := by
  unfold parkEnding
  split
  · refine DeliveryFrame.trans ?_ (parkSettle_delivery _)
    exact withPhase_delivery rfl
  · exact .refl s

/-! ### Tracker -/

theorem clampInt_natAbs (l : Nat) (x : Int) : (clampInt (-(l : Int)) l x).natAbs ≤ l := by
  unfold clampInt
  split
  · omega
  · split <;> omega

theorem trackEnding_limit (m : MotionRec) (e : Ending) (x : Int) (t : Tracker) :
    (trackEnding m e x t).limit = t.limit := by
  unfold trackEnding
  split <;> rfl

theorem trackEnding_offset (m : MotionRec) (e : Ending) (x : Int) (t : Tracker) (h : t.applied.natAbs ≤ t.limit) :
    (trackEnding m e x t).applied.natAbs ≤ t.limit := by
  unfold trackEnding
  split <;> first | exact h | exact clampInt_natAbs _ _

theorem userFocusEnding_cases (m : MotionRec) (e : Ending) (x : Int) (t : Tracker) :
    userFocusEnding m e x t = t ∨ userFocusEnding m e x t = t.anchor (some x) := by
  unfold userFocusEnding
  split
  · split <;> first | exact .inl rfl | exact .inr rfl | (split <;> first | exact .inl rfl | exact .inr rfl)
  · split <;> first | exact .inl rfl | exact .inr rfl
  · exact .inl rfl

theorem withTrack_delivery {s : State} {x : Tracker} (hl : x.limit = s.track.limit)
    (ho : s.track.applied.natAbs ≤ s.track.limit → x.applied.natAbs ≤ x.limit) : DeliveryFrame s (s.withTrack x) :=
  ⟨withTrack_frame hl ho, rfl, rfl⟩

theorem deliverFocus_delivery (a : Axis) (m : MotionRec) (e : Ending) (s : State) :
    DeliveryFrame s (deliverFocus a m e s) := by
  unfold deliverFocus
  split
  · rcases userFocusEnding_cases m e (s.chan a).position s.track with h | h <;> rw [h]
    · exact withTrack_delivery rfl id
    · exact withTrack_delivery rfl fun _ => Nat.zero_le _
  · exact .refl s

/-! ### Delivery -/

theorem notifyMove_delivery (a : Axis) (m : MotionRec) (e : Ending) (s : State) :
    DeliveryFrame s (notifyMove a m e s) := by
  unfold notifyMove
  split
  · exact notify_delivery _ _ _
  · exact .refl s

theorem deliverTo_delivery (told : Told) (a : Axis) (m : MotionRec) (e : Ending) (s : State) :
    DeliveryFrame s (deliverTo told a m e s) := by
  unfold deliverTo
  split
  · exact recallEnding_delivery _ _ _ _
  · split
    · refine withTrack_delivery (trackEnding_limit _ _ _ _) fun h => ?_
      rw [trackEnding_limit]
      exact trackEnding_offset _ _ _ _ h
    · exact parkEnding_delivery _ _ _ _
    · split
      · exact notifyMove_delivery _ _ _ _
      · exact .refl s
    · split
      · exact notifyMove_delivery _ _ _ _
      · exact .refl s

/-- Everything a delivery can do to the parts the motion frame keeps, to the channels and to the scheduler. -/
theorem deliver_delivery (told : Told) (a : Axis) (m : MotionRec) (e : Ending) (s : State) :
    DeliveryFrame s (deliver told a m e s) :=
  ((shiftEnding_delivery a m e s).trans (deliverFocus_delivery a m e _)).trans (deliverTo_delivery told a m e _)

theorem deliverEntry_delivery (told : Told) (en : Entry) (e : Ending) (s : State) :
    DeliveryFrame s (deliverEntry told en e s) := deliver_delivery _ _ _ _ _

end Sys2Proof.Machine
end

