-- ==== Sys2Proof/Laws/Scheduling.lean ====
section
/-! SUPPORT. What each operation of the move scheduler can do (R27 to R48): the motion frame, the channels at their
places with their coils following, at most one entry an axis, and no more GRANTED slots than before or than allowed. -/

namespace Sys2Proof.Machine

/-- What every operation of the scheduler keeps, but for the count of GRANTED slots. -/
structure SchedStep (s t : State) : Prop where
  frame : MotionFrame s t
  still : ∀ a, Still (s.chan a) (t.chan a)
  coils : CoilsSafe s → CoilsSafe t
  one : OneEntry s → OneEntry t

/-- What every operation of the scheduler keeps. -/
structure SchedFrame (s t : State) : Prop where
  step : SchedStep s t
  granted : t.sched.grantedCount ≤ max s.sched.grantedCount (allowance s)

theorem SchedStep.refl (s : State) : SchedStep s s := ⟨.refl s, fun _ => .refl _, id, id⟩

theorem SchedStep.trans {s t u : State} (h : SchedStep s t) (k : SchedStep t u) : SchedStep s u :=
  ⟨h.frame.trans k.frame, fun a => (h.still a).trans (k.still a), fun x => k.coils (h.coils x), fun x => k.one (h.one x)⟩

/-- The motion allowance depends on the phase and the die allowance, which the motion frame keeps. -/
theorem MotionFrame.allowance {s t : State} (h : MotionFrame s t) : allowance t = allowance s := by
  have k : t.phase.phase = s.phase.phase := by
    have p := h.phase
    rw [← p]
  simp [Machine.allowance, k, h.dieAllow]

theorem SchedFrame.refl (s : State) : SchedFrame s s := ⟨.refl s, Nat.le_max_left _ _⟩

theorem SchedFrame.trans {s t u : State} (h : SchedFrame s t) (k : SchedFrame t u) : SchedFrame s u := by
  refine ⟨h.step.trans k.step, ?_⟩
  have a := k.granted
  rw [h.step.frame.allowance] at a
  have b := h.granted
  omega

theorem SchedFrame.foldl {α : Type} {f : State → α → State} (hf : ∀ s x, SchedFrame s (f s x)) (l : List α) (s : State) :
    SchedFrame s (l.foldl f s) := by
  induction l generalizing s with
  | nil => exact .refl s
  | cons x l ih => exact (hf s x).trans (ih _)

/-- A delivery is an operation of the scheduler that changes none of it. -/
theorem DeliveryFrame.sched_frame {s t : State} (h : DeliveryFrame s t) : SchedFrame s t := by
  have hc : ∀ a, t.chan a = s.chan a := fun a => by simp [State.chan, h.axes]
  refine ⟨⟨h.frame, fun a => ?_, fun k a => ?_, fun k => ?_⟩, ?_⟩
  · rw [hc a]
    exact .refl _
  · rw [hc a]
    exact k a
  · unfold OneEntry at *
    rw [h.sched]
    exact k
  · rw [h.sched]
    exact Nat.le_max_left _ _

/-- Writing a scheduler that keeps the die allowance, has no doubled axis and grants no more. -/
theorem withSched_sched {s : State} {q : Scheduler} (hd : q.dieAllow = s.sched.dieAllow)
    (ho : OneEntry s → (q.queue.map (·.axis)).Nodup) (hg : q.grantedCount ≤ s.sched.grantedCount) :
    SchedFrame s (s.withSched q) :=
  ⟨⟨withSched_frame hd, fun _ => .refl _, id, ho⟩, Nat.le_trans hg (Nat.le_max_left _ _)⟩

/-- Writing a channel at the same place whose coils follow. -/
theorem setChan_sched {s : State} {a : Axis} {c : Channel} (h : Still (s.chan a) c)
    (hc : CoilsFollow (s.chan a) → CoilsFollow c) : SchedFrame s (s.setChan a c) := by
  refine ⟨⟨setChan_frame a c s, fun b => ?_, fun k b => ?_, id⟩, Nat.le_max_left _ _⟩
  · rw [State.setChan_chan]
    split
    · next e => rw [e]; exact h
    · exact .refl _
  · rw [State.setChan_chan]
    split
    · exact hc (k a)
    · exact k b

/-! ### The queue -/

theorem queue_filter_nodup {l : List Entry} (p : Entry → Bool) (h : (l.map (·.axis)).Nodup) :
    ((l.filter p).map (·.axis)).Nodup :=
  h.sublist ((List.filter_sublist).map _)

theorem queue_rewrite_axes (l : List Entry) (en : Entry) :
    (l.map fun e => if e.axis = en.axis then en else e).map (·.axis) = l.map (·.axis) := by
  rw [List.map_map]
  apply List.map_congr_left
  intro e _
  simp only [Function.comp]
  split
  · next h => exact h.symm
  · rfl

theorem queue_append_nodup {q : Scheduler} {en : Entry} (h : (q.queue.map (·.axis)).Nodup)
    (hn : q.entryOf en.axis = none) : (((q.append en).queue).map (·.axis)).Nodup := by
  simp only [Scheduler.append, List.map_append, List.map_cons, List.map_nil]
  rw [List.nodup_append]
  refine ⟨h, by simp, ?_⟩
  intro x hx y hy e
  simp only [List.mem_singleton] at hy
  subst hy
  subst e
  obtain ⟨e, he, hxe⟩ := List.mem_map.mp hx
  simp only [Scheduler.entryOf, List.find?_eq_none] at hn
  have := hn e he
  simp [hxe] at this

/-! ### Slots -/

theorem freed_grantee (a : Axis) (sl : Slot) : (sl.freed a).grantee.isSome.toNat ≤ sl.grantee.isSome.toNat := by
  unfold Slot.freed
  split
  · simp [Slot.grantee]
  · exact Nat.le_refl _

theorem runDown_grantee (a : Axis) (sl : Slot) : (sl.runDown a).grantee.isSome.toNat ≤ sl.grantee.isSome.toNat := by
  unfold Slot.runDown
  split
  · simp [Slot.grantee]
  · exact Nat.le_refl _

theorem freeSlot_count (q : Scheduler) (a : Axis) : (q.freeSlot a).grantedCount ≤ q.grantedCount :=
  Nat.add_le_add (freed_grantee a q.slot1) (freed_grantee a q.slot2)

theorem runDownSlot_count (q : Scheduler) (a : Axis) : (q.runDownSlot a).grantedCount ≤ q.grantedCount :=
  Nat.add_le_add (runDown_grantee a q.slot1) (runDown_grantee a q.slot2)

/-- Taking a slot grants at most one more. -/
theorem takeSlot_count (q : Scheduler) (a : Axis) : (q.takeSlot a).grantedCount ≤ q.grantedCount + 1 := by
  unfold Scheduler.takeSlot
  split
  · next h => simp [Scheduler.grantedCount, h, Slot.grantee]; omega
  · simp [Scheduler.grantedCount, Slot.grantee]

/-! ### Endings -/

theorem deliverRecord_sched (a : Axis) (e : Ending) (s : State) : SchedFrame s (deliverRecord a e s) := by
  unfold deliverRecord
  split
  · refine SchedFrame.trans ?_ (deliver_delivery _ _ _ _ _).sched_frame
    exact withSched_sched rfl id (Nat.le_refl _)
  · exact .refl s

/-- An end of motion, beyond the channel it writes. -/
theorem endMotion_sched (a : Axis) (c : Channel) (e : Ending) (s : State) :
    SchedFrame (s.setChan a c) (endMotion a c e s) := by
  unfold endMotion
  refine SchedFrame.trans ?_ (deliverRecord_sched _ _ _)
  exact withSched_sched rfl id (freeSlot_count _ _)

/-- A settled grant or step, beyond the channel it writes. -/
theorem settleMotion_sched (a : Axis) (p : Progress) (s : State) :
    SchedFrame (s.setChan a p.chan) (settleMotion a p s) := by
  cases p with
  | running c => exact .refl _
  | ended c e => exact endMotion_sched a c e s

/-! ### Grants -/

theorem grantEntry_step (en : Entry) (s : State) : SchedStep s (grantEntry en s) := by
  have hq : ∀ (q : Scheduler), q.dieAllow = s.sched.dieAllow → (OneEntry s → (q.queue.map (·.axis)).Nodup) →
      SchedStep s (s.withSched q) := fun q hd ho => ⟨withSched_frame hd, fun _ => .refl _, id, ho⟩
  have h1 : SchedStep s (s.withSched
      (((s.sched.without en.axis).setRecord en.axis
        (some (recordOf en true ((s.chan en.axis).from en.origin).position))).takeSlot en.axis)) := by
    apply hq
    · unfold Scheduler.takeSlot
      split <;> rfl
    · intro h
      unfold Scheduler.takeSlot
      split <;> exact queue_filter_nodup _ h
  unfold grantEntry
  simp only
  refine SchedStep.trans h1 ?_
  split
  · next t _ =>
    refine SchedStep.trans ?_ (settleMotion_sched _ _ _).step
    refine (setChan_sched ?_ ?_).step
    · exact (from_still _ _).trans (startMove_still _ t)
    · exact fun h => startMove_follow (from_follow h _) t
  · refine (setChan_sched ?_ ?_).step
    · exact (from_still _ _).trans (startHome_still _)
    · exact fun h => startHome_follow (from_follow h _)
  · next d l _ _ =>
    refine SchedStep.trans ?_ (settleMotion_sched _ _ _).step
    refine (setChan_sched ?_ ?_).step
    · exact (from_still _ _).trans (startJog_still _ d l)
    · exact fun h => startJog_follow (from_follow h _) d l

/-- A grant of an entry leaves at most one more GRANTED slot, when the count is below the allowance. -/
theorem grantEntry_count (en : Entry) (s : State) (h : s.sched.grantedCount < allowance s) :
    (grantEntry en s).sched.grantedCount ≤ allowance s := by
  have ht := takeSlot_count
    ((s.sched.without en.axis).setRecord en.axis
      (some (recordOf en true ((s.chan en.axis).from en.origin).position))) en.axis
  have hw : ((s.sched.without en.axis).setRecord en.axis
      (some (recordOf en true ((s.chan en.axis).from en.origin).position))).grantedCount = s.sched.grantedCount := rfl
  rw [hw] at ht
  have ha : ∀ (q : Scheduler), q.dieAllow = s.sched.dieAllow → allowance (s.withSched q) = allowance s := fun q hd => by
    simp [allowance, hd]
  have hd : (((s.sched.without en.axis).setRecord en.axis
      (some (recordOf en true ((s.chan en.axis).from en.origin).position))).takeSlot en.axis).dieAllow
        = s.sched.dieAllow := by
    unfold Scheduler.takeSlot
    split <;> rfl
  unfold grantEntry
  simp only
  split
  · refine Nat.le_trans (settleMotion_sched _ _ _).granted (Nat.max_le.mpr ⟨?_, ?_⟩)
    · simp only [State.setChan_sched, State.withSched_sched]
      omega
    · exact Nat.le_of_eq (ha _ hd)
  · simp only [State.setChan_sched, State.withSched_sched]
    omega
  · refine Nat.le_trans (settleMotion_sched _ _ _).granted (Nat.max_le.mpr ⟨?_, ?_⟩)
    · simp only [State.setChan_sched, State.withSched_sched]
      omega
    · exact Nat.le_of_eq (ha _ hd)

theorem resume_step (a : Axis) (s : State) : SchedStep s (resume a s) := by
  unfold resume
  simp only
  split
  · exact ⟨withSched_frame rfl, fun _ => .refl _, id, id⟩
  · next m _ =>
    have h1 : SchedStep s (s.withSched
        ((s.sched.unheld a).takeSlot a)) := by
      refine ⟨withSched_frame ?_, fun _ => .refl _, id, fun h => ?_⟩
      · unfold Scheduler.takeSlot
        split <;> rfl
      · have : ∀ q : Scheduler, (q.takeSlot a).queue = q.queue := fun q => by
          unfold Scheduler.takeSlot
          split <;> rfl
        unfold OneEntry
        rw [State.withSched_sched, this]
        exact h
    refine SchedStep.trans h1 ?_
    split
    · refine (setChan_sched ?_ ?_).step
      · exact (from_still _ _).trans (startHome_still _)
      · exact fun h => startHome_follow (from_follow h _)
    · split
      · next t _ =>
        refine SchedStep.trans ?_ (settleMotion_sched _ _ _).step
        refine (setChan_sched ?_ ?_).step
        · exact (from_still _ _).trans (startMove_still _ t)
        · exact fun h => startMove_follow (from_follow h _) t
      · exact .refl _

theorem resume_count (a : Axis) (s : State) (h : s.sched.grantedCount < allowance s) :
    (resume a s).sched.grantedCount ≤ allowance s := by
  have hd : ∀ q : Scheduler, (q.takeSlot a).dieAllow = q.dieAllow := fun q => by
    unfold Scheduler.takeSlot
    split <;> rfl
  have ha : ∀ (q : Scheduler), q.dieAllow = s.sched.dieAllow → allowance (s.withSched q) = allowance s := fun q hd => by
    simp [allowance, hd]
  unfold resume
  simp only
  split
  · exact Nat.le_of_lt h
  · next m _ =>
    have ht := takeSlot_count
      (s.sched.unheld a) a
    have hw : (s.sched.unheld a).grantedCount = s.sched.grantedCount := rfl
    rw [hw] at ht
    split
    · simp only [State.setChan_sched, State.withSched_sched]
      omega
    · split
      · refine Nat.le_trans (settleMotion_sched _ _ _).granted (Nat.max_le.mpr ⟨?_, ?_⟩)
        · simp only [State.setChan_sched, State.withSched_sched]
          omega
        · refine Nat.le_of_eq (ha _ ?_)
          exact hd _
      · simp only [State.withSched_sched]
        omega

theorem grantPassN_sched (n : Nat) (s : State) : SchedFrame s (grantPassN n s) := by
  induction n generalizing s with
  | zero => exact .refl s
  | succ n ih =>
    unfold grantPassN
    split
    · next hc =>
      have hlt : s.sched.grantedCount < allowance s := by
        simp only [Bool.and_eq_true, decide_eq_true_eq] at hc
        exact hc.2
      split
      · next a _ _ =>
        refine SchedFrame.trans ⟨resume_step a s, ?_⟩ (ih _)
        exact Nat.le_trans (resume_count a s hlt) (Nat.le_max_right _ _)
      · split
        · next en _ =>
          refine SchedFrame.trans ⟨grantEntry_step en s, ?_⟩ (ih _)
          exact Nat.le_trans (grantEntry_count en s hlt) (Nat.le_max_right _ _)
        · exact .refl s
    · exact .refl s

/-- Everything a grant pass can do. -/
theorem grantPass_sched (s : State) : SchedFrame s (grantPass s) := grantPassN_sched _ s

/-! ### Stops -/

theorem enterHeld_sched (a : Axis) (c : Channel) (s : State) : SchedFrame (s.setChan a c) (enterHeld a c s) := by
  unfold enterHeld
  simp only
  have h1 : SchedFrame (s.setChan a c) ((s.setChan a c).withSched ((s.setChan a c).sched.freeSlot a)) :=
    withSched_sched rfl id (freeSlot_count _ _)
  split
  · refine SchedFrame.trans (h1.trans ?_) (grantPass_sched _)
    exact withSched_sched rfl id (Nat.le_refl _)
  · refine SchedFrame.trans (h1.trans ?_) (grantPass_sched _)
    refine SchedFrame.trans ?_ (deliverRecord_sched _ _ _)
    have e : ((s.setChan a c).withSched ((s.setChan a c).sched.freeSlot a)).chan a = c := by simp
    refine setChan_sched ?_ fun h => ?_
    · rw [e]
      exact (dropHeld_still c).trans (heldEnded_still _ _ _)
    · rw [e] at h
      exact heldEnded_follow (dropHeld_follow h) _ _

theorem finishStop_sched (a : Axis) (s : State) : SchedFrame s (finishStop a s) := by
  have key : ∀ c, c = (s.chan a).stopEnd.chan → SchedFrame s (s.setChan a c) := by
    intro c h
    subst h
    exact setChan_sched (stopEnd_still _) stopEnd_follow
  unfold finishStop
  split
  · next c e he =>
    refine SchedFrame.trans ?_ (grantPass_sched _)
    exact (key c (by rw [he]; rfl)).trans (endMotion_sched _ _ _ _)
  · next c he => exact (key c (by rw [he]; rfl)).trans (enterHeld_sched a c s)

/-- Everything the order of a stop can do. -/
theorem orderStop_sched (a : Axis) (k : StopCause) (s : State) : SchedFrame s (orderStop a k s) := by
  unfold orderStop
  simp only
  have h1 : SchedFrame s ((s.setChan a ((s.chan a).stopping k)).withSched (s.sched.runDownSlot a)) := by
    have h0 : SchedFrame s (s.setChan a ((s.chan a).stopping k)) :=
      setChan_sched (stopping_still _ k) fun h => stopping_follow h k
    exact h0.trans (withSched_sched rfl id (runDownSlot_count _ _))
  split
  · exact h1.trans (finishStop_sched _ _)
  · exact h1

theorem withdrawOne_sched (s : State) : SchedFrame s (withdrawOne s) := by
  unfold withdrawOne
  split
  · split
    · exact orderStop_sched _ _ _
    · exact .refl s
  · exact .refl s

theorem allowanceChanged_sched (old : Nat) (s : State) : SchedFrame s (allowanceChanged old s) := by
  unfold allowanceChanged
  split
  · exact grantPass_sched s
  · exact (withdrawOne_sched s).trans (withdrawOne_sched _)

theorem dropHeldMotion_sched (a : Axis) (e : Ending) (s : State) : SchedFrame s (dropHeldMotion a e s) := by
  unfold dropHeldMotion
  simp only
  refine SchedFrame.trans ?_ (deliverRecord_sched _ _ _)
  have h0 : SchedFrame s (s.setChan a ((s.chan a).dropHeld.heldEnded e (s.sched.records.get a))) :=
    setChan_sched ((dropHeld_still _).trans (heldEnded_still _ _ _)) fun h => heldEnded_follow (dropHeld_follow h) _ _
  exact h0.trans (withSched_sched rfl id (Nat.le_refl _))

theorem removeEntry_sched (en : Entry) (e : Ending) (s : State) : SchedFrame s (removeEntry en e s) := by
  unfold removeEntry
  refine SchedFrame.trans ?_ (deliverEntry_delivery _ _ _ _).sched_frame
  exact withSched_sched rfl (queue_filter_nodup _) (Nat.le_refl _)

/-! ### Admission -/

/-- A dropped held motion leaves the queue as it was. -/
theorem dropHeldMotion_queue (a : Axis) (e : Ending) (s : State) :
    (dropHeldMotion a e s).sched.queue = s.sched.queue := by
  unfold dropHeldMotion deliverRecord
  simp only
  split
  · rw [(deliver_delivery _ _ _ _ _).sched]
    rfl
  · rfl

theorem appendEntry_sched {s : State} {en : Entry} (h : s.sched.entryOf en.axis = none) :
    SchedFrame s (s.withSched (s.sched.append en)) :=
  withSched_sched rfl (fun k => queue_append_nodup k h) (Nat.le_refl _)

theorem placeHeld_sched (en : Entry) (s : State) (h : s.sched.entryOf en.axis = none) :
    SchedFrame s (placeHeld en s) := by
  have drop : SchedFrame s ((dropHeldMotion en.axis .replaced s).withSched
      ((dropHeldMotion en.axis .replaced s).sched.append en)) := by
    refine (dropHeldMotion_sched _ _ _).trans (appendEntry_sched ?_)
    simp only [Scheduler.entryOf, dropHeldMotion_queue]
    exact h
  have replace : ∀ c : Channel, Still (s.chan en.axis) c → (CoilsFollow (s.chan en.axis) → CoilsFollow c) →
      ∀ (p : Int), SchedFrame s ((deliverRecord en.axis .replaced (s.setChan en.axis c)).withSched
        ((deliverRecord en.axis .replaced (s.setChan en.axis c)).sched.setRecord en.axis
          (some (recordOf en true p)))) := by
    intro c hs hc p
    exact ((setChan_sched hs hc).trans (deliverRecord_sched en.axis .replaced _)).trans
      (withSched_sched rfl id (Nat.le_refl _))
  unfold placeHeld
  simp only
  split
  · split
    · refine replace (Channel.heldEnded _ _ _) ?_ (fun h => ?_) _
      · exact ⟨rfl, rfl, rfl, rfl, rfl, rfl⟩
      · exact ⟨h.index, h.buffer, h.driven⟩
    · exact drop
  · split
    · exact replace _ (heldEnded_still _ _ _) (fun h => heldEnded_follow h _ _) _
    · exact drop
  · exact drop

theorem completeNow_sched (en : Entry) (s : State) : SchedFrame s (completeNow en s) := by
  unfold completeNow
  refine SchedFrame.trans ?_ (deliverEntry_delivery _ _ _ _).sched_frame
  exact setChan_sched ((from_still _ _).trans (moveDone_still _)) fun h => moveDone_follow (from_follow h _)

/-- Everything the placing of an entry can do, before the grant pass. -/
theorem placeEntry_sched (en : Entry) (s : State) : SchedFrame s (placeEntry en s).1 := by
  unfold placeEntry
  split
  · next old _ =>
    refine SchedFrame.trans ?_ (deliverEntry_delivery .byNotice old .replaced _).sched_frame
    refine withSched_sched rfl (fun h => ?_) (Nat.le_refl _)
    simp only [Scheduler.rewrite, queue_rewrite_axes]
    exact h
  · next h =>
    split
    · exact placeHeld_sched en s h
    · split
      · exact completeNow_sched en s
      · exact appendEntry_sched h

theorem admission_sched (en : Entry) (s : State) : SchedFrame s (admission en s).1 := placeEntry_sched _ s

/-- Everything a motion request of a port can do. -/
theorem motionRequest_sched (r : Req) (a : Axis) (m : Motion) (p : Option ShiftPart) (k : Bool) (s : State) :
    SchedFrame s (motionRequest r a m p k s).1 := by
  unfold motionRequest
  split
  · exact .refl s
  · simp only
    split
    · exact (admission_sched _ _).trans (grantPass_sched _)
    · exact admission_sched _ _

/-! ### STOP, jogs, loss of reference -/

theorem stopMotion_sched (a : Axis) (s : State) : SchedFrame s (stopMotion a s) := by
  unfold stopMotion
  simp only
  split
  all_goals first
    | exact orderStop_sched _ _ _
    | exact .refl s
    | (split
       · exact setChan_sched ⟨rfl, rfl, rfl, rfl, rfl, rfl⟩ fun h => ⟨h.index, h.buffer, h.driven⟩
       · exact .refl s)

theorem stopHeld_sched (a : Axis) (s : State) : SchedFrame s (stopHeld a s) := by
  unfold stopHeld
  split
  · exact dropHeldMotion_sched _ _ _
  · exact .refl s

theorem stopEntry_sched (a : Axis) (s : State) : SchedFrame s (stopEntry a s) := by
  unfold stopEntry
  split
  · exact removeEntry_sched _ _ _
  · exact .refl s

/-- Everything a STOP can do. -/
theorem stopAxes_sched (l : List Axis) (s : State) : SchedFrame s (stopAxes l s) := by
  unfold stopAxes
  simp only
  have h := ((SchedFrame.foldl (fun s a => stopEntry_sched a s) l s).trans
    (SchedFrame.foldl (fun s a => stopHeld_sched a s) l _)).trans (SchedFrame.foldl (fun s a => stopMotion_sched a s) l _)
  split
  · exact h.trans (grantPass_sched _)
  · exact h

theorem loseReference_sched (a : Axis) (w : FailReason) (s : State) : SchedFrame s (loseReference a w s) := by
  unfold loseReference
  split
  · split
    · exact .refl s
    · exact removeEntry_sched _ _ _
  · exact .refl s

theorem becomeAbsent_sched (a : Axis) (s : State) : SchedFrame s (becomeAbsent a s) := by
  unfold becomeAbsent
  refine SchedFrame.trans ?_ (grantPass_sched _)
  split
  · exact removeEntry_sched _ _ _
  · exact .refl s

theorem expireQueued_sched (k : Nat) (a : Axis) (s : State) : SchedFrame s (expireQueued k a s) := by
  unfold expireQueued
  split
  · split
    · exact removeEntry_sched _ _ _
    · exact .refl s
  · exact .refl s

theorem expireRunning_sched (k : Nat) (a : Axis) (s : State) : SchedFrame s (expireRunning k a s) := by
  unfold expireRunning
  split
  · exact orderStop_sched _ _ _
  · exact .refl s

theorem recordKeepDown_sched (a : Axis) (s : State) : SchedFrame s (recordKeepDown a s) := by
  unfold recordKeepDown
  split
  · split
    · exact withSched_sched rfl id (Nat.le_refl _)
    · exact .refl s
  · exact .refl s

theorem entryKeepDown_axis (en : Entry) : (entryKeepDown en).axis = en.axis := by
  unfold entryKeepDown
  split <;> rfl

/-- Everything the scheduler's tick of the keep counts can do. -/
theorem keepTick_sched (s : State) : SchedFrame s (keepTick s) := by
  unfold keepTick
  simp only
  have h0 : SchedFrame s (s.withSched { s.sched with queue := s.sched.queue.map entryKeepDown }) := by
    refine withSched_sched rfl (fun h => ?_) (Nat.le_refl _)
    rw [List.map_map]
    have : ((fun e : Entry => e.axis) ∘ entryKeepDown) = fun e => e.axis := funext entryKeepDown_axis
    rw [this]
    exact h
  exact ((h0.trans (SchedFrame.foldl (fun s a => recordKeepDown_sched a s) allAxes _)).trans
    (SchedFrame.foldl (fun s a => expireQueued_sched 0 a s) allAxes _)).trans
    (SchedFrame.foldl (fun s a => expireRunning_sched 0 a s) allAxes _)

end Sys2Proof.Machine
end

