-- ==== Sys2Proof/Laws/Streaming.lean ====
section
/-! SUPPORT. What the operations of the stream unit can do: each writes the stream context alone, but for the overrun flag
and the exchange. -/

namespace Sys2Proof.Machine

theorem clearStream_writes (m : StreamMode) (s : State) : ∃ x, clearStream m s = s.withStream x := by
  unfold clearStream; split <;> exact ⟨_, rfl⟩

theorem resetStreamContext_writes (s : State) : ∃ x, resetStreamContext s = s.withStream x := by
  unfold resetStreamContext; split <;> exact ⟨_, rfl⟩

theorem serveBand_writes (s : State) : ∃ x, serveBand s = s.withStream x := by
  unfold serveBand; split <;> exact ⟨_, rfl⟩

theorem endBandSend_writes (s : State) : ∃ x, endBandSend s = s.withStream x := by
  unfold endBandSend
  split
  · obtain ⟨x, hx⟩ := serveBand_writes (s.withStream { s.stream with activity := .idle, bandPending := false })
    exact ⟨x, hx⟩
  · exact ⟨_, rfl⟩

theorem beginFrame_writes (f : FrameStart) (s : State) : ∃ x, beginFrame f s = s.withStream x := by
  cases f <;> exact ⟨_, rfl⟩

/-- A frame starts from the live bank, VALID, at the generation it holds. -/
theorem frameStart_bank {s : State} {n : BankName} {gen : Half} (h : frameStart s = .bank n gen) :
    s.banks.live = some n ∧ (s.banks.get n).state = .valid ∧ gen = (s.banks.get n).generation := by
  unfold frameStart at h
  split at h
  · split at h
    · cases h; exact ⟨‹_›, ‹_›, rfl⟩
    · cases h
  · cases h

/-- A frame is empty where no live bank is VALID. -/
theorem frameStart_empty {s : State} (h : frameStart s = .empty) (n : BankName) (hl : s.banks.live = some n) :
    (s.banks.get n).state ≠ .valid := by
  unfold frameStart at h
  rw [hl] at h
  dsimp only at h
  split at h
  · cases h
  · assumption

theorem afterWord_writes (s : State) : ∃ x, afterWord s = s.withStream x := by
  unfold afterWord
  dsimp only
  split
  · exact ⟨s.stream, rfl⟩
  · split
    · exact ⟨s.stream, rfl⟩
    · split
      · exact endBandSend_writes s
      · exact ⟨_, rfl⟩
  · split
    · exact ⟨s.stream, rfl⟩
    · exact ⟨_, rfl⟩
  · split
    · exact ⟨s.stream, rfl⟩
    · exact endBandSend_writes s

/-- A word of the present send writes the stream context alone; the exchange and the flag come with a word that is let
finish. -/
theorem wordSent_writes {s : State} (h : s.stream.finishing = none) : ∃ x, wordSent s = s.withStream x := by
  unfold wordSent
  rw [h]
  dsimp only
  split
  · obtain ⟨x, hx⟩ := afterWord_writes
      (s.withStream { s.stream with lastWord := some (currentWord s), wordCount := s.stream.wordCount + 1 })
    exact ⟨x, hx⟩
  · exact ⟨s.stream, rfl⟩

end Sys2Proof.Machine
end

