-- ==== Sys2Proof/Tests/Slice0.lean ====
section
/-! SUPPORT. Own tests: ill-formed commands, frames and words written out from the spec, its worked examples one command
at a time, and for each statement with hypotheses a state and operands that meet them. -/

namespace Sys2Proof.Tests

open Sys2Proof Sys2Proof.Machine

/-! ### Helpers -/

/-- A request of the system port with tag 7, and one of the picture port with tag 8. -/
def rs : Req := ⟨.system, 7, .noOverride⟩
def rp : Req := ⟨.picture, 8, .noOverride⟩

/-- The state a command leaves. -/
def after (i : Instr) (s : State) : State :=
  match exec i s with
  | .next t => t
  | .fault _ => s
  | .refused _ => s

/-- The reset state in a phase. -/
def inPhase (p : Phase) : State := { State.reset with phase := { State.reset.phase with phase := p } }

/-- An axis referenced and IDLE at a position. -/
def idleAt (a : Axis) (p : Int) (s : State) : State :=
  s.setChan a { s.chan a with state := .idle, referenced := true, position := p }

/-- The picture processor present. -/
def present (s : State) : State := { s with presence := { s.presence with pin := true, present := true } }

/-- The status of the unread response of a port. -/
def statusOf (s : State) (p : Port) : Option Status := (s.port p).unread.map (·.status)

/-! ### Ill-formed commands -/

theorem test_wellFormed_levels : (Instr.setRamp rs 0 (List.replicate 23 ⟨500, 1⟩)).wellFormed = false := by decide
theorem test_wellFormed_points : (Instr.setCurve rs 0 0 [⟨0, 0⟩]).wellFormed = false := by decide
theorem test_wellFormed_values : (Instr.setThermTable rs 0 [0, 0]).wellFormed = false := by decide
theorem test_wellFormed_level : (Instr.tripInputChange .laser 4097).wellFormed = false := by decide
theorem test_wellFormed_order : (Instr.dividerAdvance [.zones, .zones]).wellFormed = false := by decide
theorem test_wellFormed_bad : (Instr.badRequest .system [4, 1, 0, 0]).wellFormed = false := by decide
theorem test_wellFormed_good : (Instr.badRequest .system [4, 9, 0, 0]).wellFormed = true := by decide

/-! ### Frames (11.1, 11.2) and words (11.4) -/

theorem test_frame_shift : decodeFrame .system [7, 0x11, 5, 0, 1, 0x08, 0x02] = .shift ⟨.system, 5, .noOverride⟩ 1 520 := by
  decide
theorem test_frame_store : decodeFrame .picture [5, 0x21, 5, 0, 3] = .store ⟨.picture, 5, .noOverride⟩ 3 := by decide
theorem test_frame_panel : decodeFrame .system [9, 0x32, 1, 0, 0x80, 0x07, 0x38, 0x04, 5] =
    .setPanel ⟨.system, 1, .noOverride⟩ 1920 1080 5 := by decide
theorem test_frame_quiet : decodeFrame .system [7, 0x43, 1, 0, 1, 60, 80] = .setQuiet ⟨.system, 1, .noOverride⟩ 1 60 80 := by
  decide
theorem test_frame_light : decodeFrame .system [4, 0x50, 9, 0] = .lightOn ⟨.system, 9, .noOverride⟩ := by decide
theorem test_frame_clearTrip : decodeFrame .system [5, 0x46, 9, 0, 2] = .clearTrip ⟨.system, 9, .noOverride⟩ 2 := by decide
theorem test_frame_tracking : decodeFrame .system [17, 0x60, 1, 0, 32, 0, 40, 0, 48, 0, 56, 0, 64, 0, 200, 0, 6] =
    .setTracking ⟨.system, 1, .noOverride⟩ ⟨32, 40, 48, 56, 64, 200, 6⟩ := by decide
theorem test_frame_qualifier : decodeFrame .system [4, 0x01, 0, 3] = .badRequest .system [4, 0x01, 0, 3] := by decide

/-- The worked case of 4.3 as a bank at generation 0x000D. -/
def caseInputs : Inputs := { resetInputs with kv := 20, excessV := 50, w := 1920, h := 1080, g := 5 }
def caseBank : Bank := { filledBank caseInputs (resetBank .valid) with generation := 0x000D }

theorem test_words : (List.range 4).map (headerWord .a 0x000D caseBank) =
    [0xFF00000D, 0x07800438, 0x05000000, 0x00FFFFF2] ∧ pointWord caseBank 1 = 0x231D0001 := by decide

/-! ### Geometry (4.3) -/

theorem test_scale : scaleOf caseInputs = 58982 := by decide
theorem test_corners : finalCorners caseInputs =
    { tl := ⟨2617, 1⟩, tr := ⟨28103, 1⟩, bl := ⟨1537, 15551⟩, br := ⟨29183, 15551⟩ } := by decide
theorem test_rows : (gridPoints caseInputs).take 8 =
    [⟨2617, 1⟩, ⟨8989, 1⟩, ⟨15360, 1⟩, ⟨21732, 1⟩, ⟨28103, 1⟩, ⟨2347, 3889⟩, ⟨8854, 3889⟩, ⟨15360, 3889⟩] := by decide
theorem test_ceiling : finalCorners { caseInputs with orientation := .ceiling } =
    { tl := ⟨1537, 1729⟩, tr := ⟨29183, 1729⟩, bl := ⟨2617, 17279⟩, br := ⟨28103, 17279⟩ } := by decide
theorem test_limits :
    finalCorners { caseInputs with w := 3840, h := 2160, g := 17, kv := 60, excessV := 1000 } =
      { tl := ⟨13080, 0⟩, tr := ⟨48360, 0⟩, bl := ⟨7680, 25920⟩, br := ⟨53760, 25920⟩ } := by decide

/-! ### Axes (1.9, 1.10) -/

/-- FC of 1.9, granted its move. -/
def focusMove : State :=
  after (.move rs 3 19000)
    ((idleAt .fc 20000 (inPhase .lit)).setChan .fc
      { (idleAt .fc 20000 (inPhase .lit)).chan .fc with phaseIndex := 4 })

theorem test_move_granted : (focusMove.chan .fc).state = .moving ∧ (focusMove.chan .fc).segment = some .oneOfTwo ∧
    (focusMove.chan .fc).segEnd = 18968 ∧ (focusMove.chan .fc).peak = 7 ∧ (focusMove.chan .fc).energized = true ∧
    statusOf focusMove .system = some .queued := by decide
theorem test_step : ((after (.stepEvent .fc) focusMove).chan .fc).position = 19999 ∧
    ((after (.stepEvent .fc) focusMove).chan .fc).phaseIndex = 3 := by decide
theorem test_coils : coilPattern 16 = (-100, 0) ∧ coilPattern 0 = (100, 0) ∧ coilPattern 8 = (0, 100) := by decide

/-- FC in the middle of segment 1, in level 5. -/
def focusFast : State :=
  focusMove.setChan .fc { focusMove.chan .fc with position := 19800, ramp := ⟨5, 80, .accel⟩ }

theorem test_stop : ((after (.stop rs 3) focusFast).chan .fc).state = .stopping ∧
    ((after (.stop rs 3) focusFast).chan .fc).ramp = ⟨4, 64, .decel⟩ := by decide

/-- FC in segment 2 before its last step. -/
def focusLast : State :=
  focusMove.setChan .fc
    { focusMove.chan .fc with
      position := 18999, segment := some .twoOfTwo, segEnd := 19000, dir := .pos, peak := 1, ramp := ⟨0, 1, .decel⟩ }

theorem test_move_done : ((after (.stepEvent .fc) focusLast).chan .fc).state = .idle ∧
    ((after (.stepEvent .fc) focusLast).chan .fc).lastResult = some .done ∧
    ((after (.stepEvent .fc) focusLast).chan .fc).holdTimer = 16 ∧
    (after (.stepEvent .fc) focusLast).sysPort.notices = [.move .fc 7 .done] := by decide

theorem test_home_granted : ((after (.home rs 3) (inPhase .lit)).chan .fc).state = .homing ∧
    ((after (.home rs 3) (inPhase .lit)).chan .fc).homing = some ⟨.fast, 0, .running⟩ ∧
    ((after (.home rs 3) (inPhase .lit)).chan .fc).dir = .neg := by decide

/-- FC of 1.10 in BACKOFF as the release is taken. -/
def backingOff : State :=
  let s := after (.home rs 3) (inPhase .lit)
  s.setChan .fc
    { s.chan .fc with
      position := -3000, dir := .pos, homing := some ⟨.backoff, 74, .running⟩, ramp := ⟨0, 0, .cruise⟩
      switch := { pin := false, filtered := true, stable := true, edgePos := -3000, edgeUp := true } }

theorem test_homed : ((after (.homeFilterExpiry .fc) backingOff).chan .fc).position = 256 ∧
    ((after (.homeFilterExpiry .fc) backingOff).chan .fc).referenced = true ∧
    ((after (.homeFilterExpiry .fc) backingOff).chan .fc).homeEdge = 256 := by decide

/-- FC of 1.10 on its way from 256 to 600, six microsteps lost. -/
def passing : State :=
  let s := after (.move rs 3 600) (idleAt .fc 256 (inPhase .lit))
  s.setChan .fc
    { s.chan .fc with
      position := 262, homeEdge := 256
      switch := { pin := false, filtered := true, stable := true, edgePos := 262, edgeUp := true } }

theorem test_resync : ((after (.homeFilterExpiry .fc) passing).chan .fc).position = 256 ∧
    ((after (.homeFilterExpiry .fc) passing).chan .fc).state = .moving := by decide

/-- The same pass with 30 microsteps lost. -/
def lost : State :=
  passing.setChan .fc
    { passing.chan .fc with
      position := 286, ramp := ⟨1, 10, .accel⟩
      switch := { pin := false, filtered := true, stable := true, edgePos := 286, edgeUp := true } }

theorem test_lost : ((after (.homeFilterExpiry .fc) lost).chan .fc).stopCause = some .lost ∧
    ((after (.homeFilterExpiry .fc) lost).chan .fc).referenced = false := by decide

theorem test_jog : ((after (.jog rs 2 1 20) (idleAt .zm 20000 (inPhase .lit))).chan .zm).jog = some ⟨.neg, 7⟩ := by decide

/-! ### Shift demand (3.1) -/

theorem test_shift_target : shiftRaw (State.reset.chan .sh).settings .floor 520 = 50000 ∧
    softClamp (State.reset.chan .sh).settings 50000 = 47488 := by decide
theorem test_shift_excess : shiftExcess (State.reset.chan .sh).settings .floor 520 = 50 := by decide

/-! ### Stream (5.8, 5.9) -/

/-- Bank B live, VALID at generation 13, in BAND mode. -/
def banded : State :=
  let s := present State.reset
  { s with
    geom := { s.geom with engine := .idle, bank := none, snapshot := none }
    banks := { a := resetBank .valid, b := { caseBank with generation := 13 }, live := some .b }
    stream := { s.stream with mode := .band } }

theorem test_frame_strobe : (after .frameStrobe banded).stream.activity = .header ∧
    (after .frameStrobe banded).stream.frameGen = 13 := by decide

/-- Row 0 running with a strobe pending. -/
def rowRunning : State :=
  { banded with
    stream := { banded.stream with activity := .row, frameBank := some .b, frameGen := 13, rowPtr := 1, bandPending := true } }

theorem test_band_dropped : (after .bandStrobe rowRunning).stream.lastOverrun = .band ∧
    (after .bandStrobe rowRunning).stream.rowPtr = 1 ∧ (after .bandStrobe rowRunning).picPort.flags = 0x1000 := by decide

/-- A result pending in bank B while A streams at generation 40, in FRAME mode. -/
def pendingSwap : State :=
  let s := present State.reset
  { s with
    geom := { s.geom with engine := .swapPending, bank := some .b, snapshot := some caseInputs }
    banks := { a := { caseBank with generation := 40 }, b := caseBank, live := some .a }
    stream := { s.stream with mode := .frame } }

theorem test_exchange : (after .frameStrobe pendingSwap).banks.live = some .b ∧
    (after .frameStrobe pendingSwap).banks.b.generation = 41 ∧ (after .frameStrobe pendingSwap).stream.frameGen = 41 ∧
    (after .frameStrobe pendingSwap).picPort.flags = 0x0020 := by decide

/-- The glitch strobe of 5.9, word 20 of a stream being sent: nothing but the order of the end until that word ends. -/
def glitched : State :=
  after .frameStrobe
    { pendingSwap with
      geom := banded.geom
      stream := { pendingSwap.stream with activity := .points, frameBank := some .a, wordCount := 20 } }

/-- A send of bank A, a result for bank B pending. -/
def sending : State :=
  { pendingSwap with stream := { pendingSwap.stream with activity := .points, frameBank := some .a, wordCount := 20 } }

theorem test_overrun_waits : glitched.stream.activity = .points ∧ glitched.stream.wordCount = 20 ∧
    glitched.stream.lastOverrun = .never ∧ glitched.picPort.flags = 0 := by decide
theorem test_overrun : (after .streamWordSent glitched).stream.activity = .header ∧
    (after .streamWordSent glitched).stream.wordCount = 0 ∧ (after .streamWordSent glitched).stream.lastOverrun = .frame ∧
    (after .streamWordSent glitched).picPort.flags = 0x1000 := by decide

/-- Over a send the strobe makes the pending result live when it is taken, and its frame is that bank's whatever follows
in that word: a request that starts a compute, or a compute that ends (R87). -/
theorem test_exchange_at_strobe :
    (after .frameStrobe sending).banks.live = some .b ∧ (after .frameStrobe sending).stream.frameBank = some .a ∧
    (after .frameStrobe sending).picPort.flags = 0x0020 ∧
    (after .streamWordSent (after (.setKeystone rs 10 0) (after .frameStrobe sending))).stream.frameGen = 41 ∧
    (after .streamWordSent (after (.setKeystone rs 10 0) (after .frameStrobe sending))).geom.engine = .computing := by
  decide

/-- A band strobe after the frame strobe and before the word ends waits for the new frame's header (R102). -/
theorem test_band_after_strobe :
    (after .streamWordSent (after .bandStrobe (after .frameStrobe rowRunning))).stream.bandPending = true ∧
    (after .streamWordSent (after .frameStrobe rowRunning)).stream.bandPending = false := by decide

/-- Header word 0 of bank B at generation 13 goes out as 0xFF01000D, its first seven bits high and its last one too
(11.4). -/
theorem test_lines : gsValid (after .frameStrobe banded) = true ∧
    wordOut (after .frameStrobe banded) = 0xFF01000D ∧ gsDat (after .frameStrobe banded) 0 = true ∧
    gsDat (after .frameStrobe banded) 8 = false ∧ gsDat (after .frameStrobe banded) 31 = true ∧
    gsValid banded = false ∧ gsDat banded 0 = false := by decide

/-! ### Measurement (6.4, 6.6, 6.7) -/

/-- LENS under conversion with the ring of 6.4. -/
def lensScan : State :=
  { State.reset with
    meas :=
      { State.reset.meas with
        scan := .lens
        chans := State.reset.meas.chans.set .lens
          { resetChan with ring := [2000, 2003, 2006], filtered := some 466, lastValid := some 466, status := .live } } }

theorem test_conversion : ((after (.conversionComplete 2004) lensScan).meas.chans.get .lens).filtered = some 466 ∧
    (after (.conversionComplete 2004) lensScan).track.tLens = some 466 ∧
    (after (.conversionComplete 2004) lensScan).meas.scan = .spare := by decide
theorem test_die : dieTemp 3072 = 1000 ∧ dieTemp 2048 = 500 := by decide

/-- F2 of 6.7 before its first tick. -/
def blower : State :=
  { State.reset with
    divider := 31
    meas :=
      { State.reset.meas with
        tach := State.reset.meas.tach.set .f2 { accumulator := 3, buckets := [12, 12, 13, 12, 12, 13, 12, 12], rpm := 2940 } } }

theorem test_tach : ((after (.dividerAdvance []) blower).meas.tach.get .f2).rpm = 2670 ∧
    ((after (.dividerAdvance []) blower).cool.fans.get .f2).reading = 2670 := by decide

theorem test_trip_active : ((after (.tripInputChange .laser 767) State.reset).meas.comp .laser).active = true ∧
    ((after (.tripInputChange .laser 768) State.reset).meas.comp .laser).active = false := by decide

/-- The engine LIT with its lines following and the LASER comparator about to latch. -/
def tripping : State :=
  let s := coolRefresh (followLines (inPhase .lit))
  { s with meas := s.meas.setComp .laser { s.meas.comp .laser with active := true, running := true } }

theorem test_trip : (after (.tripLatchSet .laser) tripping).phase.phase = .cooldown ∧
    (after (.tripLatchSet .laser) tripping).phase.reason = .trip ∧
    (after (.tripLatchSet .laser) tripping).phase.lightPermit = false ∧
    (after (.tripLatchSet .laser) tripping).phase.faultN = true := by decide

/-! ### Cooling (7.2) and phases (8.4) -/

theorem test_curve : curveDuty (State.reset.cool.floorSet.get .z0) (some 610) = 47 ∧
    curveDuty (State.reset.cool.ceilingSet.get .z0) (some 610) = 57 := by decide
theorem test_lightOn : (after (.lightOn rs) (inPhase .dark)).phase.phase = .warmup ∧
    (after (.lightOn rs) (inPhase .dark)).phase.rampLevel = some 40 ∧
    (after (.lightOn rs) (inPhase .dark)).cool.lightCap = 40 := by decide
theorem test_lightOff : (after (.lightOff rs) tripping).phase.reason = .off ∧
    (after (.lightOff rs) tripping).phase.park = .parked := by decide

/-! ### Tracking (9.6) -/

/-- The record of 9.6 at its first tick: LIT, ZM at 24000, FC at 19000, LENS gone from 350 to 380. -/
def warming : State :=
  let s := idleAt .zm 24000 (idleAt .fc 19000 (inPhase .lit))
  { s with track := { s.track with base := some 19000, tRef := some 350, tLens := some 380, lensStatus := .live } }

theorem test_tracking : (trackTick warming).track.comp = some 9 ∧ ((trackTick warming).chan .fc).target = some 19009 ∧
    (trackTick warming).track.lastAction = .placed := by decide

/-! ### Witnesses: the invariants

For each statement with hypotheses, a state and operands that meet them all. -/

/-- A step of a state answers a next state. -/
def runs (s : State) : Bool :=
  match step s with
  | .next _ => true
  | .fault _ => false
  | .refused _ => false

theorem runs_next {s : State} (h : runs s = true) : ∃ t, step s = .next t := by
  unfold runs at h
  split at h
  · exact ⟨_, ‹_›⟩
  · cases h
  · cases h

def queued (c : Instr) (s : State) : State := { s with pending := [c] }

/-- LIT with its lines following, about to trip. -/
theorem witness_LightSafeKept :
    LightSafe (queued (.tripLatchSet .laser) tripping) ∧ (queued (.tripLatchSet .laser) tripping).phase.lightPermit = true ∧
      ∃ t, step (queued (.tripLatchSet .laser) tripping) = .next t :=
  ⟨⟨⟨rfl, rfl, rfl⟩, by intro h; exact absurd h (by decide), fun _ => ⟨rfl, fun z => by cases z <;> decide⟩,
    by intro h; exact absurd h (by decide)⟩, rfl, runs_next (by decide)⟩

theorem witness_PortsSafeKept :
    PortsSafe (queued (.stepEvent .fc) focusLast) ∧ ∃ t, step (queued (.stepEvent .fc) focusLast) = .next t :=
  ⟨fun p => by cases p <;> exact ⟨by decide, by decide⟩, runs_next (by decide)⟩

theorem witness_EngineSafeKept :
    EngineSafe (queued .frameStrobe pendingSwap) ∧ ∃ t, step (queued .frameStrobe pendingSwap) = .next t :=
  ⟨⟨.b, rfl, by decide, fun m => by cases m <;> decide⟩, runs_next (by decide)⟩

theorem witness_CoolingSettledKept :
    Settled (queued (.tripLatchSet .laser) tripping) ∧ ∃ t, step (queued (.tripLatchSet .laser) tripping) = .next t :=
  ⟨⟨by decide, by decide⟩, runs_next (by decide)⟩

/-- LIT, the scheduler closed by the die, every axis referenced and IDLE at 20000. -/
def closed : State :=
  let s := idleAt .sh 20000 (idleAt .sv 20000 (idleAt .zm 20000 (idleAt .fc 20000 (inPhase .lit))))
  { s with sched := { s.sched with dieAllow := 0 } }

/-- The same with a queued move of ZM and a queued jog of FC. -/
def waiting : State :=
  { closed with
    sched :=
      { closed.sched with
        queue := [portEntry rs .zm (.move 30000) none, portEntry rs .fc (.jog .pos 3 1) none] } }

/-- ZM at its last microstep in a GRANTED slot, FC at its last in a RUNDOWN one for a fall of the allowance to 1, SH held
on its way beyond its soft limit. -/
def slotsFull : State :=
  { closed with
    axes :=
      { closed.axes with
        zm := { closed.axes.zm with state := .moving, target := some 20001, segEnd := 20001, ramp := ⟨0, 1, .decel⟩ }
        fc :=
          { closed.axes.fc with
            state := .stopping, stopCause := some .allowance, target := some 30000, ramp := ⟨0, 1, .decel⟩ }
        sh := { closed.axes.sh with state := .held, target := some 47489 } }
    sched :=
      { closed.sched with
        records :=
          ⟨some (portRecord rs .move 19990), none, some (portRecord rs .move 19990), some (portRecord rs .move 19990)⟩
        held := [.sh], slot1 := .granted .zm, slot2 := .rundown .fc, dieAllow := 1 } }

theorem witness_GrantsWithinKept :
    (GrantsWithin (queued (.stop rs 3) focusFast) ∧ (queued (.stop rs 3) focusFast).sched.grantedCount = 1 ∧
      ∃ t, step (queued (.stop rs 3) focusFast) = .next t) ∧
    SlotsAgree (queued (.stepEvent .fc) slotsFull) ∧ slotsTaken (queued (.stepEvent .fc) slotsFull).sched = 2 ∧
      ∃ t, step (queued (.stepEvent .fc) slotsFull) = .next t :=
  ⟨⟨by unfold GrantsWithin; decide, by decide, runs_next (by decide)⟩,
    ⟨fun a => by cases a <;> decide, fun a => by cases a <;> decide, fun a => by cases a <;> decide,
      fun a => by cases a <;> decide, by decide, fun a => by cases a <;> decide, fun a => by cases a <;> decide⟩,
    by decide, runs_next (by decide)⟩

theorem witness_OneEntryKept :
    OneEntry (queued (.move rs 2 100) waiting) ∧ ∃ t, step (queued (.move rs 2 100) waiting) = .next t :=
  ⟨by unfold OneEntry; decide, runs_next (by decide)⟩

theorem witness_CoilsFollowKept :
    CoilsSafe (queued (.stepEvent .fc) focusMove) ∧ (focusMove.chan .fc).energized = true ∧
      ∃ t, step (queued (.stepEvent .fc) focusMove) = .next t :=
  ⟨fun a => by cases a <;> exact ⟨by decide, by decide, by decide⟩, by decide, runs_next (by decide)⟩

theorem witness_RecordsAgreeKept :
    (ExcessAgrees (queued (.store rs 9) closed) ∧ OffsetWithin (queued (.store rs 9) closed) ∧
      TenRecords (queued (.store rs 9) closed)) ∧ ∃ t, step (queued (.store rs 9) closed) = .next t :=
  ⟨⟨⟨rfl, rfl⟩, by unfold OffsetWithin; decide, by unfold TenRecords; decide⟩, runs_next (by decide)⟩

/-! ### Witnesses: frames and gates -/

theorem witness_FramesRoundTrip :
    (∃ b, (Instr.setThermTable rs 1 (List.replicate 17 0x8000)).wellFormed = true ∧
      bodyOf (.setThermTable rs 1 (List.replicate 17 0x8000)) = some b) ∧
    (∃ b, (Instr.setRamp rs 255 (List.replicate 22 ⟨0xFFFF, 255⟩)).wellFormed = true ∧
      bodyOf (.setRamp rs 255 (List.replicate 22 ⟨0xFFFF, 255⟩)) = some b) ∧
    ∃ b, (Instr.getIdent rp).wellFormed = true ∧ bodyOf (.getIdent rp) = some b :=
  ⟨⟨_, by decide, rfl⟩, ⟨_, by decide, rfl⟩, ⟨_, by decide, rfl⟩⟩

/-- A part strapped to 0x4C addressed at 0x4D, and one strapped to 0x4D at 0x4C. -/
theorem witness_FramesRead :
    (I2cTransfer.write 0x4D [4, 0x01, 0, 0]).address ≠ (if false = true then 0x4D else 0x4C) ∧
      (I2cTransfer.read 0x4C 5).address ≠ (if true = true then 0x4D else 0x4C) := by decide

theorem witness_PrivilegesHold :
    (requestOf (.setStream rs 1) = some (rs, .pictureOnly) ∧ wellCounted (.setStream rs 1) = true ∧
      portTakes State.reset rs.port = true ∧ allowedOn .pictureOnly rs.port = false) ∧
    requestOf (.lightOn rp) = some (rp, .systemOnly) ∧ wellCounted (.lightOn rp) = true ∧
      portTakes (present State.reset) rp.port = true ∧ allowedOn .systemOnly rp.port = false := by decide

theorem witness_AbsentPortIgnores :
    (requestOf (.resync rp) = some (rp, .pictureOnly) ∧ rp.port = .picture ∧ State.reset.presence.present = false) ∧
    (after .powerFail State.reset).powered = false ∧ requestOf (.lightOn rs) = some (rs, .systemOnly) := by decide

/-- Each code just above the last one listed, and the first below or between. -/
theorem witness_UnlistedCodesRefused :
    (Takes State.reset rs .bothPorts ∧ 4 ≤ (4 : Byte).toNat ∧ 2 ≤ (2 : Byte).toNat ∧ (254 : Byte) ≠ 255 ∧
      10 ≤ (10 : Byte).toNat ∧ (0 : Byte) ≠ 1 ∧ (0 : Byte) ≠ 2 ∧ (3 : Byte) ≠ 1 ∧ (3 : Byte) ≠ 2) ∧
    (Takes State.reset rs .systemOnly ∧ wellCounted (.setCurve rs 2 0 (List.replicate 6 ⟨0, 0⟩)) = true ∧
      wellCounted (.setRamp rs 4 []) = true ∧ wellCounted (.setThermTable rs 2 (List.replicate 17 0)) = true ∧
      512 ≤ (512 : Half).toNat ∧ 16 ≤ (16 : Byte).toNat ∧ 3 ≤ (3 : Byte).toNat) ∧
    Takes (present State.reset) rp .pictureOnly :=
  ⟨⟨⟨rfl, rfl⟩, by decide⟩, ⟨⟨rfl, rfl⟩, by decide⟩, ⟨rfl, rfl⟩⟩

theorem witness_IdentAnswered :
    portTakes State.reset rs.port = true ∧ portTakes (present State.reset) rp.port = true ∧ State.reset.powered = true ∧
      Takes State.reset rs .systemOnly := ⟨rfl, rfl, rfl, rfl, rfl⟩

theorem witness_ReadsAnswered :
    portTakes State.reset rs.port = true ∧ (9 : Byte).toNat < 10 ∧ zoneOfCode 3 = some .z3 := ⟨rfl, by decide, rfl⟩

/-- The live bank INVALID, and VALID with G 5: rows 4 and 5. -/
theorem witness_GridRowAnswered :
    portTakes State.reset rs.port = true ∧ State.reset.banks.live = none ∧
    (portTakes banded rs.port = true ∧ banded.banks.live = some .b ∧ (banded.banks.get .b).state = .valid ∧
      (banded.banks.get .b).g ≤ (5 : Byte).toNat ∧ (4 : Byte).toNat < (banded.banks.get .b).g) ∧
    (after (.setPanel rs 640 360 5) { banded with stream := resetStream }).banks.live = some .b ∧
      ((after (.setPanel rs 640 360 5) { banded with stream := resetStream }).banks.get .b).state ≠ .valid := by decide

theorem witness_EventsRead : portTakes focusLast rs.port = true ∧ portTakes (present focusLast) rp.port = true := by decide

theorem witness_MaskAndUnitWritten : portTakes State.reset rs.port = true := rfl

/-- GET_IDENT answered on the picture port. -/
def identified : State := after (.getIdent rp) (present State.reset)

theorem test_sdo : sdoBit identified 0 7 = some false ∧ sdoBit identified 0 12 = some true ∧
    sdoBit identified 0 15 = some false ∧ sdoBit identified 4 12 = some false ∧ sdoBit State.reset 0 12 = none := by decide

/-- SET_STREAM FRAME, tag 9, clocked in bit by bit. -/
theorem test_sdi : spiClocked
    [false, false, false, false, false, true, false, true, false, false, true, true, false, true, false, false,
      false, false, false, false, true, false, false, true, false, false, false, false, false, false, false, false,
      false, false, false, false, false, false, false, true, true] = .setStream ⟨.picture, 9, .noOverride⟩ 1 := by decide

theorem witness_TransactionsTaken :
    (portTakes State.reset .system = true ∧ ([4, 1] : List Byte).length < 3) ∧
    (([3, 9, 0] : List Byte) = 3 :: 9 :: 0 :: [] ∧ 3 ≤ (3 : Byte).toNat) ∧
    (portTakes (present State.reset) .picture = true ∧ ([0, 9, 0] : List Byte) = 0 :: 9 :: 0 :: []) ∧
    ((State.reset.port .system).unread = none ∧
      ∃ x, ((after (.getIdent rs) State.reset).port .system).unread = some x) ∧
    portTakes State.reset .picture = false ∧
    portTakes identified .picture = true ∧
    (after (.readResponse .picture 12) identified).picPort.lastRead[0]? = some 10 ∧
    (after (.readResponse .picture 10) identified).picPort.lastRead[9]? = some 1 ∧
    (after (.readResponse .picture 14) identified).picPort.lastRead[13]? = some 0 :=
  ⟨by decide, by decide, by decide, ⟨rfl, ⟨_, rfl⟩⟩, by decide⟩

/-! ### Witnesses: resets and presence -/

theorem witness_DeviceResets : State.reset.powered = true ∧ Takes State.reset rs .systemOnly := ⟨rfl, rfl, rfl⟩

theorem witness_SettingsAfterReset :
    (∃ t, exec (.powerOn true) State.reset = .next t) ∧
    (State.reset.powered = true ∧ ∃ t, exec (.resetPin false) State.reset = .next t) ∧
    Takes State.reset rs .systemOnly ∧ ∃ t, exec (.softReset rs) State.reset = .next t :=
  ⟨⟨_, rfl⟩, ⟨rfl, _, rfl⟩, ⟨rfl, rfl⟩, ⟨_, rfl⟩⟩

/-- A presence filter running with the pin low, a result pending. -/
def leaving : State := { pendingSwap with presence := { pendingSwap.presence with pin := false, filtering := true } }

theorem witness_PicturePortResets :
    (rp.port = .picture ∧ portTakes pendingSwap .picture = true ∧ pendingSwap.stream.activity = .idle ∧
      pendingSwap.geom.engine = .swapPending ∧ pendingSwap.geom.bank = some .b ∧ BankName.a ≠ .b) ∧
    (portTakes sending .picture = true ∧ sending.stream.activity ≠ .idle) ∧
    (portTakes banded .picture = true ∧ banded.geom.engine ≠ .swapPending) ∧
    leaving.powered = true ∧ leaving.presence.filtering = true ∧ leaving.presence.pin = false := by decide

theorem witness_PresenceFiltered :
    (State.reset.powered = true ∧ true ≠ State.reset.presence.pin) ∧
    ((after (.picPresentChange true) State.reset).powered = true ∧
      (after (.picPresentChange true) State.reset).presence.filtering = true ∧
      (after (.picPresentChange true) State.reset).presence.pin = true) ∧ State.reset.presence.filtering = false := by
  decide

/-! ### Witnesses: motion requests -/

def absentAt (a : Axis) (s : State) : State := s.setChan a { s.chan a with state := .absent }

/-- A request with the unit override PERMILLE. -/
def rq : Req := ⟨.system, 7, .permille⟩

/-- FC and ZM absent, START, and DARK with no reference, for each kind of request. -/
theorem witness_MotionRefused :
    (MotionRequest (absentAt .fc State.reset) rs .fc (.home rs (axisByte .fc)) true false ∧
      portTakes (absentAt .fc State.reset) rs.port = true ∧ ((absentAt .fc State.reset).chan .fc).state = .absent) ∧
    (MotionRequest (absentAt .zm State.reset) rq .zm (.move rq (axisByte .zm) 5) false false ∧
      portTakes (absentAt .zm State.reset) rq.port = true ∧ ((absentAt .zm State.reset).chan .zm).state = .absent) ∧
    (MotionRequest State.reset rs .sh (.shift rs (axisByte .sh) 5) false true ∧ (State.reset.chan .sh).state ≠ .absent ∧
      phaseRefuses State.reset.phase.phase = true) ∧
    (MotionRequest (inPhase .dark) rs .fc (.jog rs (axisByte .fc) (dirByte .neg) 12) false false ∧
      ((inPhase .dark).chan .fc).state ≠ .absent ∧ phaseRefuses (inPhase .dark).phase.phase = false ∧
      ((inPhase .dark).chan .fc).referenced = false) ∧
    MotionRequest (inPhase .dark) rs .fc (.move rs (axisByte .fc) 5) false false ∧
      MotionRequest (inPhase .dark) rq .sv (.move rq (axisByte .sv) 5) false true ∧
      ((inPhase .dark).chan .sv).state ≠ .absent ∧ ((inPhase .dark).chan .sv).referenced = false :=
  ⟨⟨.home, by decide, by decide⟩, ⟨.permille 5 rfl, by decide, by decide⟩, ⟨.shift 5 (.inl rfl), by decide, by decide⟩,
    ⟨.jog .neg 12, by decide, by decide, by decide⟩, .move 5 rfl, .permille 5 rfl, by decide, by decide⟩

/-- A target one beyond the soft limit, a turned jog at level 11, and a HOME. -/
theorem witness_MotionQueued :
    (MotionAsk closed rs .zm (.move rs (axisByte .zm) 47489) (.move 47488) true ∧ portTakes closed rs.port = true ∧
      Admits closed .zm (.move 47488) ∧ JoinsTail closed .zm (.move 47488) ∧ NoGrant closed) ∧
    (Admits closed .zm .home ∧ JoinsTail closed .zm .home) ∧
    MotionAsk (after (.setOrientation rs 1) closed) rs .sv (.jog rs (axisByte .sv) (dirByte .pos) 11) (.jog .neg 11 13)
        false ∧ Admits closed .sv (.jog .neg 11 13) ∧ JoinsTail closed .sv (.jog .neg 11 13) :=
  ⟨⟨.move 47489 rfl, by decide, ⟨by decide, by decide, by decide⟩, ⟨by decide, by decide, by decide⟩,
      .inr (by decide)⟩,
    ⟨⟨by decide, by decide, by decide⟩, by decide, by decide, by decide⟩,
    .jogTurned .pos .neg 11 (by decide) (by decide), ⟨by decide, by decide, by decide⟩, by decide, by decide, by decide⟩

/-- FC held in a move, and in a HOME, by a fall of the allowance. -/
def heldFocus : State :=
  let s := closed.setChan .fc { closed.chan .fc with state := .held, target := some 30000 }
  { s with sched := { s.sched with held := [.fc], records := s.sched.records.set .fc (some (portRecord rs .move 19990)) } }
def heldHoming : State :=
  let s := closed.setChan .fc { closed.chan .fc with state := .held, heldHome := true, referenced := false }
  { s with sched := { s.sched with held := [.fc], records := s.sched.records.set .fc (some (portRecord rs .home 0)) } }

/-- A queued move replaced by a move. A held move, asked to move, to HOME and to jog; a held HOME, asked to HOME. -/
theorem witness_MotionReplaced :
    (MotionAsk waiting rs .zm (.move rs (axisByte .zm) 512) (.move 512) false ∧ portTakes waiting rs.port = true ∧
      Admits waiting .zm (.move 512) ∧ NoGrant waiting ∧
      waiting.sched.entryOf .zm = some (portEntry rs .zm (.move 30000) none) ∧
      (portEntry rs .zm (.move 30000) none).link = none ∧
      originPort (portEntry rs .zm (.move 30000) none).origin = some .system) ∧
    (MotionAsk heldFocus rs .fc (.move rs (axisByte .fc) 512) (.move 512) false ∧
      MotionAsk heldFocus rs .fc (.home rs (axisByte .fc)) .home false ∧
      MotionAsk heldFocus rs .fc (.jog rs (axisByte .fc) (dirByte .pos) 11) (.jog .pos 11 13) false ∧
      portTakes heldFocus rs.port = true ∧ Admits heldFocus .fc (.move 512) ∧ Admits heldFocus .fc .home ∧
      Admits heldFocus .fc (.jog .pos 11 13) ∧ NoGrant heldFocus ∧ (heldFocus.chan .fc).state = .held ∧
      heldFocus.sched.entryOf .fc = none ∧ heldFocus.sched.records.get .fc = some (portRecord rs .move 19990) ∧
      (portRecord rs .move 19990).link = none ∧ originPort (portRecord rs .move 19990).origin = some .system ∧
      (heldFocus.chan .fc).target.isSome = true ∧ (heldFocus.chan .fc).heldHome = false) ∧
    MotionAsk heldHoming rs .fc (.home rs (axisByte .fc)) .home false ∧ portTakes heldHoming rs.port = true ∧
      Admits heldHoming .fc .home ∧ NoGrant heldHoming ∧ (heldHoming.chan .fc).state = .held ∧
      heldHoming.sched.entryOf .fc = none ∧ heldHoming.sched.records.get .fc = some (portRecord rs .home 0) ∧
      (portRecord rs .home 0).link = none ∧ originPort (portRecord rs .home 0).origin = some .system ∧
      (heldHoming.chan .fc).heldHome = true :=
  ⟨⟨.move 512 rfl, by decide, ⟨by decide, by decide, by decide⟩, .inr (by decide), by decide, rfl, rfl⟩,
    ⟨.move 512 rfl, .home, .jog .pos 11 (by decide), by decide, ⟨by decide, by decide, by decide⟩,
      ⟨by decide, by decide, by decide⟩, ⟨by decide, by decide, by decide⟩, .inr (by decide), by decide⟩,
    .home, by decide, ⟨by decide, by decide, by decide⟩, .inr (by decide), by decide⟩

/-- ZM at its upper soft limit, asked to go beyond. -/
theorem witness_MoveDoneAtOnce :
    MotionAsk (idleAt .zm 47488 (inPhase .dark)) rs .zm (.move rs (axisByte .zm) 60000)
        (.move ((idleAt .zm 47488 (inPhase .dark)).chan .zm).position) true ∧
      portTakes (idleAt .zm 47488 (inPhase .dark)) rs.port = true ∧
      Admits (idleAt .zm 47488 (inPhase .dark)) .zm (.move 47488) ∧
      ((idleAt .zm 47488 (inPhase .dark)).chan .zm).state = .idle ∧
      (idleAt .zm 47488 (inPhase .dark)).sched.entryOf .zm = none :=
  ⟨.move 60000 rfl, by decide, ⟨by decide, by decide, by decide⟩, by decide, by decide⟩

/-- ZM IDLE at 513: a move by 1, and a jog down with 1 ahead. SH unreferenced: a HOME. -/
def near : State := idleAt .zm 513 (inPhase .dark)

/-- FC IDLE at 20000, whose backlash is taken up; ZM unreferenced with its home switch pressed. -/
def backlashed : State :=
  let s := idleAt .fc 20000 (inPhase .lit)
  s.setChan .zm { s.chan .zm with switch := { (s.chan .zm).switch with pin := true, filtered := true } }

theorem witness_MotionGranted :
    (MotionAsk near rs .zm (.move rs (axisByte .zm) 512) (.move 512) false ∧ Admits near .zm (.move 512) ∧
      JoinsTail near .zm (.move 512) ∧ (near.chan .zm).state = .idle ∧ (512 : Int) ≠ (near.chan .zm).position ∧
      firstSegment (near.chan .zm).settings (near.chan .zm).position 512 = (.oneOfOne, 512)) ∧
    (MotionAsk near rs .zm (.jog rs (axisByte .zm) (dirByte .neg) 0) (.jog .neg 0 13) false ∧
      Admits near .zm (.jog .neg 0 13) ∧ ((near.chan .zm).settings.softMin : Int) < (near.chan .zm).position ∧
      (near.chan .zm).position < ((near.chan .zm).settings.softMax : Int)) ∧
    (Admits near .sh .home ∧ JoinsTail near .sh .home ∧ (near.chan .sh).state = .unreferenced ∧
      (near.chan .sh).switch.filtered = false) ∧
    (portTakes near rs.port = true ∧ near.sched.slot1 = .free ∧ near.sched.slot2 = .free ∧ near.sched.held = [] ∧
      near.sched.queue = [] ∧ 1 ≤ allowance near ∧ (near.chan .zm).settings.softMin ≤ (near.chan .zm).settings.softMax) ∧
    (MotionAsk backlashed rs .fc (.move rs (axisByte .fc) 19000) (.move 19000) false ∧
      Admits backlashed .fc (.move 19000) ∧ JoinsTail backlashed .fc (.move 19000) ∧
      firstSegment (backlashed.chan .fc).settings (backlashed.chan .fc).position 19000 = (.oneOfTwo, 18968)) ∧
    Admits backlashed .zm .home ∧ JoinsTail backlashed .zm .home ∧ (backlashed.chan .zm).switch.filtered = true ∧
      portTakes backlashed rs.port = true ∧ backlashed.sched.slot1 = .free ∧ backlashed.sched.slot2 = .free ∧
      backlashed.sched.held = [] ∧ backlashed.sched.queue = [] ∧ 1 ≤ allowance backlashed :=
  ⟨⟨.move 512 rfl, ⟨by decide, by decide, by decide⟩, ⟨by decide, by decide, by decide⟩, by decide, by decide,
      by decide⟩,
    ⟨.jog .neg 0 (by decide), ⟨by decide, by decide, by decide⟩, by decide, by decide⟩,
    ⟨⟨by decide, by decide, by decide⟩, ⟨by decide, by decide, by decide⟩, by decide, by decide⟩, by decide,
    ⟨.move 19000 rfl, ⟨by decide, by decide, by decide⟩, ⟨by decide, by decide, by decide⟩, by decide⟩,
    ⟨by decide, by decide, by decide⟩, ⟨by decide, by decide, by decide⟩, by decide⟩

theorem witness_ShiftQueued :
    (portTakes closed rs.port = true ∧ clampInt (-1000) 1000 (520 : Half).toInt = 520 ∧
      clampInt (-1000) 1000 (1001 : Half).toInt = 1000 ∧
      softClamp (closed.chan .sv).settings (shiftRaw (closed.chan .sv).settings closed.geom.inputs.orientation 520) = 47488 ∧
      (closed.chan .sv).settings.softMin ≤ (closed.chan .sv).settings.softMax ∧ Admits closed .sv (.move 47488) ∧
      JoinsTail closed .sv (.move 47488) ∧ NoGrant closed ∧ unitOf (closed.port .system).unit .permille = .permille) ∧
    portTakes closed rq.port = true ∧ unitOf (closed.port rq.port).unit rq.qual = .permille ∧
      clampInt 0 1000 (1001 : Quadword).toInt = 1000 ∧ (1000 * (closed.chan .zm).settings.travel + 500) / 1000 = 48000 ∧
      clampInt (closed.chan .zm).settings.softMin (closed.chan .zm).settings.softMax 48000 = 47488 ∧
      Admits closed .zm (.move 47488) ∧ JoinsTail closed .zm (.move 47488) :=
  ⟨⟨by decide, by decide, by decide, by decide, by decide, ⟨by decide, by decide, by decide⟩,
      ⟨by decide, by decide, by decide⟩, .inr (by decide), rfl⟩,
    by decide, by decide, by decide, by decide, by decide, ⟨by decide, by decide, by decide⟩, by decide, by decide,
    by decide⟩

theorem witness_ShiftOfAbsentAxis :
    (portTakes (absentAt .sh (absentAt .sv State.reset)) rq.port = true ∧
      clampInt (-1000) 1000 ((-1001 : Half)).toInt = -1000 ∧ clampInt (-1000) 1000 ((1001 : Quadword)).toInt = 1000 ∧
      (absentAt .sh (absentAt .sv State.reset)).geom.engine = .computing ∧
      ((absentAt .sh (absentAt .sv State.reset)).chan .sh).state = .absent ∧
      ((absentAt .sh (absentAt .sv State.reset)).chan .sv).state = .absent ∧
      unitOf ((absentAt .sh (absentAt .sv State.reset)).port rq.port).unit rq.qual = .permille) ∧
    ((absentAt .sh banded).geom.engine = .idle ∧ ((absentAt .sh banded).chan .sh).state = .absent ∧
      portTakes (absentAt .sh banded) rs.port = true) ∧
    (absentAt .sv pendingSwap).geom.engine = .swapPending ∧ (absentAt .sv pendingSwap).geom.bank = some .b ∧
      ((absentAt .sv pendingSwap).chan .sv).state = .absent := by decide

/-- The reset settings of SH at demands that reach beyond and just up to a soft limit. -/
theorem witness_ExcessWithinDemand :
    (State.reset.chan .sh).settings.softMin ≤ (State.reset.chan .sh).settings.centre ∧
      (State.reset.chan .sh).settings.centre ≤ (State.reset.chan .sh).settings.softMax ∧
      256 ≤ (State.reset.chan .sh).settings.k ∧ shiftRaw (State.reset.chan .sh).settings .floor (-1000) < 512 ∧
      47488 < shiftRaw (State.reset.chan .sh).settings .floor 1000 ∧
      shiftRaw (State.reset.chan .sh).settings .floor 469 ≤ (State.reset.chan .sh).settings.softMax := by decide

/-- FC jogging for the system port. -/
def jogging : State := after (.jog rs 3 0 3) (idleAt .fc 20000 (inPhase .lit))

/-- The same in level 3, its keep count about to end. -/
def expiring : State :=
  (jogging.setChan .fc { jogging.chan .fc with ramp := ⟨3, 48, .cruise⟩ }).withSched
    { jogging.sched with
      records := jogging.sched.records.set .fc ((jogging.sched.records.get .fc).map fun x => { x with kind := .jog 1 }) }

/-- The same at level 0. -/
def expiringSlow : State := expiring.setChan .fc { expiring.chan .fc with ramp := ⟨0, 9, .accel⟩ }

/-- The same with a jog of the same port queued behind it. -/
def jogBehind : State :=
  { jogging with sched := { jogging.sched with queue := [portEntry rs .fc (.jog .neg 3 1) none] } }

theorem notQueued {s : State} {r : Req} (h : s.sched.entryOf .fc = none) : ∀ en d l, ¬QueuesJog s r .fc en d l :=
  fun _ _ _ q => by cases h.symm.trans q.1

theorem notRunning {s : State} {r : Req} (h : (s.chan .fc).state ≠ .jogging) : ∀ x, ¬RunsJog s r .fc x :=
  fun _ q => h q.1

/-- A queued jog, a running one, both, neither, and a jog of the other port. -/
theorem witness_JogKept :
    (portTakes waiting rs.port = true ∧ ((absentAt .fc waiting).chan .fc).state = .absent) ∧
    ((waiting.chan .fc).state ≠ .absent ∧ QueuesJog waiting rs .fc (portEntry rs .fc (.jog .pos 3 1) none) .pos 3 ∧
      ∀ x, ¬RunsJog waiting rs .fc x) ∧
    ((∃ x, RunsJog jogging rs .fc x) ∧ ∀ en d l, ¬QueuesJog jogging rs .fc en d l) ∧
    (QueuesJog jogBehind rs .fc (portEntry rs .fc (.jog .neg 3 1) none) .neg 3 ∧ ∃ x, RunsJog jogBehind rs .fc x) ∧
    ((closed.chan .fc).state ≠ .absent ∧ (∀ en d l, ¬QueuesJog closed rs .fc en d l) ∧ ∀ x, ¬RunsJog closed rs .fc x) ∧
    portTakes (present jogging) rp.port = true ∧ (∀ en d l, ¬QueuesJog (present jogging) rp .fc en d l) ∧
      ∀ x, ¬RunsJog (present jogging) rp .fc x :=
  ⟨by decide, ⟨by decide, ⟨by decide, ⟨1, rfl⟩, rfl⟩, notRunning (by decide)⟩,
    ⟨⟨_, by decide, rfl, ⟨13, rfl⟩, rfl⟩, notQueued (by decide)⟩,
    ⟨⟨by decide, ⟨1, rfl⟩, rfl⟩, _, by decide, rfl, ⟨13, rfl⟩, rfl⟩,
    ⟨by decide, notQueued (by decide), notRunning (by decide)⟩, by decide, notQueued (by decide),
    fun x q => by
      have h : (present jogging).sched.records.get .fc = some
          { kind := .jog 13, origin := .system, tag := some 7, shift := none, link := none, parkNo := none, ran := true
            startPos := 20000 } := by decide
      cases h.symm.trans q.2.1
      exact absurd q.2.2.2 (by decide)⟩

theorem witness_JogExpires :
    (waiting.powered = true ∧ waiting.sched.entryOf .fc = some (portEntry rs .fc (.jog .pos 3 1) none) ∧
      (portEntry rs .fc (.jog .pos 3 1) none).motion = .jog .pos 3 1 ∧ (portEntry rs .fc (.jog .pos 3 1) none).link = none ∧
      originPort (portEntry rs .fc (.jog .pos 3 1) none).origin = some .system) ∧
    (expiring.powered = true ∧ (expiring.chan .fc).state = .jogging ∧ (expiring.chan .fc).ramp.level = 2 + 1 ∧
      ∃ x, expiring.sched.records.get .fc = some x ∧ x.kind = .jog 1) ∧
    ((expiringSlow.chan .fc).state = .jogging ∧ (expiringSlow.chan .fc).jog.isSome = true ∧
      (expiringSlow.chan .fc).ramp.level = 0 ∧ expiringSlow.sched.queue = [] ∧ expiringSlow.sched.held = [] ∧
      expiringSlow.powered = true) ∧
    ToldTo expiringSlow .fc (portRecord rs (.jog 1) 20000) .system :=
  ⟨by decide, ⟨by decide, by decide, by decide, _, rfl, rfl⟩, by decide, ⟨rfl, rfl, rfl, rfl⟩⟩

/-- FC held with entries queued. -/
def heldState : State :=
  let s := waiting.setChan .fc { waiting.chan .fc with state := .held, target := some 30000 }
  { s with sched := { s.sched with held := [.fc] } }

/-- FC stopping for a fall of the allowance. -/
def falling : State := closed.setChan .fc { closed.chan .fc with state := .stopping, stopCause := some .allowance }

/-- FC in level 5 with a HOME queued behind its motion; ZM homing at level 0. -/
def focusBehind : State :=
  { focusFast with sched := { focusFast.sched with queue := [portEntry rs .fc .home none] } }
def zoomHoming : State := after (.home rs 2) (inPhase .lit)

theorem witness_StopTaken :
    (portTakes focusFast rs.port = true ∧ ((absentAt .fc focusFast).chan .fc).state = .absent ∧
      (closed.chan .fc).state = .idle ∧ closed.sched.entryOf .fc = none) ∧
    ((falling.chan .fc).state = .stopping ∧ falling.sched.entryOf .fc = none ∧
      (falling.chan .fc).stopCause = some .allowance) ∧
    ((heldFocus.chan .fc).state = .held ∧ heldFocus.sched.entryOf .fc = none ∧ NoGrant heldFocus ∧
      heldFocus.sched.records.get .fc = some (portRecord rs .move 19990)) ∧
    ((waiting.chan .zm).state = .idle ∧ NoGrant waiting ∧
      waiting.sched.entryOf .zm = some (portEntry rs .zm (.move 30000) none) ∧
      (portEntry rs .zm (.move 30000) none).link = none ∧
      originPort (portEntry rs .zm (.move 30000) none).origin = some .system) ∧
    ((focusFast.chan .fc).state = .moving ∧ focusFast.sched.entryOf .fc = none ∧ (focusFast.chan .fc).ramp.level = 4 + 1) ∧
    ((focusBehind.chan .fc).state = .moving ∧ 1 ≤ (focusBehind.chan .fc).ramp.level ∧
      focusBehind.sched.queue = [portEntry rs .fc .home none] ∧ focusBehind.sched.held = [] ∧
      (portEntry rs .fc .home none).link = none ∧ originPort (portEntry rs .fc .home none).origin = some .system) ∧
    ((focusMove.chan .fc).ramp.level = 0 ∧ focusMove.sched.queue = [] ∧ focusMove.sched.held = [] ∧
      focusMove.sched.records.get .fc = some (portRecord rs .move 20000) ∧ (focusMove.chan .fc).state = .moving ∧
      (focusMove.chan .fc).jog = none ∧ (focusMove.chan .fc).target.isSome = true) ∧
    ((jogging.chan .fc).ramp.level = 0 ∧ jogging.sched.queue = [] ∧ jogging.sched.held = [] ∧
      jogging.sched.records.get .fc = some (portRecord rs (.jog 13) 20000) ∧ (jogging.chan .fc).state = .jogging ∧
      (jogging.chan .fc).jog.isSome = true) ∧
    (zoomHoming.chan .zm).ramp.level = 0 ∧ zoomHoming.sched.queue = [] ∧ zoomHoming.sched.held = [] ∧
      zoomHoming.sched.records.get .zm = some (portRecord rs .home 0) ∧ (zoomHoming.chan .zm).state = .homing ∧
      (zoomHoming.chan .zm).jog = none ∧ (zoomHoming.chan .zm).target = none :=
  ⟨by decide, by decide, ⟨by decide, by decide, .inr (by decide), by decide⟩, ⟨by decide, .inr (by decide), by decide⟩,
    by decide, by decide, by decide, by decide, by decide⟩

theorem witness_StopAllBringsToRest :
    portTakes heldState rs.port = true ∧ (∀ a ∈ heldState.sched.held, (heldState.chan a).state = .held) ∧
      heldState.sched.held = [.fc] ∧ heldState.sched.queue.length = 2 := by decide

/-- Settings at the edges of their ranges. -/
def edgeParams : AxisParams :=
  { present := 1, travel := 60000, softMin := 256, softMax := 60000, homeOffset := 256, tolerance := 1, backlash := 255,
    approach := 2, park := 60000, centre := 0, k := 0 }

/-- The same on a shift axis, its centre and k at the ends of their ranges. -/
def edgeShift : AxisParams := { edgeParams with centre := 60000, k := 25600 }

/-- FC with a HOME queued, the scheduler closed. -/
def homeQueued : State := { closed with sched := { closed.sched with queue := [portEntry rs .fc .home none] } }

theorem witness_SettingsWritten :
    (Takes closed rs .systemOnly ∧ Takes focusFast rs .systemOnly ∧ inMotion (focusFast.chan .fc).state = true) ∧
    ((∃ x, AxisSet .fc (closed.chan .fc).settings edgeParams x ∧ x.present = true ∧ x.travel ≠ 48000) ∧
      (∃ x, AxisSet .fc (closed.chan .fc).settings { edgeParams with present := 0 } x ∧ x.present = false) ∧
      (closed.chan .fc).state = .idle ∧ (closed.chan .fc).settings.present = true ∧ (closed.chan .fc).referenced = true ∧
      closed.sched.entryOf .fc = none ∧ NoGrant closed) ∧
    ((waiting.chan .zm).state = .idle ∧ (waiting.chan .zm).referenced = true ∧ NoGrant waiting ∧
      waiting.sched.entryOf .zm = some (portEntry rs .zm (.move 30000) none) ∧
      (portEntry rs .zm (.move 30000) none).motion ≠ .home ∧ (portEntry rs .zm (.move 30000) none).link = none ∧
      originPort (portEntry rs .zm (.move 30000) none).origin = some .system) ∧
    ((homeQueued.chan .fc).state = .idle ∧
      ∃ en, homeQueued.sched.entryOf .fc = some en ∧ en.motion = .home) ∧
    ((State.reset.chan .sh).state = .unreferenced ∧ (State.reset.chan .sh).referenced = false ∧
      ∃ x, AxisSet .sh (State.reset.chan .sh).settings edgeShift x ∧ x.present = true ∧
        (State.reset.chan .sh).settings.centre ≠ x.centre) ∧
    ((closed.chan .sv).state = .idle ∧ (closed.chan .sv).referenced = true ∧
      ∃ x, AxisSet .sv (closed.chan .sv).settings { edgeShift with centre := 24000, k := 12800 } x ∧
        (closed.chan .sv).settings.travel ≠ x.travel ∧ (closed.chan .sv).settings.centre = x.centre ∧
        (closed.chan .sv).settings.k = x.k) ∧
    (2 ≤ (2 : Byte).toNat ∧ 3 ≤ (3 : Byte).toNat ∧ (999 : Half).toNat < 1000 ∧ 60000 < (60001 : Half).toNat ∧
      (0 : Byte).toNat = 0 ∧ (255 : Half).toNat < 256 ∧ 25600 < (25601 : Half).toNat) ∧
    ((after (.setAxis rs 3 { edgeParams with present := 0 }) closed).chan .fc).state = .absent ∧
      ((after (.setAxis rs 3 { edgeParams with present := 0 }) closed).chan .fc).settings.present = false :=
  ⟨⟨⟨rfl, rfl⟩, ⟨rfl, rfl⟩, by decide⟩,
    ⟨⟨_, ⟨by decide, by decide, by decide, by decide, by decide, by decide, by decide, rfl⟩, by decide, by decide⟩,
      ⟨_, ⟨by decide, by decide, by decide, by decide, by decide, by decide, by decide, rfl⟩, by decide⟩,
      by decide, by decide, by decide, by decide, .inr (by decide)⟩,
    ⟨by decide, by decide, .inr (by decide), by decide⟩, ⟨by decide, _, rfl, rfl⟩,
    ⟨by decide, by decide, _, ⟨by decide, by decide, by decide, by decide, by decide, by decide, by decide, rfl⟩,
      by decide, by decide⟩,
    ⟨by decide, by decide, _, ⟨by decide, by decide, by decide, by decide, by decide, by decide, by decide, rfl⟩,
      by decide, by decide, by decide⟩,
    by decide, by decide⟩

/-- Twelve levels at both ends of the ranges; a table one level too long, and one that slows down. -/
def edgeTable : List LevelParam := List.replicate 6 ⟨5000, 1⟩ ++ List.replicate 6 ⟨50, 255⟩

theorem edgeTable_falls : ∀ n : Fin 11, ((edgeTable[n.val]?).bind fun x => (edgeTable[n.val + 1]?).map fun y =>
    decide (y.interval.toNat ≤ x.interval.toNat)) = some true := by decide

theorem witness_RampTableWritten :
    (Takes closed rs .systemOnly ∧ Takes focusFast rs .systemOnly ∧ inMotion (focusFast.chan .fc).state = true ∧
      (closed.chan .fc).state = .idle) ∧
    (edgeTable.length = 12 ∧
      (∀ x ∈ edgeTable, 50 ≤ x.interval.toNat ∧ x.interval.toNat ≤ 5000 ∧ 1 ≤ x.length.toNat) ∧
      ∀ (n : Nat) (x y : LevelParam), edgeTable[n]? = some x → edgeTable[n + 1]? = some y →
        y.interval.toNat ≤ x.interval.toNat) ∧
    12 < (List.replicate 13 (⟨50, 1⟩ : LevelParam)).length ∧
    ∃ (n : Nat) (x y : LevelParam), [(⟨50, 1⟩ : LevelParam), ⟨51, 1⟩][n]? = some x ∧
      [(⟨50, 1⟩ : LevelParam), ⟨51, 1⟩][n + 1]? = some y ∧ x.interval.toNat < y.interval.toNat := by
  refine ⟨⟨⟨rfl, rfl⟩, ⟨rfl, rfl⟩, by decide, by decide⟩, ⟨by decide, by decide, ?_⟩, by decide,
    0, ⟨50, 1⟩, ⟨51, 1⟩, rfl, rfl, by decide⟩
  intro n x y hx hy
  have hn : n + 1 < 12 := (List.getElem?_eq_some_iff.mp hy).1
  have h := edgeTable_falls ⟨n, by omega⟩
  simpa [hx, hy] using h

/-! ### Witnesses: axis events -/

/-- FC at the end of segment 1. -/
def focusTurn : State :=
  focusMove.setChan .fc { focusMove.chan .fc with position := 18969, ramp := ⟨0, 1, .decel⟩ }

/-- A HOME of FC queued while it comes to rest; SH held in a HOME. -/
def slotsQueued : State :=
  { slotsFull with sched := { slotsFull.sched with queue := [portEntry rs .fc .home none] } }
def slotsHome : State := slotsFull.setChan .sh { slotsFull.chan .sh with target := none, heldHome := true }

/-- FC before the last microstep of a correction of the tracker. -/
def correcting : State :=
  let s := trackTick warming
  s.setChan .fc { s.chan .fc with position := 19008, ramp := ⟨0, 1, .decel⟩ }

theorem witness_StepEventMoves :
    (focusMove.powered = true ∧ inMotion (closed.chan .fc).state = false ∧ inMotion (focusMove.chan .fc).state = true) ∧
    (focusTurn.powered = true ∧ (focusTurn.chan .fc).state = .moving ∧ (focusTurn.chan .fc).target = some 19000 ∧
      LastMicrostep (focusTurn.chan .fc).ramp ∧ (stepped (focusTurn.chan .fc)).position ≠ 19000) ∧
    (slotsFull.powered = true ∧ (slotsFull.chan .fc).state = .stopping ∧
      (slotsFull.chan .fc).stopCause = some .allowance ∧ (slotsFull.chan .fc).jog = none ∧
      LastMicrostep (slotsFull.chan .fc).ramp ∧ slotsFull.sched.slot1 ≠ .granted .fc ∧
      slotsFull.sched.slot2 ≠ .granted .fc ∧ allowance slotsFull ≤ slotsFull.sched.grantedCount ∧
      slotsFull.sched.entryOf .fc = none) ∧
    (slotsQueued.sched.entryOf .fc = some (portEntry rs .fc .home none) ∧
      slotsQueued.sched.records.get .fc = some (portRecord rs .move 19990) ∧ (portRecord rs .move 19990).link = none ∧
      originPort (portRecord rs .move 19990).origin = some .system ∧ (slotsQueued.chan .fc).state = .stopping ∧
      allowance slotsQueued ≤ slotsQueued.sched.grantedCount) ∧
    (Axis.sh ≠ .zm ∧ (slotsFull.chan .zm).state = .moving ∧
      (slotsFull.chan .zm).target = some (stepped (slotsFull.chan .zm)).position ∧
      LastMicrostep (slotsFull.chan .zm).ramp ∧ slotsFull.sched.records.get .zm = some (portRecord rs .move 19990) ∧
      slotsFull.sched.slot1 = .granted .zm ∧ slotsFull.sched.slot2.grantee = none ∧
      slotsFull.sched.slot2.holder ≠ some .zm ∧ allowance slotsFull = 1 ∧ slotsFull.sched.held = [.sh] ∧
      slotsFull.sched.records.get .sh = some (portRecord rs .move 19990) ∧ (slotsFull.chan .sh).target = some 47489 ∧
      softClamp (slotsFull.chan .sh).settings 47489 ≠ (slotsFull.chan .sh).position) ∧
    ((slotsHome.chan .sh).heldHome = true ∧ slotsHome.sched.held = [.sh] ∧ (slotsHome.chan .zm).state = .moving) ∧
    (correcting.powered = true ∧ (correcting.chan .fc).state = .moving ∧
      (correcting.chan .fc).target = some (stepped (correcting.chan .fc)).position ∧
      LastMicrostep (correcting.chan .fc).ramp ∧ correcting.sched.queue = [] ∧ correcting.sched.held = []) ∧
    ∃ x, correcting.sched.records.get .fc = some x ∧ x.origin = .focusTrack ∧ x.link = none ∧ x.ran = true :=
  ⟨by decide, ⟨by decide, by decide, by decide, ⟨by decide, by decide, by decide⟩, by decide⟩,
    ⟨by decide, by decide, by decide, by decide, ⟨by decide, by decide, by decide⟩, by decide⟩, by decide,
    ⟨by decide, by decide, by decide, ⟨by decide, by decide, by decide⟩, by decide⟩, by decide,
    ⟨by decide, by decide, by decide, ⟨by decide, by decide, by decide⟩, by decide⟩, _, rfl, rfl, rfl, rfl⟩

theorem witness_SegmentEndsExactly : LengthsPositive defaultTable ∧ 1 ≤ 1 := by unfold LengthsPositive; decide

theorem witness_StopDistanceExact :
    (LengthsPositive defaultTable ∧ 7 ≤ topLevel defaultTable) ∧ LengthsPositive [⟨50, 1⟩] ∧ 0 ≤ topLevel [⟨50, 1⟩] := by
  unfold LengthsPositive; decide

/-- ZM granted a move up by seven microsteps. -/
def zoomMove : State := after (.move rs 2 520) near

/-- ZM granted a move down by one microstep. -/
def zoomDown : State := after (.move rs 2 512) near

theorem witness_MoveReachesTarget :
    (zoomMove.powered = true ∧ (zoomMove.chan .zm).state = .moving ∧ (zoomMove.chan .zm).target = some 520 ∧
      (zoomMove.chan .zm).segEnd = 520 ∧ 7 = (520 - (zoomMove.chan .zm).position).natAbs ∧
      (zoomMove.chan .zm).dir = (if (zoomMove.chan .zm).position < 520 then .pos else .neg) ∧
      LengthsPositive (zoomMove.chan .zm).table ∧ (zoomMove.chan .zm).peak = peakLevel (zoomMove.chan .zm).table 7 ∧
      (zoomMove.chan .zm).ramp = rampBegin (zoomMove.chan .zm).table (zoomMove.chan .zm).peak 7 ∧
      zoomMove.sched.queue = [] ∧ zoomMove.sched.held = []) ∧
    zoomDown.powered = true ∧ (zoomDown.chan .zm).state = .moving ∧ (zoomDown.chan .zm).target = some 512 ∧
      (zoomDown.chan .zm).segEnd = 512 ∧ 1 = (512 - (zoomDown.chan .zm).position).natAbs ∧
      (zoomDown.chan .zm).dir = (if (zoomDown.chan .zm).position < 512 then .pos else .neg) ∧
      (zoomDown.chan .zm).peak = peakLevel (zoomDown.chan .zm).table 1 ∧
      (zoomDown.chan .zm).ramp = rampBegin (zoomDown.chan .zm).table (zoomDown.chan .zm).peak 1 ∧
      zoomDown.sched.queue = [] ∧ zoomDown.sched.held = [] := by
  unfold LengthsPositive; decide

/-- FC at rest, its hold timer at its last tick, its raw home switch just pressed. -/
def settling : State :=
  after (.homeSwitchChange .fc true)
    (closed.setChan .fc { closed.chan .fc with energized := true, holdTimer := 1 })

theorem witness_SwitchAndCoils :
    closed.powered = true ∧ (true ≠ (closed.chan .fc).switch.pin ∧ true ≠ (closed.chan .fc).switch.filtered) ∧
    (false ≠ (settling.chan .fc).switch.pin ∧ false = (settling.chan .fc).switch.filtered) ∧
    ((settling.chan .fc).switch.stable = true ∧ inMotion (settling.chan .fc).state = false) ∧
    (settling.chan .fc).holdTimer = 1 := by decide

/-- ZM in BACKOFF for the system port as the release is taken. -/
def zoomBackoff : State :=
  let s := after (.home rs 2) (inPhase .lit)
  s.setChan .zm
    { s.chan .zm with
      position := -3000, dir := .pos, homing := some ⟨.backoff, 74, .running⟩, ramp := ⟨0, 0, .cruise⟩
      switch := { pin := false, filtered := true, stable := true, edgePos := -3000, edgeUp := true } }

/-- ZM homing for the system port in a phase and at a place of its ramp, its home switch about to be taken. -/
def zoomAt (h : Homing) (rp : RampPos) : State :=
  let s := after (.home rs 2) (inPhase .lit)
  s.setChan .zm
    { s.chan .zm with
      homing := some h, ramp := rp
      switch := { pin := true, filtered := false, stable := true, edgePos := 0, edgeUp := false } }

/-- What the statements on a homing that ends ask of the port's record and the scheduler. -/
theorem zoomAt_record (h : Homing) (rp : RampPos) :
    (zoomAt h rp).powered = true ∧ ((zoomAt h rp).chan .zm).state = .homing ∧ ((zoomAt h rp).chan .zm).homing = some h ∧
      (zoomAt h rp).sched.queue = [] ∧ (zoomAt h rp).sched.held = [] ∧
      (zoomAt h rp).sched.records.get .zm = some (portRecord rs .home 0) ∧ (portRecord rs .home 0).kind = .home ∧
      (portRecord rs .home 0).ran = true ∧ originPort (portRecord rs .home 0).origin = some .system :=
  ⟨rfl, rfl, rfl, rfl, rfl, rfl, rfl, rfl, rfl⟩

theorem witness_HomingEnds :
    (zoomBackoff.powered = true ∧ (zoomBackoff.chan .zm).state = .homing ∧
      (zoomBackoff.chan .zm).homing = some ⟨.backoff, 74, .running⟩ ∧ (zoomBackoff.chan .zm).switch.stable = true ∧
      (zoomBackoff.chan .zm).switch.pin = false ∧ zoomBackoff.sched.queue = [] ∧ zoomBackoff.sched.held = [] ∧
      zoomBackoff.sched.records.get .zm = some (portRecord rs .home 0)) ∧
    (((zoomAt ⟨.fast, 9, .running⟩ ⟨1, 3, .cruise⟩).chan .zm).switch.stable = true ∧
      ((zoomAt ⟨.fast, 9, .running⟩ ⟨1, 3, .cruise⟩).chan .zm).switch.pin = true ∧
      ((zoomAt ⟨.fast, 9, .running⟩ ⟨1, 3, .cruise⟩).chan .zm).ramp.level = 0 + 1 ∧
      ((zoomAt ⟨.fast, 9, .running⟩ ⟨0, 3, .accel⟩).chan .zm).ramp.level = 0) ∧
    (50046 + 1 < ((zoomAt ⟨.fast, 50046, .running⟩ ⟨1, 3, .cruise⟩).chan .zm).settings.travel + 2048 ∧
      ((zoomAt ⟨.fast, 50047, .running⟩ ⟨1, 3, .cruise⟩).chan .zm).settings.travel + 2048 ≤ 50047 + 1 ∧
      ((zoomAt ⟨.fast, 50047, .running⟩ ⟨1, 3, .cruise⟩).chan .zm).ramp.part = .cruise) ∧
    (LastMicrostep ((zoomAt ⟨.fast, 9, .slowing⟩ ⟨0, 1, .decel⟩).chan .zm).ramp ∧ 4094 + 1 < 4096 ∧
      ((zoomAt ⟨.backoff, 4095, .running⟩ ⟨0, 0, .cruise⟩).chan .zm).homing = some ⟨.backoff, 4095, .running⟩ ∧
      4096 ≤ 4095 + 1 ∧ LastMicrostep ((zoomAt ⟨.fast, 50048, .failing⟩ ⟨0, 1, .decel⟩).chan .zm).ramp) ∧
    ((zoomAt ⟨.fast, 50048, .failing⟩ ⟨0, 1, .decel⟩).chan .zm).homing = some ⟨.fast, 50048, .failing⟩ ∧
      ((zoomAt ⟨.fast, 50048, .failing⟩ ⟨0, 1, .decel⟩).chan .zm).switch.stable = true ∧
      ((zoomAt ⟨.fast, 50048, .failing⟩ ⟨0, 1, .decel⟩).chan .zm).switch.pin = true :=
  ⟨by decide, by decide, by decide,
    ⟨⟨by decide, by decide, by decide⟩, by decide, by decide, by decide, ⟨by decide, by decide, by decide⟩⟩, by decide⟩

/-- ZM moving up from 513 past its home edge with an error of `e`, in level 1. -/
def zoomPassing (e : Int) : State :=
  let s := after (.move rs 2 600) near
  s.setChan .zm
    { s.chan .zm with
      position := 520 + e, homeEdge := 520, ramp := ⟨1, 3, .accel⟩
      switch := { pin := false, filtered := true, stable := true, edgePos := 520 + e, edgeUp := true } }

/-- The same with the travel turned negative, the raw edge not taken moving positive, no reference, and at rest. -/
def zoomTurned (k : Nat) : State :=
  let s := zoomPassing 24
  let c := s.chan .zm
  s.setChan .zm
    (match k with
    | 0 => { c with dir := .neg }
    | 1 => { c with switch := { c.switch with edgeUp := false } }
    | 2 => { c with referenced := false }
    | _ => { c with state := .idle })

/-- The same with `r` microsteps of its segment left once the error is taken off. -/
def zoomEnding (e r : Int) : State :=
  (zoomPassing e).setChan .zm { (zoomPassing e).chan .zm with segEnd := 520 + r }

/-- The same on the way to 520. -/
def zoomArrived (e r : Int) : State :=
  (zoomEnding e r).setChan .zm { (zoomEnding e r).chan .zm with target := some 520 }

/-- The same STOPPING, and its slot RUNDOWN. -/
def zoomStopping (e r : Int) (cause : StopCause) : State :=
  let s := (zoomEnding e r).setChan .zm
    { (zoomEnding e r).chan .zm with state := .stopping, stopCause := some cause, ramp := ⟨1, 3, .decel⟩ }
  { s with phase := { s.phase with phase := .fault }, sched := { s.sched with slot1 := .rundown .zm } }

/-- ZM jogging up past its home edge with an error of `e`, `r` below its soft limit once the error is taken off. -/
def zoomJogging (e : Int) (r : Nat) : State :=
  let s := zoomPassing e
  let t := s.setChan .zm
    { s.chan .zm with
      state := .jogging, jog := some ⟨.pos, 3⟩, target := none, segment := none
      settings := { (s.chan .zm).settings with softMax := 520 + r } }
  { t with sched := { t.sched with records := t.sched.records.set .zm (some (portRecord rs (.jog 13) 513)) } }

/-- The same STOPPING. -/
def jogStopping (e : Int) (r : Nat) (cause : StopCause) : State :=
  let s := zoomJogging e r
  { s.setChan .zm { s.chan .zm with state := .stopping, stopCause := some cause, ramp := ⟨1, 3, .decel⟩ } with
    sched := { s.sched with slot1 := .rundown .zm } }

/-- ZM at level 0. -/
def zoomSlow (s : State) : State := s.setChan .zm { s.chan .zm with ramp := ⟨0, 3, .accel⟩ }

/-- A HOME of ZM queued behind its motion. -/
def homeBehind (s : State) : State := { s with sched := { s.sched with queue := [portEntry rs .zm .home none] } }

/-- A distance of 16, A of level 1, keeps level 1 and begins DECEL; one of 15 falls to level 0 and runs it out; a
deceleration is shortened to what is left (R25). -/
theorem test_resync_ramp :
    ((after (.homeFilterExpiry .zm) (zoomEnding 24 16)).chan .zm).ramp = ⟨0, 16, .decel⟩ ∧
    ((after (.homeFilterExpiry .zm) (zoomEnding 24 15)).chan .zm).ramp = ⟨0, 15, .cruise⟩ ∧
    ((after (.homeFilterExpiry .zm) (zoomStopping 24 18 .stop)).chan .zm).ramp = ⟨1, 2, .decel⟩ ∧
    ((after (.homeFilterExpiry .zm) (zoomStopping 24 19 .stop)).chan .zm).ramp = ⟨1, 3, .decel⟩ := by decide

/-- Errors of 24, at the tolerance, and of −25, beyond it. -/
theorem witness_HomeEdgeChecked :
    (((zoomTurned 0).chan .zm).dir = .neg ∧ ((zoomTurned 1).chan .zm).switch.edgeUp = false ∧
      ((zoomTurned 2).chan .zm).referenced = false ∧ inMotion ((zoomTurned 3).chan .zm).state = false ∧
      ∀ k : Fin 4, (zoomTurned k).powered = true ∧ ((zoomTurned k).chan .zm).switch.stable = true ∧
        ((zoomTurned k).chan .zm).switch.pin = false ∧ ((zoomTurned k).chan .zm).state ≠ .homing) ∧
    (PassesEdge (zoomPassing 0) .zm .moving 0 ∧ PassesEdge (zoomPassing (-25)) .zm .moving (-25) ∧
      PassesEdge (zoomJogging 25 9) .zm .jogging 25 ∧ PassesEdge (zoomStopping 25 9 .stop) .zm .stopping 25) ∧
    (((zoomPassing (-25)).chan .zm).settings.tolerance < ((-25 : Int)).natAbs ∧
      ((zoomPassing (-25)).chan .zm).ramp.level = 0 + 1 ∧ (zoomPassing (-25)).sched.entryOf .zm = none ∧
      ((zoomJogging 25 9).chan .zm).ramp.level = 0 + 1 ∧ (zoomJogging 25 9).sched.entryOf .zm = none ∧
      (zoomStopping 25 9 .stop).sched.entryOf .zm = none ∧
      (∃ en, (homeBehind (zoomStopping 25 9 .stop)).sched.entryOf .zm = some en ∧ en.motion = .home)) ∧
    (((zoomSlow (zoomPassing 25)).chan .zm).ramp.level = 0 ∧ (zoomSlow (zoomPassing 25)).sched.queue = [] ∧
      (zoomSlow (zoomPassing 25)).sched.held = [] ∧ ((zoomSlow (zoomJogging 25 9)).chan .zm).ramp.level = 0) ∧
    (PassesEdge (zoomSlow (zoomPassing 25)) .zm .moving 25 ∧
      ToldTo (zoomSlow (zoomPassing 25)) .zm (portRecord rs .move 513) .system ∧
      PassesEdge (zoomSlow (zoomJogging 25 9)) .zm .jogging 25 ∧
      ToldTo (zoomSlow (zoomJogging 25 9)) .zm (portRecord rs (.jog 13) 513) .system) ∧
    (PassesEdge (zoomPassing 24) .zm .moving 24 ∧ PassesEdge (zoomEnding 24 16) .zm .moving 24 ∧
      PassesEdge (zoomEnding 24 15) .zm .moving 24 ∧ PassesEdge (zoomEnding (-24) 0) .zm .moving (-24) ∧
      PassesEdge (zoomEnding 24 (-1)) .zm .moving 24 ∧ PassesEdge (zoomJogging 24 9) .zm .jogging 24 ∧
      PassesEdge (zoomJogging 24 0) .zm .jogging 24 ∧ PassesEdge (zoomStopping 24 9 .stop) .zm .stopping 24 ∧
      PassesEdge (zoomStopping (-24) 0 .allowance) .zm .stopping (-24)) ∧
    (((24 : Int)).natAbs ≤ ((zoomPassing 24).chan .zm).settings.tolerance ∧
      ((zoomEnding 24 16).chan .zm).jog = none ∧
      ((zoomEnding 24 16).chan .zm).segEnd - (((zoomEnding 24 16).chan .zm).position - 24) = 16 ∧
      ((zoomJogging 24 9).chan .zm).jog.isSome = true ∧
      ((zoomJogging 24 9).chan .zm).settings.softMax - (((zoomJogging 24 9).chan .zm).position - 24) = 9) ∧
    (((zoomEnding (-24) 0).chan .zm).target = some 600 ∧ (600 : Int) ≠ 520 ∧
      ((zoomEnding 24 (-1)).chan .zm).target = some 600 ∧
      softClamp ((zoomEnding 24 (-1)).chan .zm).settings 600 ≠ 520) ∧
    (((zoomStopping (-24) 0 .allowance).chan .zm).stopCause = some .allowance ∧
      ((zoomStopping (-24) 0 .allowance).chan .zm).jog = none ∧
      ((zoomStopping (-24) 0 .allowance).chan .zm).target.isSome = true ∧
      (zoomStopping (-24) 0 .allowance).sched.entryOf .zm = none ∧
      (zoomStopping (-24) 0 .allowance).sched.slot1 = .rundown .zm ∧
      (zoomStopping (-24) 0 .allowance).sched.slot2 = .free ∧
      allowance (zoomStopping (-24) 0 .allowance) ≤ (zoomStopping (-24) 0 .allowance).sched.grantedCount) ∧
    (ToldTo (zoomJogging 24 0) .zm (portRecord rs (.jog 13) 513) .system ∧
      ToldTo (zoomArrived 24 0) .zm (portRecord rs .move 513) .system ∧
      ToldTo (zoomStopping 24 (-1) .stop) .zm (portRecord rs .move 513) .system ∧
      ToldTo (jogStopping 24 0 .expiry) .zm (portRecord rs (.jog 13) 513) .system) ∧
    (PassesEdge (zoomArrived 24 0) .zm .moving 24 ∧ PassesEdge (zoomArrived 24 (-1)) .zm .moving 24 ∧
      PassesEdge (zoomStopping 24 (-1) .stop) .zm .stopping 24 ∧
      PassesEdge (jogStopping 24 0 .expiry) .zm .stopping 24) ∧
    ((zoomArrived 24 0).sched.queue = [] ∧ (zoomArrived 24 0).sched.held = [] ∧
      ((zoomArrived 24 0).chan .zm).target = some 520 ∧ ((zoomArrived 24 0).chan .zm).segEnd = 520 ∧
      softClamp ((zoomArrived 24 (-1)).chan .zm).settings 520 = 520 ∧ ((zoomArrived 24 (-1)).chan .zm).segEnd = 519) ∧
    (((zoomStopping 24 (-1) .stop).chan .zm).target.isSome = true ∧
      ((jogStopping 24 0 .expiry).chan .zm).jog.isSome = true ∧
      ((jogStopping 24 0 .expiry).chan .zm).stopCause = some .expiry) :=
  ⟨by decide, ⟨⟨rfl, rfl, .inl rfl, rfl, ⟨rfl, rfl⟩, ⟨rfl, rfl⟩, rfl⟩, ⟨rfl, rfl, .inl rfl, rfl, ⟨rfl, rfl⟩, ⟨rfl, rfl⟩, rfl⟩, ⟨rfl, rfl, .inr (.inl rfl), rfl, ⟨rfl, rfl⟩, ⟨rfl, rfl⟩, rfl⟩, ⟨rfl, rfl, .inr (.inr rfl), rfl, ⟨rfl, rfl⟩, ⟨rfl, rfl⟩, rfl⟩⟩,
    ⟨by decide, by decide, by decide, by decide, by decide, by decide, _, rfl, rfl⟩, by decide,
    ⟨⟨rfl, rfl, .inl rfl, rfl, ⟨rfl, rfl⟩, ⟨rfl, rfl⟩, rfl⟩, ⟨rfl, rfl, rfl, rfl⟩, ⟨rfl, rfl, .inr (.inl rfl), rfl, ⟨rfl, rfl⟩, ⟨rfl, rfl⟩, rfl⟩, ⟨rfl, rfl, rfl, rfl⟩⟩,
    ⟨⟨rfl, rfl, .inl rfl, rfl, ⟨rfl, rfl⟩, ⟨rfl, rfl⟩, rfl⟩, ⟨rfl, rfl, .inl rfl, rfl, ⟨rfl, rfl⟩, ⟨rfl, rfl⟩, rfl⟩, ⟨rfl, rfl, .inl rfl, rfl, ⟨rfl, rfl⟩, ⟨rfl, rfl⟩, rfl⟩, ⟨rfl, rfl, .inl rfl, rfl, ⟨rfl, rfl⟩, ⟨rfl, rfl⟩, rfl⟩, ⟨rfl, rfl, .inl rfl, rfl, ⟨rfl, rfl⟩, ⟨rfl, rfl⟩, rfl⟩, ⟨rfl, rfl, .inr (.inl rfl), rfl, ⟨rfl, rfl⟩, ⟨rfl, rfl⟩, rfl⟩, ⟨rfl, rfl, .inr (.inl rfl), rfl, ⟨rfl, rfl⟩, ⟨rfl, rfl⟩, rfl⟩,
      ⟨rfl, rfl, .inr (.inr rfl), rfl, ⟨rfl, rfl⟩, ⟨rfl, rfl⟩, rfl⟩, ⟨rfl, rfl, .inr (.inr rfl), rfl, ⟨rfl, rfl⟩, ⟨rfl, rfl⟩, rfl⟩⟩, by decide, by decide, by decide, ⟨⟨rfl, rfl, rfl, rfl⟩, ⟨rfl, rfl, rfl, rfl⟩, ⟨rfl, rfl, rfl, rfl⟩, ⟨rfl, rfl, rfl, rfl⟩⟩,
    ⟨⟨rfl, rfl, .inl rfl, rfl, ⟨rfl, rfl⟩, ⟨rfl, rfl⟩, rfl⟩, ⟨rfl, rfl, .inl rfl, rfl, ⟨rfl, rfl⟩, ⟨rfl, rfl⟩, rfl⟩, ⟨rfl, rfl, .inr (.inr rfl), rfl, ⟨rfl, rfl⟩, ⟨rfl, rfl⟩, rfl⟩, ⟨rfl, rfl, .inr (.inr rfl), rfl, ⟨rfl, rfl⟩, ⟨rfl, rfl⟩, rfl⟩⟩, by decide, by decide⟩

/-! ### Witnesses: lens memories -/

/-- A write of slot 9 running. -/
def writing : State := after (.store rs 9) closed

theorem witness_MemoryWritten :
    (portTakes writing rs.port = true ∧ (9 : Byte).toNat < 10 ∧ writing.mem.job.isSome = true ∧ writing.powered = true) ∧
    ((State.reset.chan .zm).state ≠ .absent ∧ (State.reset.chan .zm).state ≠ .idle) ∧
    closed.mem.job = none ∧ closed.powered = true ∧
    ∀ a, (closed.chan a).state = .idle ∧ (closed.chan a).referenced = true ∧ closed.sched.entryOf a = none :=
  ⟨by decide, by decide, by decide, by decide, fun a => by cases a <;> decide⟩

/-- A picture of slot 9: SH beyond its soft limit and a demand of SV. -/
def picture9 : Picture := { position := ⟨some 47489, some 0, none, none⟩, demandSh := none, demandSv := some 100, kv := 5, kh := 0 }

def holding (s : State) (p : Picture) : State := { s with mem := { s.mem with records := s.mem.records.set 9 (some p) } }

/-- No axis fitted, slot 9 holding keystone values. -/
def noAxesFitted : State :=
  holding (absentAt .sh (absentAt .sv (absentAt .zm (absentAt .fc closed)))) { picture9 with demandSv := none }

/-- Every axis IDLE and referenced, slot 9 with two of their targets, and the same with SV absent. -/
theorem witness_RecallTaken :
    (portTakes State.reset rs.port = true ∧ (9 : Byte).toNat < 10 ∧ phaseRefuses State.reset.phase.phase = true) ∧
    (phaseRefuses closed.phase.phase = false ∧ memoryImage closed.mem (9 : Byte).toNat = none) ∧
    (memoryImage (holding (inPhase .lit) picture9).mem (9 : Byte).toNat = some picture9 ∧
      ((inPhase .lit).chan .zm).state ≠ .absent ∧ ((inPhase .lit).chan .zm).referenced = false) ∧
    (memoryImage (holding closed picture9).mem (9 : Byte).toNat = some picture9 ∧ NoGrant (holding closed picture9) ∧
      (recallTarget picture9 (holding closed picture9) .sh).isSome = true ∧
      ∀ a, ((holding closed picture9).chan a).referenced = true ∧
        ((holding closed picture9).chan a).settings.softMin ≤ ((holding closed picture9).chan a).settings.softMax ∧
        (holding closed picture9).sched.entryOf a = none ∧ ((holding closed picture9).chan a).state ≠ .held ∧
        ∀ x, recallTarget picture9 (holding closed picture9) a = some x →
          ((holding closed picture9).chan a).position ≠ x.1) ∧
    (((absentAt .sv (holding closed picture9)).chan .sv).state = .absent ∧ picture9.demandOf .sv = some 100) ∧
    (memoryImage noAxesFitted.mem (9 : Byte).toNat = some { picture9 with demandSv := none } ∧
      (∀ a, (noAxesFitted.chan a).state = .absent) ∧ noAxesFitted.recallUnit.ctx = none ∧
      noAxesFitted.sched.queue = [] ∧ noAxesFitted.sched.held = []) := by
  refine ⟨by decide, by decide, by decide, ⟨by decide, .inr (by decide), by decide, fun a => ?_⟩, by decide, by decide,
    fun a => by cases a <;> decide, by decide⟩
  refine ⟨by cases a <;> decide, by cases a <;> decide, by cases a <;> decide, by cases a <;> decide, fun x h => ?_⟩
  cases a
  · cases (show recallTarget picture9 (holding closed picture9) .sh = some (47488, none) by decide).symm.trans h; decide
  · cases (show recallTarget picture9 (holding closed picture9) .sv = some (29000, some ⟨100, 0⟩) by decide).symm.trans h
    decide
  · cases (show recallTarget picture9 (holding closed picture9) .zm = none by decide).symm.trans h
  · cases (show recallTarget picture9 (holding closed picture9) .fc = none by decide).symm.trans h

/-! ### Witnesses: geometry and stream -/

theorem witness_InputsWritten :
    (portTakes State.reset rs.port = true ∧ Takes State.reset rs .systemOnly ∧ orientationOfCode 0 = some .floor ∧
      orientationOfCode 1 = some .ceiling ∧ Orientation.floor = State.reset.geom.inputs.orientation) ∧
    (clampInt (-60) 60 (61 : Half).toInt = 60 ∧ { resetInputs with kv := 60, keystoneClamped := true } ≠ resetInputs) ∧
    (Takes banded rs .systemOnly ∧ banded.stream.mode ≠ .off) ∧ State.reset.stream.mode = .off ∧
    (640 ≤ (640 : Half).toNat ∧ (3840 : Half).toNat ≤ 3840 ∧ 360 ≤ (360 : Half).toNat ∧ (2160 : Half).toNat ≤ 2160) ∧
    ((639 : Half).toNat < 640 ∧ 3840 < (3841 : Half).toNat ∧ (359 : Half).toNat < 360 ∧ 2160 < (2161 : Half).toNat ∧
      (6 : Byte) ≠ 5 ∧ (6 : Byte) ≠ 9 ∧ (6 : Byte) ≠ 17) :=
  ⟨⟨by decide, ⟨rfl, rfl⟩, by decide⟩, by decide, ⟨⟨rfl, rfl⟩, by decide⟩, by decide, by decide, by decide⟩

/-- The compute of the reset in a part whose picture port streams, and one asked to restart. -/
def streaming : State := { present State.reset with stream := { resetStream with mode := .frame } }
def restarting : State := after (.setKeystone rs 1 0) State.reset

theorem witness_ComputeEnds :
    (banded.powered = true ∧ banded.geom.engine ≠ .computing) ∧
    (restarting.geom.engine = .computing ∧ restarting.geom.bank = some .a ∧ restarting.geom.snapshot = some resetInputs ∧
      restarting.geom.restart = true) ∧
    (State.reset.geom.restart = false ∧ State.reset.geom.engine = .computing ∧ State.reset.geom.bank = some .a ∧
      State.reset.geom.snapshot = some resetInputs ∧ State.reset.presence.present = false) ∧
    streaming.geom.restart = false ∧ streaming.geom.engine = .computing ∧ streaming.presence.present = true ∧
      streaming.stream.mode ≠ .off := by decide

/-- The inputs at the edges of their ranges. -/
theorem witness_GridOnPanel :
    InputsInRange { resetInputs with kv := 60, kh := -60, excessH := 1000, excessV := -1000, w := 3840, h := 2160, g := 17 } ∧
    InputsInRange { resetInputs with w := 640, h := 360, g := 5 } ∧ (0 : Nat) ≤ 1 :=
  ⟨⟨by decide, by decide, by decide, by decide, by decide, by decide, by decide⟩,
    ⟨by decide, by decide, by decide, by decide, by decide, by decide, by decide⟩, by decide⟩

/-- The bank of 4.3 in FRAME mode, down to its last word. -/
theorem witness_FrameStreamed :
    banded.powered = true ∧ ({ banded with stream := { banded.stream with mode := .frame } } : State).stream.mode = .frame ∧
      banded.stream.activity = .idle ∧ banded.stream.finishing = none ∧ banded.geom.engine ≠ .swapPending ∧
      banded.banks.live = some .b ∧ (banded.banks.get .b).state = .valid ∧ (banded.banks.get .b).w < 65536 ∧
      (banded.banks.get .b).h < 65536 ∧ 1 ≤ (banded.banks.get .b).g ∧ (banded.banks.get .b).g < 256 ∧
      (banded.banks.get .b).points.length = (banded.banks.get .b).g * (banded.banks.get .b).g ∧
      (∀ p ∈ (banded.banks.get .b).points, (0 ≤ p.x ∧ p.x < 65536) ∧ 0 ≤ p.y ∧ p.y < 65536) ∧
      28 < 4 + (banded.banks.get .b).g * (banded.banks.get .b).g := by decide

/-- Row 0 after `words` words. -/
def rowSent (words : Nat) : State :=
  { rowRunning with stream := { rowRunning.stream with bandPending := false, wordCount := words } }

/-- BAND mode with the last row next, and with none left. -/
def rowsAt (n : Nat) : State := { banded with stream := { banded.stream with frameBank := some .b, rowPtr := n } }

/-- A send running over no live bank: no run reaches it, and a strobe over it begins an empty frame. -/
def sendingNone : State :=
  { sending with geom := banded.geom, banks := { sending.banks with live := none } }

theorem witness_StreamRuled :
    (Takes banded rp .pictureOnly ∧ modeOfCode 2 = some .band ∧ modeOfCode 0 = some .off ∧ modeOfCode 1 = some .frame ∧
      Takes (present State.reset) rp .pictureOnly ∧ State.reset.stream.mode = .off) ∧
    (banded.stream.mode = .band ∧ banded.stream.activity = .idle ∧ banded.stream.finishing = none ∧
      banded.geom.engine ≠ .swapPending) ∧
    (Takes pendingSwap rp .pictureOnly ∧ pendingSwap.stream.mode ≠ .off ∧ pendingSwap.stream.activity = .idle ∧
      pendingSwap.stream.finishing = none ∧ pendingSwap.geom.engine = .swapPending ∧ pendingSwap.geom.bank = some .b) ∧
    (Takes sending rp .pictureOnly ∧ sending.stream.mode ≠ .off ∧ sending.stream.activity ≠ .idle ∧
      sending.stream.finishing = none ∧ sending.geom.engine = .swapPending ∧ sending.geom.bank = some .b) ∧
    ((∃ f, (after (.setStream rp 0) sending).stream.finishing = some f ∧ f.bands = 0 ∧ f.strobe = false ∧
        f.begins = none) ∧
      (∃ f, (after .frameStrobe sending).stream.finishing = some f ∧ f.bands = 0 ∧ f.strobe = true ∧
        f.begins = some (.bank .b 41)) ∧
      (∃ f, (after (.setStream rp 2) (after .frameStrobe sending)).stream.finishing = some f ∧ f.bands = 0 ∧
        f.strobe = true ∧ f.begins = none) ∧
      (∃ f, (after .frameStrobe sendingNone).stream.finishing = some f ∧ f.bands = 0 ∧ f.strobe = true ∧
        f.begins = some .empty) ∧
      (Takes glitched rp .pictureOnly ∧ glitched.stream.finishing ≠ none ∧ glitched.stream.activity ≠ .idle ∧
        glitched.stream.mode = .frame) ∧
      glitched.geom.engine ≠ .swapPending ∧ glitched.banks.live = some .a ∧ (glitched.banks.get .a).state = .valid ∧
      sendingNone.stream.activity ≠ .idle ∧ sendingNone.stream.mode ≠ .off ∧ sendingNone.geom.engine ≠ .swapPending ∧
      sendingNone.banks.live = none) ∧
    (rowRunning.powered = true ∧ rowRunning.stream.mode = .band ∧ rowRunning.stream.activity ≠ .idle ∧
      rowRunning.geom.engine ≠ .swapPending ∧ rowRunning.stream.frameBank = some .b ∧
      rowRunning.stream.bandPending = true) ∧
    banded.stream.frameBank = none ∧
    ((rowsAt 4).stream.rowPtr < ((rowsAt 4).banks.get .b).g ∧ (rowsAt 4).stream.activity = .idle) ∧
    ((rowsAt 5).banks.get .b).g ≤ (rowsAt 5).stream.rowPtr ∧
    (streaming.stream.mode ≠ .off ∧ streaming.stream.activity = .idle ∧ streaming.stream.finishing = none ∧
      streaming.geom.engine ≠ .swapPending ∧ streaming.banks.live = none) ∧
    (banded.banks.live = some .b ∧ (banded.banks.get .b).state = .valid ∧ (pendingSwap.banks.get .b).state = .valid) ∧
    ((rowSent 0).powered = true ∧ (rowSent 0).stream.activity = .row ∧ (rowSent 0).stream.finishing = none ∧
      (rowSent 0).stream.bandPending = false ∧ (rowSent 0).stream.rowPtr = 0 + 1 ∧ (rowSent 0).stream.wordCount = 0 ∧
      1 ≤ ((rowSent 0).banks.get .b).g) ∧
    (rowSent 5).stream.wordCount = 4 + 1 ∧ 4 < ((rowSent 5).banks.get .b).g ∧
      ((rowSent 5).banks.get .b).points[0 * ((rowSent 5).banks.get .b).g + 4]? = some ⟨28103, 1⟩ :=
  ⟨⟨⟨rfl, rfl⟩, rfl, rfl, rfl, ⟨rfl, rfl⟩, rfl⟩, by decide, ⟨⟨rfl, rfl⟩, by decide⟩, ⟨⟨rfl, rfl⟩, by decide⟩,
    ⟨⟨_, rfl, rfl, rfl, rfl⟩, ⟨_, rfl, rfl, rfl, rfl⟩, ⟨_, rfl, rfl, rfl, rfl⟩, ⟨_, rfl, rfl, rfl, rfl⟩,
      ⟨⟨rfl, rfl⟩, by decide⟩, by decide⟩, by decide, by decide, by decide, by decide, by decide,
    by decide, by decide, by decide⟩

/-! ### Witnesses: cooling and measurement -/

def edgeZone : ZoneParams := { members := 511, warm := 0xFE70, hot := 0xFE71, crit := 1500, derate := 10 }
def edgeFan : FanParams := { present := 1, served := 15, minDuty := 60, rpmMin := 100, rpmMax := 20000 }
def edgeCurve : List PointParam := [⟨0xFE70, 0⟩, ⟨0, 0⟩, ⟨1, 1⟩, ⟨2, 100⟩, ⟨3, 100⟩, ⟨1500, 100⟩]

theorem edgeCurve_rises : ∀ n : Fin 5, ((edgeCurve[n.val]?).bind fun x => (edgeCurve[n.val + 1]?).map fun y =>
    decide (x.t.toInt < y.t.toInt ∧ x.d.toNat ≤ y.d.toNat)) = some true := by decide

/-- F3 FAILED, its number handed. -/
def fanLost : State :=
  { State.reset with
    cool := { State.reset.cool with fans := State.reset.cool.fans.set .f3 { State.reset.cool.fans.f3 with state := .failed } }
    phase := { State.reset.phase with failedFans := 1 } }

theorem witness_CoolingWritten :
    (Takes State.reset rs .systemOnly ∧ zoneOfCode 3 = some .z3 ∧ (∃ m, chanSetOfBits 511 = some m ∧ m.any = true) ∧
      (-400 ≤ edgeZone.warm.toInt ∧ edgeZone.warm.toInt < edgeZone.hot.toInt ∧ edgeZone.hot.toInt < edgeZone.crit.toInt ∧
        edgeZone.crit.toInt ≤ 1500) ∧ 10 ≤ edgeZone.derate.toNat ∧ edgeZone.derate.toNat ≤ 100) ∧
    (chanSetOfBits 0 = some noChans ∧ noChans.any = false) ∧
    (orientationOfCode 1 = some .ceiling ∧ edgeCurve.length = 6 ∧
      (∀ p ∈ edgeCurve, -400 ≤ p.t.toInt ∧ p.t.toInt ≤ 1500 ∧ p.d.toNat ≤ 100) ∧
      ∀ (n : Nat) (x y : PointParam), edgeCurve[n]? = some x → edgeCurve[n + 1]? = some y →
        x.t.toInt < y.t.toInt ∧ x.d.toNat ≤ y.d.toNat) ∧
    ((List.replicate 6 (⟨1501, 0⟩ : PointParam)).length = 6 ∧ ¬(1501 : Half).toInt ≤ 1500) ∧
    (yesNoOfCode 1 = some true ∧ (100 : Byte).toNat ≤ 100 ∧ 50 ≤ (50 : Byte).toNat ∧ (49 : Byte).toNat < 50 ∧
      100 < (101 : Byte).toNat) ∧
    (fanOfCode 3 = some .f3 ∧ yesNoOfCode edgeFan.present = some true ∧ yesNoOfCode 0 = some false ∧
      (∃ z, zoneSetOfBits edgeFan.served = some z) ∧ (State.reset.cool.fans.get .f3).state ≠ .failed ∧
      10 ≤ edgeFan.minDuty.toNat ∧ edgeFan.minDuty.toNat ≤ 60 ∧ 100 ≤ edgeFan.rpmMin.toNat ∧
      edgeFan.rpmMin.toNat < edgeFan.rpmMax.toNat ∧ edgeFan.rpmMax.toNat ≤ 20000) ∧
    (Takes fanLost rs .systemOnly ∧ (fanLost.cool.fans.get .f3).state = .failed ∧
      (fanLost.cool.fans.get .f3).present = true ∧ fanLost.phase.failedFans = failedCount fanLost.cool) ∧
    60 < (61 : Byte).toNat := by
  refine ⟨⟨⟨rfl, rfl⟩, rfl, ⟨_, rfl, rfl⟩, by decide⟩, by decide, ⟨rfl, rfl, by decide, ?_⟩, by decide, by decide,
    ⟨rfl, rfl, rfl, ⟨_, rfl⟩, by decide⟩, ⟨⟨rfl, rfl⟩, by decide⟩, by decide⟩
  intro n x y hx hy
  have hn : n + 1 < 6 := (List.getElem?_eq_some_iff.mp hy).1
  have h := edgeCurve_rises ⟨n, by omega⟩
  simpa [hx, hy] using h

theorem witness_MeasureWritten :
    (Takes State.reset rs .systemOnly ∧ (List.replicate 17 (1500 : Half)).length = 17 ∧
      (∀ x ∈ List.replicate 17 (1500 : Half), -400 ≤ x.toInt ∧ x.toInt ≤ 1500) ∧
      ∀ (n : Nat) (x y : Half), (List.replicate 17 (1500 : Half))[n]? = some x →
        (List.replicate 17 (1500 : Half))[n + 1]? = some y → y.toInt ≤ x.toInt) ∧
    (¬(1501 : Half).toInt ≤ 1500 ∧ (List.replicate 17 (1501 : Half)).length = 17) ∧
    (1 ≤ (1 : Byte).toNat ∧ (15 : Byte).toNat ≤ 15) ∧
    (State.reset.powered = true ∧ (after .powerFail State.reset).powered = false) ∧
    ((∀ x ∈ ([512, -512, 0, 0, 0] : List Int), -512 ≤ x ∧ x ≤ 512) ∧ (2000 : Half).toNat ≤ 2000 ∧ (1 : Byte) ≠ 0) ∧
    ((⟨32, 40, 48, 56, 64⟩ : Gains) = State.reset.track.gains ∧ (400 : Half).toNat = State.reset.track.limit) ∧
    (⟨512, -512, 0, 0, 0⟩ : Gains) ≠ State.reset.track.gains ∧ (2000 : Half).toNat ≠ State.reset.track.limit := by
  refine ⟨⟨⟨rfl, rfl⟩, rfl, fun x hx => by rw [List.eq_of_mem_replicate hx]; decide, ?_⟩, by decide, by decide, by decide,
    by decide, by decide, by decide⟩
  intro n x y hx hy
  have h1 := List.eq_of_mem_replicate (List.mem_of_getElem? hx)
  have h2 := List.eq_of_mem_replicate (List.mem_of_getElem? hy)
  subst h1 h2
  decide

/-- A phase with the LASER comparator about to latch. -/
def trippingIn (p : Phase) : State := { tripping with phase := { tripping.phase with phase := p } }

/-- Both latches set, the comparators cold, and the LASER hot. -/
def latchedBoth : State :=
  { inPhase .dark with
    meas :=
      { State.reset.meas with
        laser := { State.reset.meas.laser with latch := true }, wheel := { State.reset.meas.wheel with latch := true } } }
def latchedHot : State := { latchedBoth with meas := latchedBoth.meas.setComp .laser { latchedBoth.meas.laser with active := true } }

theorem witness_TripsLatched :
    (State.reset.powered = true ∧ (State.reset.meas.comp .laser).running = false) ∧
    (tripping.powered = true ∧ (tripping.meas.comp .laser).running = true ∧ (tripping.meas.comp .laser).latch = false ∧
      tripping.phase.phase = .lit ∧ (tripping.cool.fans.get .f0).present = true) ∧
    ((trippingIn .cooldown).phase.phase = .cooldown ∧ ((trippingIn .cooldown).meas.comp .laser).running = true) ∧
    ((trippingIn .start).phase.phase = .start ∧ ((trippingIn .start).meas.comp .laser).running = true) ∧
    (Takes latchedBoth rs .systemOnly ∧ compsOfCode 2 = some [.laser, .wheel] ∧
      ∀ x ∈ [Comp.laser, .wheel], (latchedBoth.meas.comp x).latch = true ∧ (latchedBoth.meas.comp x).active = false) ∧
    (∃ x ∈ [Comp.laser, .wheel], (latchedHot.meas.comp x).latch = true ∧ (latchedHot.meas.comp x).active = true) ∧
    ∀ x ∈ [Comp.laser, .wheel], (State.reset.meas.comp x).latch = false :=
  ⟨by decide, by decide, by decide, by decide, ⟨⟨rfl, rfl⟩, rfl, by decide⟩, ⟨.laser, by decide, by decide⟩, by decide⟩

/-- LENS under conversion with three bad codes, and with its reading held for nine ticks. -/
def badRun (last : Option Int) : State :=
  { lensScan with
    meas :=
      { lensScan.meas with
        chans := lensScan.meas.chans.set .lens { lensScan.meas.chans.get .lens with badRun := 3, lastValid := last } } }
def heldNine : State :=
  { lensScan with
    meas :=
      { lensScan.meas with
        chans := lensScan.meas.chans.set .die { resetChan with failed := true, status := .held, failureAge := 9 } } }

/-- LENS FAILED with `n` codes in its ring. -/
def recovering (n : Nat) : State :=
  { lensScan with
    meas :=
      { lensScan.meas with
        chans := lensScan.meas.chans.set .lens { resetChan with failed := true, ring := List.replicate n 2000 } } }

/-- START at the last conversion of the first pass, every other channel settled. -/
def firstPass : State :=
  let r := { resetChan with status := .live }
  { State.reset with
    meas := { State.reset.meas with scan := .die, chans := ⟨r, r, r, r, r, r, r, r, resetChan⟩ } }

/-- DIE under conversion, with a die allowance. -/
def dieOf (x : ChanRec) (old : Nat) : State :=
  { State.reset with
    meas := { State.reset.meas with scan := .die, chans := State.reset.meas.chans.set .die x }
    sched := { State.reset.sched with dieAllow := old } }

/-- 950 and 1100 keep the old value between the limits of R36; a held 1100 too. -/
theorem test_die_allowance :
    (after (.conversionComplete 2970) (dieOf resetChan 2)).sched.dieAllow = 2 ∧
    (after (.conversionComplete 2970) (dieOf resetChan 1)).sched.dieAllow = 1 ∧
    (after (.conversionComplete 3277) (dieOf resetChan 0)).sched.dieAllow = 0 ∧
    (after (.conversionComplete 3277) (dieOf resetChan 1)).sched.dieAllow = 1 ∧
    (after (.conversionComplete 5) (dieOf { resetChan with badRun := 3, lastValid := some 1100 } 0)).sched.dieAllow = 0 := by
  decide

theorem witness_ConversionsTaken :
    (lensScan.powered = true ∧ lensScan.meas.scan = .lens ∧ (lensScan.meas.chans.get .lens).failed = false ∧
      (lensScan.meas.chans.get .lens).badRun < 3) ∧
    (16 ≤ (16 : BitVec 12).toNat ∧ (4079 : BitVec 12).toNat ≤ 4079 ∧ (15 : BitVec 12).toNat < 16 ∧
      4079 < (4080 : BitVec 12).toNat) ∧
    (((badRun (some 350)).meas.chans.get .lens).badRun = 3 ∧ ((badRun (some 350)).meas.chans.get .lens).failed = false ∧
      ((badRun (some 350)).meas.chans.get .lens).lastValid = some 350) ∧
    (((badRun none).meas.chans.get .lens).badRun = 3 ∧ ((badRun none).meas.chans.get .lens).lastValid = none) ∧
    (heldNine.powered = true ∧ (heldNine.meas.chans.get .die).failed = true ∧
      (heldNine.meas.chans.get .die).failureAge = 9 ∧ (heldNine.cool.zones.get .z2).members.get .die = true) ∧
    (lensScan.meas.chans.get .lens).failureAge ≠ 9 ∧
    ((recovering 3).meas.scan = .lens ∧ ((recovering 3).meas.chans.get .lens).failed = true ∧
      ((recovering 3).meas.chans.get .lens).ring.length = 3 ∧ ((recovering 2).meas.chans.get .lens).ring.length < 3) ∧
    (firstPass.meas.scan = .die ∧ (firstPass.meas.chans.get .die).failed = false ∧ firstPass.meas.scanGiven = false ∧
      firstPass.phase.phase = .start ∧ firstPass.phase.restrike = false ∧ latched firstPass = false ∧
      (after (.conversionComplete 2000) firstPass).cool.zones.z0.temperature = none) ∧
    (∀ c, c ≠ .die → (firstPass.meas.chans.get c).status ≠ .unread) ∧
    (firstPass.sched.dieAllow = 2 ∧ ruledTemp firstPass.meas .die 2969 = 949 ∧ ruledTemp firstPass.meas .die 2970 = 950 ∧
      ruledTemp firstPass.meas .die 3070 = 999 ∧ ruledTemp firstPass.meas .die 3072 = 1000 ∧
      ruledTemp firstPass.meas .die 3276 = 1099 ∧ ruledTemp firstPass.meas .die 3277 = 1100 ∧
      ruledTemp firstPass.meas .die 3379 = 1149 ∧ ruledTemp firstPass.meas .die 3380 = 1150) ∧
    ((dieOf { resetChan with badRun := 3, lastValid := some 1100 } 0).meas.scan = .die ∧
      ((dieOf { resetChan with badRun := 3, lastValid := some 1100 } 0).meas.chans.get .die).badRun = 3 ∧
      ((dieOf { resetChan with badRun := 3 } 1).meas.chans.get .die).lastValid = none ∧
      ((dieOf { resetChan with failed := true, ring := [2970, 2970, 2970] } 1).meas.chans.get .die).failed = true ∧
      (dieOf { resetChan with failed := true, ring := [2970, 2970, 2970] } 1).sched.dieAllow = 1) :=
  ⟨by decide, by decide, by decide, by decide, by decide, by decide, by decide, by decide,
    fun c => by cases c <;> decide, by decide, by decide⟩

/-! ### Witnesses: light and time -/

/-- A phase with the temperature of Z0. -/
def warmIn (p : Phase) (t : Option Int) : State :=
  { inPhase p with cool := { State.reset.cool with zones := State.reset.cool.zones.set .z0 { State.reset.cool.zones.z0 with temperature := t } } }

/-- FAULT with a given number of failed fans. -/
def faulted (n : Nat) : State := { inPhase .fault with phase := { (inPhase .fault).phase with failedFans := n } }

theorem witness_LightRuled :
    (Takes State.reset rs .systemOnly ∧ State.reset.phase.phase = .start ∧ (inPhase .warmup).phase.phase = .warmup) ∧
    (latchedBoth.phase.phase = .dark ∧ ¬Cool latchedBoth) ∧
    (Cool (inPhase .dark) ∧ (inPhase .dark).phase.phase = .dark ∧ GrantsWithin (inPhase .dark)) ∧
    (Cool (warmIn .cooldown (some 549)) ∧ (warmIn .cooldown (some 549)).phase.phase = .cooldown ∧
      OneEntry (warmIn .cooldown (some 549)) ∧ (warmIn .cooldown (some 549)).cool.zones.z0.temperature = some 549) ∧
    (Cool (warmIn .cooldown (some 550)) ∧ OneEntry (warmIn .cooldown (some 550)) ∧
      ∀ v, (warmIn .cooldown (some 550)).cool.zones.z0.temperature = some v → 550 ≤ v) ∧
    ((faulted 2).phase.phase = .fault ∧ 2 ≤ (faulted 2).phase.failedFans) ∧
    (Takes (faulted 1) rs .systemOnly ∧ (faulted 1).phase.phase = .fault ∧ latched (faulted 1) = false ∧
      (faulted 1).phase.failedFans < 2 ∧
      ∀ z, ((faulted 1).cool.zones.get z).state ≠ .hot ∧ ((faulted 1).cool.zones.get z).state ≠ .critical) :=
  ⟨⟨⟨rfl, rfl⟩, rfl, rfl⟩, ⟨rfl, fun h => absurd (show latched latchedBoth = false from h.1) (by decide)⟩,
    ⟨⟨rfl, fun z => by cases z <;> decide⟩, rfl, by unfold GrantsWithin; decide⟩,
    ⟨⟨rfl, fun z => by cases z <;> decide⟩, rfl, by unfold OneEntry; decide, rfl⟩,
    ⟨⟨rfl, fun z => by cases z <;> decide⟩, by unfold OneEntry; decide, by intro v h; cases h; decide⟩, by decide,
    ⟨⟨rfl, rfl⟩, rfl, rfl, by decide, fun z => by cases z <;> decide⟩⟩

/-- A cool-down at its last tick; a park at its last; a warm-up at a level's last; a zone long CRITICAL. -/
def coolingAt (timer : Nat) (park : Park) (parkTimer : Nat) : State :=
  let s := warmIn .cooldown (some 450)
  { s with phase := { s.phase with coolTimer := timer, park := park, parkTimer := parkTimer } }
def warmingAt (level : Nat) : State :=
  let s := inPhase .warmup
  { s with phase := { s.phase with rampLevel := some level, rampCount := 3 } }
def longCritical (t : Option Int) : State :=
  { State.reset with
    cool :=
      { State.reset.cool with
        zones :=
          State.reset.cool.zones.set .z3
            { State.reset.cool.zones.z3 with state := .critical, age := 59, temperature := t } } }

/-- F0 FAILED, F1 SUSPECT with two strikes and no speed, F2 in its grace; both supervised fans at 60 percent. -/
def strikes : State :=
  let f := State.reset.cool.fans
  { State.reset with
    cool :=
      { State.reset.cool with
        fans :=
          { f with
            f0 := { f.f0 with state := .failed, commanded := 60, grace := 0 }
            f1 := { f.f1 with state := .suspect, strikes := 2, commanded := 60, grace := 0 }
            f2 := { f.f2 with commanded := 60, grace := 1 }, f3 := { f.f3 with present := false } } }
    phase := { State.reset.phase with failedFans := 1 } }

/-- The record of 9.6 at a temperature of LENS, FC at a position. -/
def warmingTo (lens fc : Int) : State :=
  let s := warming.setChan .fc { warming.chan .fc with position := fc }
  { s with track := { s.track with tLens := some lens } }
def warmingClosed : State := { warming with sched := { warming.sched with dieAllow := 0 } }
def warmingBusy : State := { warming with sched := { warming.sched with queue := [portEntry rs .fc .home none] } }

/-- The gain of 9.6 is G2. -/
theorem warming_gain : GainRuled warming.track.gains (warming.chan .zm).settings.travel 24000 48 :=
  ⟨by decide, by decide, by decide, by decide, by decide⟩

/-- Both fans supervised, one in grace and one absent, a second one about to fail. The tracker out of LIT, with FC
unreferenced, with no reference, in the dead band, busy, at the limit, and with a correction queued or granted. -/
theorem witness_TimersRun_ticks :
    (strikes.phase.failedFans = failedCount strikes.cool ∧ Supervised (strikes.cool.fans.get .f0) ∧
      Supervised (strikes.cool.fans.get .f1) ∧ (strikes.cool.fans.get .f2).present = true ∧
      ¬Supervised (strikes.cool.fans.get .f2) ∧ (strikes.cool.fans.get .f3).present = false ∧
      (strikes.cool.fans.get .f1).state ≠ .failed ∧
      ((takeTick strikes .supervision).cool.fans.get .f1).state = .failed ∧ failedCount strikes.cool < 2 ∧
      2 ≤ failedCount (takeTick strikes .supervision).cool ∧ strikes.phase.phase ≠ .fault) ∧
    (¬Tracks closed ∧ (closed.chan .fc).referenced = true ∧ ¬Tracks State.reset ∧
      (State.reset.chan .fc).referenced = false) ∧
    (Tracks warming ∧ Tracks { warming with track := { warming.track with tRef := none } }) ∧
    (warming.track.tRef = some 350 ∧ warming.track.tLens = some 380 ∧
      ((24000 : Nat) : Int) = clampInt 0 (warming.chan .zm).settings.travel (warming.chan .zm).position ∧
      (9 : Int) = clampInt (-(warming.track.limit : Int)) warming.track.limit (roundedAway (48 * (380 - 350)) 160) ∧
      (19009 : Int) = softClamp (warming.chan .fc).settings ((warming.chan .fc).position + (9 - warming.track.applied)) ∧
      warming.track.deadband ≤ ((9 : Int) - warming.track.applied).natAbs ∧ (warming.chan .fc).state = .idle ∧
      warming.sched.entryOf .fc = none ∧ (19009 : Int) ≠ (warming.chan .fc).position ∧
      (warming.chan .fc).settings.softMin ≤ (warming.chan .fc).settings.softMax ∧ warming.sched.held = [] ∧
      warming.sched.queue = [] ∧ warming.sched.hasFree = true ∧ warming.sched.grantedCount < allowance warming) ∧
    (roundedAway (48 * (352 - 350)) 160 = 1 ∧ ((1 : Int) - (warmingTo 352 19000).track.applied).natAbs <
      (warmingTo 352 19000).track.deadband) ∧
    softClamp ((warmingTo 380 47488).chan .fc).settings (((warmingTo 380 47488).chan .fc).position + 9) =
      ((warmingTo 380 47488).chan .fc).position ∧
    (warmingBusy.sched.entryOf .fc).isSome = true ∧ NoGrant warmingClosed :=
  ⟨⟨by decide, ⟨by decide, by decide, by decide⟩, ⟨by decide, by decide, by decide⟩, by decide,
      fun h => absurd h.2.1 (by decide), by decide⟩,
    ⟨fun h => h.2.2.2.elim (fun h => absurd h (by decide)) fun h => absurd h (by decide), by decide,
      fun h => absurd h.1 (by decide), by decide⟩,
    ⟨⟨by decide, by decide, by decide, .inl (by decide)⟩, by decide, by decide, by decide, .inl (by decide)⟩, by decide,
    by decide, by decide, by decide, .inr (by decide)⟩

theorem witness_TimersRun :
    (State.reset.powered = true ∧ State.reset.phase.phase ≠ .cooldown ∧ (coolingAt 598 .never 0).phase.coolTimer < 599) ∧
    ((coolingAt 599 .never 0).phase.phase = .cooldown ∧ 599 ≤ (coolingAt 599 .never 0).phase.coolTimer ∧
      (coolingAt 599 .never 0).phase.restrike = false ∧
      ∀ v, (coolingAt 599 .never 0).cool.zones.z0.temperature = some v → 450 ≤ v) ∧
    ((coolingAt 39 .running 39).phase.park = .running ∧ (coolingAt 39 .running 39).phase.parkTimer = 39 ∧
      (coolingAt 39 .running 39).phase.coolTimer < 599) ∧
    ((warmingAt 80).phase.phase = .warmup ∧ (warmingAt 80).phase.rampCount = 3 ∧ (warmingAt 80).phase.rampLevel = some 80) ∧
    ((warmingAt 90).phase.rampLevel = some 90 ∧ (warmingAt 90).phase.restrike = false ∧ GrantsWithin (warmingAt 90)) ∧
    (((longCritical (some 520)).cool.zones.get .z3).state = .critical ∧
      ((longCritical (some 520)).cool.zones.get .z3).age = 59 ∧
      ((longCritical (some 520)).cool.zones.get .z3).crit - 30 = 520 ∧ (longCritical (some 520)).phase.phase ≠ .fault ∧
      ((longCritical none).cool.zones.get .z3).temperature = none) ∧
    (((6 : Byte) + 1).toNat % 8 ≠ 0 ∧ ((7 : Byte) + 1).toNat % 8 = 0 ∧ ((7 : Byte) + 1).toNat % 32 ≠ 0 ∧
      ((31 : Byte) + 1).toNat % 32 = 0 ∧ ((31 : Byte) + 1).toNat % 128 ≠ 0 ∧ ((127 : Byte) + 1).toNat % 128 = 0 ∧
      ((255 : Byte) + 1).toNat % 128 = 0) ∧
    NoJog { State.reset with divider := 7 } ∧
    ∀ ch, (State.reset.meas.chans.get ch).failed = true → (State.reset.meas.chans.get ch).failureAge ≠ 9 :=
  ⟨by decide, ⟨by decide, by decide, by decide, by intro v h; cases h; decide⟩, by decide, by decide,
    ⟨by decide, by decide, by unfold GrantsWithin; decide⟩, by decide, by decide,
    ⟨rfl, fun a => by cases a <;> decide⟩, fun ch => by cases ch <;> decide⟩

end Sys2Proof.Tests
end

section
/-! PROOFS. Device resets (R188) and the settings and ramp table that they leave on every axis (R5, R7). -/

namespace Sys2Proof.Machine

/-! ### The commands of the three device resets -/

theorem exec_powerOn (addr : Bool) (s : State) : exec (.powerOn addr) s = .next (deviceReset .power addr s) := rfl

/-- A RESET pin reset of a powered part (log 8). -/
theorem exec_resetPin_taken {s : State} (h : s.powered = true) (addr : Bool) :
    exec (.resetPin addr) s = .next (deviceReset .pin addr s) := event_taken h _

/-- A SOFT_RESET that its port takes forms no response (R188). -/
theorem exec_softReset_taken {r : Req} {s : State} (h : Takes s r .systemOnly) :
    exec (.softReset r) s = .next (deviceReset .soft s.addrPin s) := by
  obtain ⟨taken, allowed⟩ := h
  show execSoftReset r s = _
  simp [execSoftReset, taken, allowed]

/-- Each of the three, where it resets the part, answers the state of a device reset. -/
theorem eq_deviceReset_of_next {i : Instr} {s t : State}
    (hi : (∃ addr, i = .powerOn addr) ∨ (∃ addr, i = .resetPin addr ∧ s.powered = true)
      ∨ ∃ r, i = .softReset r ∧ Takes s r .systemOnly)
    (ht : exec i s = .next t) : ∃ cause addr, t = deviceReset cause addr s := by
  obtain ⟨addr, rfl⟩ | ⟨addr, rfl, hp⟩ | ⟨r, rfl, hr⟩ := hi
  · rw [exec_powerOn] at ht
    exact ⟨.power, addr, (Host.Outcome.next.inj ht).symm⟩
  · rw [exec_resetPin_taken hp] at ht
    exact ⟨.pin, addr, (Host.Outcome.next.inj ht).symm⟩
  · rw [exec_softReset_taken hr] at ht
    exact ⟨.soft, s.addrPin, (Host.Outcome.next.inj ht).symm⟩

/-! ### The axis channels after a device reset -/

@[simp] theorem Channel.afterReset_settings (c : Channel) (pin : Bool) : (c.afterReset pin).settings = c.settings := rfl
@[simp] theorem Channel.afterReset_table (c : Channel) (pin : Bool) : (c.afterReset pin).table = c.table := rfl

/-- Every axis takes its reset channel, with the level of its home switch pin (R1, R19, R26). -/
@[simp] theorem deviceReset_chan (cause : ResetCause) (addr : Bool) (s : State) (a : Axis) :
    (deviceReset cause addr s).chan a = (State.reset.chan a).afterReset (s.chan a).switch.pin := by
  cases a <;> rfl

@[simp] theorem State.reset_table (a : Axis) : (State.reset.chan a).table = defaultTable := by
  cases a <;> rfl

/-- The reset settings of every axis are the default settings; the axes differ in four of them alone (R5). -/
theorem State.reset_settings (a : Axis) :
    ∃ backlash approach centre k, (State.reset.chan a).settings = defaultSettings backlash approach centre k := by
  cases a <;> exact ⟨_, _, _, _, rfl⟩

@[simp] theorem State.reset_settings_sh :
    (State.reset.chan .sh).settings = defaultSettings 64 .pos 24000 12800 := rfl
@[simp] theorem State.reset_settings_sv :
    (State.reset.chan .sv).settings = defaultSettings 64 .pos 24000 12800 := rfl
@[simp] theorem State.reset_settings_zm : (State.reset.chan .zm).settings = defaultSettings 0 .unset 0 0 := rfl
@[simp] theorem State.reset_settings_fc : (State.reset.chan .fc).settings = defaultSettings 32 .pos 0 0 := rfl

/-- Settles O24: the three commands leave the state of a device reset, whose channels hold the reset settings and the
default table; the values of R5 are then read off `defaultSettings`. -/
theorem settingsAfterReset : Obligations.SettingsAfterReset := by
  intro i s t hi ht
  obtain ⟨cause, addr, rfl⟩ := eq_deviceReset_of_next hi ht
  refine ⟨fun a => ?_, ?_, ?_, ?_, ?_, ?_⟩
  · obtain ⟨backlash, approach, centre, k, hset⟩ := State.reset_settings a
    simp [hset, defaultSettings, defaultTable]
  all_goals simp [defaultSettings]

end Sys2Proof.Machine
end

section
/-! PROOFS. The computation of the grid (R77 to R82): interpolations lie between their operands, the corners of stages 2
and 4 lie on the panel, and the grid lies within the corners. -/

namespace Sys2Proof.Machine

/-! ### Roundings -/

theorem natAbs_orientationSign_mul (o : Orientation) (x : Int) : (orientationSign o * x).natAbs = x.natAbs := by
  cases o <;> simp [orientationSign]

theorem ceilDiv_le_iff {n d m : Nat} (hd : 0 < d) : ceilDiv n d ≤ m ↔ n ≤ d * m := by
  rw [ceilDiv, Nat.div_le_iff_le_mul hd, Nat.mul_comm m d]
  omega

theorem natAbs_towardZero_mul_le (x : Int) (d : Nat) : (towardZero x d).natAbs * d ≤ x.natAbs := by
  rw [towardZero, Int.natAbs_tdiv, Int.natAbs_natCast]
  exact Nat.div_mul_le_self _ _

/-! ### Interpolation (R81) -/

section
variable {n k : Nat} {a b : Int}

/-- A lower bound of both operands bounds the interpolation: its added term times n is at least (lo − a)·n. -/
theorem le_interpolate {lo : Int} (hn : 1 ≤ n) (hk : k ≤ n) (ha : lo ≤ a) (hb : lo ≤ b) :
    lo ≤ interpolate n a b k := by
  have hterm : lo - a ≤ floorDiv ((b - a) * k + (n / 2 : Nat)) n := by
    refine (Int.le_ediv_iff_mul_le (by omega)).mpr ?_
    calc (lo - a) * n ≤ (lo - a) * k := Int.mul_le_mul_of_nonpos_left (by omega) (by omega)
      _ ≤ (b - a) * k := Int.mul_le_mul_of_nonneg_right (by omega) (by omega)
      _ ≤ (b - a) * k + (n / 2 : Nat) := by omega
  unfold interpolate
  omega

/-- An upper bound of both operands bounds the interpolation: the n/2 of the rounding stays below one step. -/
theorem interpolate_le {hi : Int} (hn : 1 ≤ n) (hk : k ≤ n) (ha : a ≤ hi) (hb : b ≤ hi) :
    interpolate n a b k ≤ hi := by
  have hterm : floorDiv ((b - a) * k + (n / 2 : Nat)) n < hi - a + 1 := by
    refine (Int.ediv_lt_iff_lt_mul (by omega)).mpr ?_
    calc (b - a) * k + (n / 2 : Nat) ≤ (hi - a) * k + (n / 2 : Nat) :=
          Int.add_le_add_right (Int.mul_le_mul_of_nonneg_right (by omega) (by omega)) _
      _ ≤ (hi - a) * n + (n / 2 : Nat) :=
          Int.add_le_add_right (Int.mul_le_mul_of_nonneg_left (by omega) (by omega)) _
      _ < (hi - a + 1) * n := by
          rw [Int.add_mul]
          omega
  unfold interpolate
  omega

end

/-! ### Stage 2: the corners after both keystones (R78) -/

/-- The four corners lie on the panel of the inputs (R82). -/
structure CornersOnPanel (i : Inputs) (c : Corners) : Prop where
  tl : OnPanel i c.tl
  tr : OnPanel i c.tr
  bl : OnPanel i c.bl
  br : OnPanel i c.br

theorem inset_nonneg (k : Int) (extent : Nat) : 0 ≤ inset k extent := Int.natCast_nonneg _

/-- An inset is at most a quarter of its extent in sixteenths (R78). -/
theorem inset_le_quarter {k : Int} (hk : k.natAbs ≤ 60) (extent : Nat) : inset k extent ≤ 4 * extent := by
  have hprod : k.natAbs * extent ≤ 60 * extent := Nat.mul_le_mul_right _ hk
  unfold inset
  omega

theorem natAbs_effectiveKeystone (o : Orientation) (k : Int) : (effectiveKeystone o k).natAbs = k.natAbs :=
  natAbs_orientationSign_mul o k

theorem keystoneCorners_onPanel {i : Inputs} (hi : InputsInRange i) : CornersOnPanel i (keystoneCorners i) := by
  have hkv : (effectiveKeystone i.orientation i.kv).natAbs ≤ 60 := by
    have := hi.kv
    rw [natAbs_effectiveKeystone]
    omega
  have hkh : (effectiveKeystone i.orientation i.kh).natAbs ≤ 60 := by
    have := hi.kh
    rw [natAbs_effectiveKeystone]
    omega
  have hv0 := inset_nonneg (effectiveKeystone i.orientation i.kv) i.w
  have hh0 := inset_nonneg (effectiveKeystone i.orientation i.kh) i.h
  have hv := inset_le_quarter hkv i.w
  have hh := inset_le_quarter hkh i.h
  constructor <;> simp only [OnPanel, keystoneCorners] <;> omega

/-! ### Stages 3 and 4: the shift and the scale (R79, R80) -/

theorem shiftPixels_natAbs_le (excess : Int) (extent : Nat) : (shiftPixels excess extent).natAbs ≤ extent / 8 :=
  clampInt_natAbs _ _

/-- The room of a shift, taken of half the extent in sixteenths, holds the shift in sixteenths (R82). -/
theorem sixteenths_le_shiftRoom {extent : Nat} (he : 0 < extent) (px : Int) :
    16 * px.natAbs * 65536 ≤ 8 * extent * shiftRoom px extent := by
  have hroom : 2 * px.natAbs * 65536 ≤ extent * shiftRoom px extent := (ceilDiv_le_iff he).mp (Nat.le_refl _)
  calc 16 * px.natAbs * 65536 = 8 * (2 * px.natAbs * 65536) := by omega
    _ ≤ 8 * (extent * shiftRoom px extent) := Nat.mul_le_mul_left _ hroom
    _ = 8 * extent * shiftRoom px extent := (Nat.mul_assoc ..).symm

/-- A shift of at most an eighth of its extent needs at most a quarter of the scale (R80). -/
theorem shiftRoom_le {extent : Nat} (he : 0 < extent) (excess : Int) :
    shiftRoom (shiftPixels excess extent) extent ≤ 16384 := by
  have hpx := shiftPixels_natAbs_le excess extent
  exact (ceilDiv_le_iff he).mpr (by omega)

section
variable {i : Inputs}

theorem scaleOf_nonneg (hw : 0 < i.w) (hh : 0 < i.h) : 0 ≤ scaleOf i := by
  have hx := shiftRoom_le hw i.excessH
  have hy := shiftRoom_le hh i.excessV
  unfold scaleOf
  omega

/-- A shift whose room is at most what the scale gives up fits that room. -/
theorem sixteenths_le_of_shiftRoom_le {extent : Nat} {px : Int} (he : 0 < extent)
    (hroom : (shiftRoom px extent : Int) ≤ 65536 - scaleOf i) :
    ((16 * px).natAbs : Int) * 65536 ≤ 8 * extent * (65536 - scaleOf i) := by
  have hfits := sixteenths_le_shiftRoom he px
  calc ((16 * px).natAbs : Int) * 65536 = (16 * px.natAbs * 65536 : Nat) := by
        rw [Int.natAbs_mul]
        rfl
    _ ≤ (8 * extent * shiftRoom px extent : Nat) := Int.ofNat_le.mpr hfits
    _ = 8 * extent * (shiftRoom px extent : Int) := by push_cast; rfl
    _ ≤ 8 * extent * (65536 - scaleOf i) := Int.mul_le_mul_of_nonneg_left hroom (by omega)

theorem shiftX16_fits (hw : 0 < i.w) : ((shiftX16 i).natAbs : Int) * 65536 ≤ 8 * i.w * (65536 - scaleOf i) := by
  rw [shiftX16, natAbs_orientationSign_mul]
  exact sixteenths_le_of_shiftRoom_le hw (by unfold scaleOf; omega)

theorem shiftY16_fits (hh : 0 < i.h) : ((shiftY16 i).natAbs : Int) * 65536 ≤ 8 * i.h * (65536 - scaleOf i) := by
  rw [shiftY16, Int.natAbs_neg, natAbs_orientationSign_mul]
  exact sixteenths_le_of_shiftRoom_le hh (by unfold scaleOf; omega)

end

section
variable {extent : Nat} {s d v : Int}

/-- The offset of a coordinate from the centre is at most half the extent, and scaling it cannot round it up (R82). -/
theorem scaledOffset_le (hs : 0 ≤ s) (hv0 : 0 ≤ v) (hv : v ≤ 16 * extent) :
    ((towardZero ((v - 8 * extent) * s) 65536).natAbs : Int) * 65536 ≤ 8 * extent * s := by
  have htrunc := natAbs_towardZero_mul_le ((v - 8 * extent) * s) 65536
  calc ((towardZero ((v - 8 * extent) * s) 65536).natAbs : Int) * 65536
      ≤ (((v - 8 * extent) * s).natAbs : Int) := by omega
    _ = ((v - 8 * extent).natAbs : Int) * s := by rw [Int.natAbs_mul, Int.natCast_mul, Int.natAbs_of_nonneg hs]
    _ ≤ 8 * extent * s := Int.mul_le_mul_of_nonneg_right (by omega) hs

/-- The room that the scale gives up absorbs the shift: the two magnitudes share half the extent (R82). -/
theorem scaledOffset_add_shift_le (hs : 0 ≤ s) (hd : (d.natAbs : Int) * 65536 ≤ 8 * extent * (65536 - s))
    (hv0 : 0 ≤ v) (hv : v ≤ 16 * extent) :
    (towardZero ((v - 8 * extent) * s) 65536).natAbs + d.natAbs ≤ 8 * extent := by
  have ht := scaledOffset_le hs hv0 hv
  have hsum : 8 * (extent : Int) * (65536 - s) = 8 * extent * 65536 - 8 * extent * s := Int.mul_sub ..
  omega

theorem scaleCoord_mem (hs : 0 ≤ s) (hd : (d.natAbs : Int) * 65536 ≤ 8 * extent * (65536 - s))
    (hv : 0 ≤ v ∧ v ≤ 16 * extent) :
    0 ≤ scaleCoord (8 * extent) s d v ∧ scaleCoord (8 * extent) s d v ≤ 16 * extent := by
  have hfits := scaledOffset_add_shift_le hs hd hv.1 hv.2
  unfold scaleCoord
  omega

end

section
variable {i : Inputs}

theorem scalePoint_onPanel {p : Point} (hw : 0 < i.w) (hh : 0 < i.h) (hp : OnPanel i p) :
    OnPanel i (scalePoint i p) := by
  obtain ⟨hx, hy⟩ := hp
  have hs := scaleOf_nonneg hw hh
  exact ⟨scaleCoord_mem hs (shiftX16_fits hw) hx, scaleCoord_mem hs (shiftY16_fits hh) hy⟩

theorem finalCorners_onPanel (hi : InputsInRange i) (hw : 0 < i.w) (hh : 0 < i.h) :
    CornersOnPanel i (finalCorners i) := by
  obtain ⟨tl, tr, bl, br⟩ := keystoneCorners_onPanel hi
  exact ⟨scalePoint_onPanel hw hh tl, scalePoint_onPanel hw hh tr, scalePoint_onPanel hw hh bl,
    scalePoint_onPanel hw hh br⟩

/-! ### Stage 5: the grid (R81) -/

theorem mem_gridPoints {p : Point} :
    p ∈ gridPoints i ↔ ∃ row < i.g, ∃ col < i.g, gridPoint (i.g - 1) (finalCorners i) col row = p := by
  simp [gridPoints]

/-- Both interpolations of a grid point keep the bounds of the corners' coordinates. -/
theorem gridPoint_withinCorners {n col row : Nat} (c : Corners) (hn : 1 ≤ n) (hcol : col ≤ n) (hrow : row ≤ n) :
    WithinCorners c (gridPoint n c col row) where
  left := le_interpolate hn hrow (le_interpolate hn hcol (by omega) (by omega))
    (le_interpolate hn hcol (by omega) (by omega))
  right := interpolate_le hn hrow (interpolate_le hn hcol (by omega) (by omega))
    (interpolate_le hn hcol (by omega) (by omega))
  top := le_interpolate hn hrow (le_interpolate hn hcol (by omega) (by omega))
    (le_interpolate hn hcol (by omega) (by omega))
  bottom := interpolate_le hn hrow (interpolate_le hn hcol (by omega) (by omega))
    (interpolate_le hn hcol (by omega) (by omega))

theorem OnPanel.of_withinCorners {c : Corners} {p : Point} (hc : CornersOnPanel i c) (hp : WithinCorners c p) :
    OnPanel i p := by
  obtain ⟨⟨_, _⟩, ⟨_, _⟩, ⟨_, _⟩, ⟨_, _⟩⟩ := hc
  obtain ⟨_, _, _, _⟩ := hp
  exact ⟨by omega, by omega⟩

theorem gridPoints_withinCorners {p : Point} (hg : 2 ≤ i.g) (hp : p ∈ gridPoints i) :
    WithinCorners (finalCorners i) p := by
  obtain ⟨row, hrow, col, hcol, rfl⟩ := mem_gridPoints.mp hp
  exact gridPoint_withinCorners _ (by omega) (by omega) (by omega)

end

/-- Settles O52: an interpolation keeps every bound of its operands, so the grid stays within the corners of stage 4;
these lie on the panel, since the room the scale gives up on either axis holds the shift of that axis. -/
theorem gridOnPanel : Obligations.GridOnPanel := by
  refine ⟨fun n k a b hn hk => ⟨fun hab => ?_, fun hba => ?_⟩, fun i hi => ?_⟩
  · exact ⟨le_interpolate hn hk (Int.le_refl _) hab, interpolate_le hn hk hab (Int.le_refl _)⟩
  · exact ⟨le_interpolate hn hk hba (Int.le_refl _), interpolate_le hn hk (Int.le_refl _) hba⟩
  have hw : 0 < i.w := by have := hi.w; omega
  have hh : 0 < i.h := by have := hi.h; omega
  have hg : 2 ≤ i.g := by have := hi.g; omega
  have hs := scaleOf_nonneg hw hh
  have hdx := shiftX16_fits hw
  have hdy := shiftY16_fits hh
  have hc := keystoneCorners_onPanel hi
  have hf := finalCorners_onPanel hi hw hh
  refine ⟨hc.tl, hc.tr, hc.bl, hc.br, fun v hv0 hv => ?_, fun v hv0 hv => ?_, hf.tl, hf.tr, hf.bl, hf.br,
    fun p hp => ?_, fun b => ⟨rfl, rfl, rfl⟩⟩
  · exact ⟨scaledOffset_le hs hv0 hv, hdx, scaledOffset_add_shift_le hs hdx hv0 hv⟩
  · exact ⟨scaledOffset_le hs hv0 hv, hdy, scaledOffset_add_shift_le hs hdy hv0 hv⟩
  · have hin := gridPoints_withinCorners hg hp
    exact ⟨hin, .of_withinCorners hf hin⟩

end Sys2Proof.Machine
end

section
/-! PROOFS. The operations that commands run: one inversion of `exec` and `step`, through which every invariant is
shown. -/

namespace Sys2Proof.Machine

/-- A relation between the state before and the state after that every operation of a command respects. One field for
each operation a command can run beyond reading and answering; the ticks stand under `tick`. -/
structure Respected (R : State → State → Prop) : Prop where
  refl : ∀ s, R s s
  trans : ∀ {s t u}, R s t → R t u → R s u
  pending : ∀ s l, R s { s with pending := l }
  respond : ∀ p tag x s, R s (respond p tag x s)
  afterRead : ∀ p s, R s (s.setPort p (s.port p).afterRead)
  mask : ∀ p m s, R s (s.setPort p (PortRec.settle { s.port p with mask := m }))
  unit : ∀ p u s, R s (s.setPort p { s.port p with unit := u })
  read : ∀ p n s, R s (s.setPort p ((s.port p).read n))
  deviceReset : ∀ cause addr s, R s (deviceReset cause addr s)
  presence : ∀ x s, R s (s.withPresence x)
  picturePortReset : ∀ cause s, R s (picturePortReset cause s)
  powerLost : ∀ s, R s (powerLost s)
  motionRequest : ∀ r a m p k s, R s (motionRequest r a m p k s).1
  demandAbsent : ∀ a q s, R s (demandAbsent a q s)
  jogKeep : ∀ a o s, R s (jogKeep a o s).1
  stopAxes : ∀ l s, R s (stopAxes l s)
  applySettings : ∀ a x s, settable (s.chan a).state = true → R s (applySettings a x s)
  table : ∀ a l s, R s (s.setChan a { s.chan a with table := l })
  startRecall : ∀ r code p s, R s (startRecall r code p s)
  beginWrite : ∀ slot kind port tag x s, R s (s.withMem (beginWrite s.mem slot kind port tag x))
  writeDone : ∀ s, R s (writeDone s)
  keystone : ∀ kv kh s, R s (keystoneRequest kv kh s).1
  orientation : ∀ o s, R s (changeOrientation o s)
  panel : ∀ w h g s, R s (changePanel w h g s)
  mode : ∀ m s, R s (changeMode m s)
  zone : ∀ z m p s, R s (writeZone z m p s)
  curve : ∀ o z l s, R s (writeCurve o z l s)
  fan : ∀ f b z p s, R s (writeFan f b z p s)
  quiet : ∀ on cap level s, R s (quietRequest on cap level s).1
  thermTable : ∀ b l s, R s (writeTable b l s)
  comparator : ∀ c (x : Comparator) s, x.latch = (s.meas.comp c).latch → R s (s.withMeas (s.meas.setComp c x))
  clearTrip : ∀ l s, R s (clearTripRequest l s).1
  lightOn : ∀ s, R s (lightOnRequest s).1
  lightOff : ∀ s, R s (lightOffEffect s)
  clearFault : ∀ s, R s (clearFaultRequest s).1
  tracking : ∀ p s, R s (writeTracking p s)
  switch : ∀ a x s, R s (s.setChan a { s.chan a with switch := x })
  homeFilter : ∀ a s, R s (homeFilterDone a s)
  axisStep : ∀ a s, R s (axisStep a s)
  divider : ∀ x s, R s (s.withDivider x)
  tick : ∀ k s, R s (takeTick s k)
  coilRelease : ∀ a s, R s (coilRelease a s)
  expireQueued : ∀ k a s, R s (expireQueued k a s)
  expireRunning : ∀ k a s, R s (expireRunning k a s)
  criticalPersisted : ∀ z s, R s (criticalPersisted z s)
  substitution : ∀ ch s, R s (sensorSubstitution ch s)
  coolDownTick : ∀ s, s.phase.phase = .cooldown → R s (coolDownTick s)
  warmupTick : ∀ s, s.phase.phase = .warmup → R s (warmupTick s)
  conversion : ∀ code s, R s (conversionComplete code s)
  tripLatch : ∀ c s, R s (tripLatchSet c s)
  tach : ∀ x s, R s (s.withMeas { s.meas with tach := x })
  frameStrobe : ∀ s, R s (frameStrobe s)
  bandStrobe : ∀ s, R s (bandStrobe s)
  wordSent : ∀ s, R s (wordSent s)
  computeDone : ∀ s, R s (computeDone s)

namespace Respected

variable {R : State → State → Prop} (h : Respected R) {s t : State}

include h

theorem of_request {r : Req} {c : Privilege} {f : State → State × Reply} (ht : request r c s f = .next t)
    (hf : R s (f s).1) : R s t :=
  request_keeps (P := R s) (h.refl s) (fun _ => hf) (fun _ _ hu => h.trans hu (h.respond ..)) ht

theorem of_reading {r : Req} {f : State → Reply} (ht : reading r s f = .next t) : R s t :=
  h.of_request ht (f := fun s => (s, f s)) (h.refl s)

theorem of_event {f : State → State} (ht : event s f = .next t) (hf : R s (f s)) : R s t :=
  event_keeps (P := R s) (h.refl s) (fun _ => hf) ht

theorem of_malformed {r : Req} (ht : malformed r s = .next t) : R s t := by
  unfold malformed at ht
  split at ht <;> cases ht
  · exact h.respond ..
  · exact h.refl s

theorem of_onAxis {code : Byte} {f : Axis → State × Reply} (hf : ∀ a, R s (f a).1) : R s (onAxis code s f).1 := by
  unfold onAxis
  split
  · exact hf _
  · exact h.refl s

theorem foldl {α : Type} {f : State → α → State} (hf : ∀ s x, R s (f s x)) (l : List α) (s : State) :
    R s (l.foldl f s) := by
  induction l generalizing s with
  | nil => exact h.refl s
  | cons x l ih => exact h.trans (hf s x) (ih _)

/-! ### Motion requests -/

theorem of_shiftRequest (r : Req) (a : Axis) (p : Int) : R s (shiftRequest r a p s).1 := by
  unfold shiftRequest
  dsimp only
  split
  · exact h.demandAbsent ..
  · exact h.motionRequest ..

theorem of_moveRequest (r : Req) (a : Axis) (p : Int) : R s (moveRequest r a p s).1 := by
  unfold moveRequest
  split
  · exact h.motionRequest ..
  · split
    · exact h.of_shiftRequest ..
    · exact h.motionRequest ..

theorem of_stopRequest (l : List Axis) : R s (stopRequest l s).1 := by
  unfold stopRequest
  split
  · split
    · exact h.refl s
    · exact h.stopAxes ..
  · exact h.stopAxes ..

theorem of_setAxis {r : Req} {axis : Byte} {p : AxisParams} (ht : execSetAxis r axis p s = .next t) : R s t := by
  refine h.of_request ht (h.of_onAxis fun a => ?_)
  split
  · next hset =>
    split
    · exact h.applySettings _ _ _ hset
    · exact h.refl s
  · exact h.refl s

theorem of_setRamp {r : Req} {axis : Byte} {l : List LevelParam} (ht : execSetRamp r axis l s = .next t) : R s t := by
  unfold execSetRamp at ht
  split at ht
  · refine h.of_request ht (h.of_onAxis fun a => ?_)
    split
    · split
      · exact h.table ..
      · exact h.refl s
    · exact h.refl s
  · exact h.of_malformed ht

/-! ### Memory requests -/

theorem of_recallRequest (r : Req) (code : Byte) : R s (recallRequest r code s).1 := by
  unfold recallRequest
  split
  · exact h.refl s
  · split
    · exact h.refl s
    · split
      · exact h.refl s
      · split
        · exact h.refl s
        · exact h.startRecall ..

theorem of_storeRequest (r : Req) (code : Byte) : R s (storeRequest r code s).1 := by
  unfold storeRequest
  split
  · exact h.refl s
  · split
    · exact h.refl s
    · exact h.beginWrite ..

theorem of_eraseRequest (r : Req) (code : Byte) : R s (eraseRequest r code s).1 := by
  unfold eraseRequest
  split
  · exact h.refl s
  · split
    · exact h.refl s
    · exact h.beginWrite ..

/-! ### Thermal requests -/

theorem of_setZone {r : Req} {zone : Byte} {p : ZoneParams} (ht : execSetZone r zone p s = .next t) : R s t := by
  refine h.of_request ht ?_
  split
  · split
    · exact h.zone ..
    · exact h.refl s
  all_goals exact h.refl s

theorem of_setCurve {r : Req} {x zone : Byte} {l : List PointParam} (ht : execSetCurve r x zone l s = .next t) :
    R s t := by
  unfold execSetCurve at ht
  split at ht
  · refine h.of_request ht ?_
    split
    · split
      · exact h.curve ..
      · exact h.refl s
    all_goals exact h.refl s
  · exact h.of_malformed ht

theorem of_fanRequest (f : Fan) (p : FanParams) : R s (fanRequest f p s).1 := by
  unfold fanRequest
  split
  · split
    · exact h.fan ..
    · exact h.refl s
  all_goals exact h.refl s

theorem of_setThermTable {r : Req} {x : Byte} {l : List Half} (ht : execSetThermTable r x l s = .next t) : R s t := by
  unfold execSetThermTable at ht
  split at ht
  · refine h.of_request ht ?_
    split
    · dsimp only
      split
      · exact h.thermTable ..
      · exact h.refl s
    · exact h.refl s
  · exact h.of_malformed ht

theorem of_setTrip {r : Req} {c k : Byte} (ht : execSetTrip r c k s = .next t) : R s t := by
  refine h.of_request ht ?_
  split
  · split
    · refine h.comparator _ _ _ ?_
      unfold Comparator.compare
      dsimp only
      split <;> rfl
    · exact h.refl s
  · exact h.refl s

theorem of_tripInputChange {c : Comp} {l : Nat} (ht : execTripInputChange c l s = .next t) : R s t := by
  cases ht
  refine h.comparator _ _ _ ?_
  unfold Comparator.compare
  dsimp only
  split
  · split <;> rfl
  · rfl

/-! ### Pins, timers and ticks -/

theorem of_homeSwitchChange {a : Axis} {level : Bool} (ht : execHomeSwitchChange a level s = .next t) : R s t := by
  cases ht
  have same : R s (s.setChan a (s.chan a)) := h.switch a (s.chan a).switch s
  unfold Channel.switchChange
  dsimp only
  split
  · split
    · exact same
    · split <;> exact h.switch ..
  · exact h.switch ..

theorem of_presentFilterDone : R s (presentFilterDone s) := by
  unfold presentFilterDone
  split
  · dsimp only
    split
    · exact h.presence ..
    · exact h.trans (h.presence ..) (h.picturePortReset ..)
  · exact h.refl s

theorem of_dividerAdvance (order : List Taker) : R s (dividerAdvance order s) :=
  h.trans (h.divider _ s) (h.foldl (fun s k => h.tick k s) _ _)

theorem of_cooldownTimeout : R s (cooldownTimeout s) := by
  unfold cooldownTimeout
  split
  · next hc =>
    simp only [Bool.and_eq_true, decide_eq_true_eq] at hc
    exact h.coolDownTick s hc.1
  · exact h.refl s

theorem of_parkTimeout : R s (parkTimeout s) := by
  unfold parkTimeout
  split
  · next hc =>
    simp only [Bool.and_eq_true, decide_eq_true_eq] at hc
    exact h.coolDownTick s hc.1.1
  · exact h.refl s

theorem of_rampStepDue : R s (rampStepDue s) := by
  unfold rampStepDue
  split
  · next hc =>
    simp only [Bool.and_eq_true, decide_eq_true_eq] at hc
    exact h.warmupTick s hc.1
  · exact h.refl s

theorem of_jogExpiry (a : Axis) (place : JogPlace) : R s (jogExpiry a place s) := by
  cases place
  · exact h.expireQueued ..
  · exact h.expireRunning ..

/-- Every command runs one of the operations, or none, and answers. -/
theorem of_exec {i : Instr} (ht : exec i s = .next t) : R s t := by
  cases i with simp only [exec] at ht
  | getIdent | getStatus | getQueue | getShift | getMemory | getGeometry | readGrid | getStream | getSensors
  | getThermTable | getThermal | getCurve | getPhase | getTracking =>
    exact h.of_reading ht
  | getAxis => exact h.of_request ht (h.of_onAxis fun _ => h.refl s)
  | readEvents => exact h.of_request ht (h.afterRead ..)
  | setMask => exact h.of_request ht (h.mask ..)
  | setUnits =>
    refine h.of_request ht ?_
    split
    · exact h.unit ..
    · exact h.refl s
  | softReset r =>
    simp only [execSoftReset] at ht
    split at ht
    · split at ht <;> cases ht
      · exact h.deviceReset ..
      · exact h.respond ..
    · cases ht
      exact h.refl s
  | resync => exact h.of_request ht (h.picturePortReset ..)
  | move => exact h.of_request ht (h.of_onAxis fun _ => h.of_moveRequest ..)
  | shift =>
    refine h.of_request ht ?_
    split
    · exact h.of_shiftRequest ..
    · exact h.refl s
  | home => exact h.of_request ht (h.of_onAxis fun _ => h.motionRequest ..)
  | jog =>
    refine h.of_request ht (h.of_onAxis fun _ => ?_)
    split
    · exact h.motionRequest ..
    · exact h.refl s
  | jogKeep => exact h.of_request ht (h.of_onAxis fun _ => h.jogKeep ..)
  | stop =>
    refine h.of_request ht ?_
    split
    · exact h.of_stopRequest _
    · exact h.refl s
  | setAxis => exact h.of_setAxis ht
  | setRamp => exact h.of_setRamp ht
  | recallMemory => exact h.of_request ht (h.of_recallRequest ..)
  | store => exact h.of_request ht (h.of_storeRequest ..)
  | erase => exact h.of_request ht (h.of_eraseRequest ..)
  | setKeystone => exact h.of_request ht (h.keystone ..)
  | setOrientation =>
    refine h.of_request ht ?_
    split
    · exact h.orientation ..
    · exact h.refl s
  | setPanel =>
    refine h.of_request ht ?_
    split
    · exact h.refl s
    · split
      · exact h.panel ..
      · exact h.refl s
  | setStream =>
    refine h.of_request ht ?_
    split
    · exact h.mode ..
    · exact h.refl s
  | setZone => exact h.of_setZone ht
  | setCurve => exact h.of_setCurve ht
  | setFan =>
    refine h.of_request ht ?_
    split
    · exact h.of_fanRequest ..
    · exact h.refl s
  | setQuiet =>
    refine h.of_request ht ?_
    split
    · exact h.quiet ..
    · exact h.refl s
  | setThermTable => exact h.of_setThermTable ht
  | setTrip => exact h.of_setTrip ht
  | clearTrip =>
    refine h.of_request ht ?_
    split
    · exact h.clearTrip ..
    · exact h.refl s
  | lightOn => exact h.of_request ht (h.lightOn s)
  | lightOff => exact h.of_request ht (h.lightOff s)
  | clearFault => exact h.of_request ht (h.clearFault s)
  | setTracking =>
    refine h.of_request ht ?_
    split
    · exact h.tracking ..
    · exact h.refl s
  | badRequest =>
    simp only [execBadRequest] at ht
    split at ht <;> cases ht
    · exact h.respond ..
    · exact h.refl s
  | frameCutShort => cases ht; exact h.refl s
  | readResponse =>
    simp only [execReadResponse] at ht
    split at ht <;> cases ht
    · exact h.read ..
    · exact h.refl s
  | powerOn => cases ht; exact h.deviceReset ..
  | resetPin => exact h.of_event ht (h.deviceReset ..)
  | picPresentChange =>
    simp only [execPicPresentChange] at ht
    split at ht <;> cases ht <;> exact h.presence ..
  | presentFilterExpiry => exact h.of_event ht h.of_presentFilterDone
  | homeSwitchChange => exact h.of_homeSwitchChange ht
  | homeFilterExpiry => exact h.of_event ht (h.homeFilter ..)
  | stepEvent => exact h.of_event ht (h.axisStep ..)
  | dividerAdvance => exact h.of_event ht (h.of_dividerAdvance _)
  | coilRelease => exact h.of_event ht (h.coilRelease ..)
  | jogExpiry => exact h.of_event ht (h.of_jogExpiry ..)
  | criticalPersisted => exact h.of_event ht (h.criticalPersisted ..)
  | sensorSubstitution => exact h.of_event ht (h.substitution ..)
  | cooldownTimeout => exact h.of_event ht h.of_cooldownTimeout
  | parkTimeout => exact h.of_event ht h.of_parkTimeout
  | rampStep => exact h.of_event ht h.of_rampStepDue
  | conversionComplete => exact h.of_event ht (h.conversion ..)
  | tripInputChange => exact h.of_tripInputChange ht
  | tripLatchSet => exact h.of_event ht (h.tripLatch ..)
  | tachPulse => exact h.of_event ht (h.tach ..)
  | frameStrobe => exact h.of_event ht (h.frameStrobe s)
  | bandStrobe => exact h.of_event ht (h.bandStrobe s)
  | streamWordSent => exact h.of_event ht (h.wordSent s)
  | computeComplete => exact h.of_event ht (h.computeDone s)
  | writeComplete => exact h.of_event ht (h.writeDone s)
  | powerFail => exact h.of_event ht (h.powerLost s)

theorem of_step (ht : step s = .next t) : R s t := by
  unfold step at ht
  split at ht
  · cases ht
    exact h.refl s
  · exact h.trans (h.pending s _) (h.of_exec ht)

end Respected

end Sys2Proof.Machine
end

section
/-! PROOFS. What the axis events, the settings of an axis, the recall, the tracker's tick and the other operations of the
motion side can do: the motion frame, with the coils following, one entry an axis, and no GRANTED slot beyond the
allowance. -/

namespace Sys2Proof.Machine

/-- What every operation of the motion side keeps, those that move an axis or write its settings as well. -/
structure AxisFrame (s t : State) : Prop where
  frame : MotionFrame s t
  coils : CoilsSafe s → CoilsSafe t
  one : OneEntry s → OneEntry t
  granted : t.sched.grantedCount ≤ max s.sched.grantedCount (allowance s)

theorem SchedFrame.axis {s t : State} (h : SchedFrame s t) : AxisFrame s t :=
  ⟨h.step.frame, h.step.coils, h.step.one, h.granted⟩

theorem DeliveryFrame.axis {s t : State} (h : DeliveryFrame s t) : AxisFrame s t := h.sched_frame.axis

theorem AxisFrame.refl (s : State) : AxisFrame s s := (SchedFrame.refl s).axis

theorem AxisFrame.trans {s t u : State} (h : AxisFrame s t) (k : AxisFrame t u) : AxisFrame s u := by
  refine ⟨h.frame.trans k.frame, fun x => k.coils (h.coils x), fun x => k.one (h.one x), ?_⟩
  have hg := h.granted
  have kg := k.granted
  rw [h.frame.allowance] at kg
  omega

theorem AxisFrame.foldl {α : Type} {f : State → α → State} (hf : ∀ s x, AxisFrame s (f s x)) (l : List α) (s : State) :
    AxisFrame s (l.foldl f s) := by
  induction l generalizing s with
  | nil => exact .refl s
  | cons x l ih => exact (hf s x).trans (ih _)

/-- Writing a channel whose coils follow, at whatever place. -/
theorem setChan_axis {s : State} {a : Axis} {c : Channel} (hc : CoilsFollow (s.chan a) → CoilsFollow c) :
    AxisFrame s (s.setChan a c) := by
  refine ⟨setChan_frame a c s, fun k b => ?_, id, Nat.le_max_left _ _⟩
  rw [State.setChan_chan]
  split
  · exact hc (k a)
  · exact k b

/-! ### Step events -/

theorem settleAndGrant_axis (a : Axis) (p : Progress) (s : State) (hc : CoilsFollow (s.chan a) → CoilsFollow p.chan) :
    AxisFrame s (settleAndGrant a p s) := by
  cases p with
  | running c => exact setChan_axis hc
  | ended c e => exact (setChan_axis hc).trans ((endMotion_sched a c e s).trans (grantPass_sched _)).axis

theorem stopStep_axis (a : Axis) (s : State) : AxisFrame s (stopStep a s) := by
  have hc : AxisFrame s (s.setChan a
      { (s.chan a).microstep with ramp := decelStep (s.chan a).microstep.table (s.chan a).microstep.ramp }) :=
    setChan_axis fun h => ⟨(microstep_follow h).index, (microstep_follow h).buffer, (microstep_follow h).driven⟩
  unfold stopStep
  dsimp only
  split
  · exact hc.trans (finishStop_sched a _).axis
  · exact hc

theorem axisStep_axis (a : Axis) (s : State) : AxisFrame s (axisStep a s) := by
  unfold axisStep
  dsimp only
  split
  · exact settleAndGrant_axis _ _ _ moveStep_follow
  · exact settleAndGrant_axis _ _ _ jogStep_follow
  · exact settleAndGrant_axis _ _ _ homeStep_follow
  · exact stopStep_axis _ _
  all_goals exact .refl s

/-! ### Switch events -/

theorem switchAsserted_axis (a : Axis) (s : State) : AxisFrame s (switchAsserted a s) := by
  unfold switchAsserted
  dsimp only
  split
  · split
    · exact settleAndGrant_axis _ _ _ fun h => slowFast_follow h _ _
    all_goals exact .refl s
  · exact .refl s

theorem stopResync_axis (a : Axis) (c : Channel) (s : State) (hc : CoilsFollow (s.chan a) → CoilsFollow c) :
    AxisFrame s (stopResync a c s) := by
  unfold stopResync
  dsimp only
  split
  · exact setChan_axis fun h => ⟨(hc h).index, (hc h).buffer, (hc h).driven⟩
  · exact (setChan_axis hc).trans (finishStop_sched a _).axis

theorem resync_axis (a : Axis) (s : State) : AxisFrame s (resync a s) := by
  have hc : CoilsFollow (s.chan a) → CoilsFollow { s.chan a with position := (s.chan a).position - (s.chan a).edgeError } :=
    fun h => ⟨h.index, h.buffer, h.driven⟩
  unfold resync
  dsimp only
  split
  · exact .refl s
  · split
    · exact settleAndGrant_axis _ _ _ fun h => moveResync_follow (hc h)
    · exact settleAndGrant_axis _ _ _ fun h => jogResync_follow (hc h)
    · exact stopResync_axis _ _ _ hc
    all_goals exact .refl s

theorem lostStep_axis (a : Axis) (s : State) : AxisFrame s (lostStep a s) := by
  have h1 : AxisFrame s (loseReference a .lost (uncurrent a (s.setChan a { s.chan a with referenced := false }))) := by
    refine AxisFrame.trans ?_ (loseReference_sched a .lost _).axis
    refine AxisFrame.trans ?_ (uncurrent_delivery a _).axis
    exact setChan_axis fun h => ⟨h.index, h.buffer, h.driven⟩
  unfold lostStep
  dsimp only
  split
  · exact h1.trans (setChan_axis fun h => ⟨h.index, h.buffer, h.driven⟩)
  · exact h1.trans (orderStop_sched a .lost _).axis

theorem homed_follow {c : Channel} (h : CoilsFollow c) : CoilsFollow c.homed := ⟨h.index, h.buffer, h.driven⟩

theorem switchReleased_axis (a : Axis) (s : State) : AxisFrame s (switchReleased a s) := by
  unfold switchReleased
  dsimp only
  split
  · split
    · exact (setChan_axis homed_follow).trans ((endMotion_sched a _ _ s).trans (grantPass_sched _)).axis
    all_goals exact .refl s
  · split
    · split
      · exact resync_axis a s
      · exact lostStep_axis a s
    · exact .refl s

theorem homeFilterDone_axis (a : Axis) (s : State) : AxisFrame s (homeFilterDone a s) := by
  have hc : AxisFrame s (s.setChan a (s.chan a).switchTaken) :=
    setChan_axis fun h => ⟨h.index, h.buffer, h.driven⟩
  unfold homeFilterDone
  dsimp only
  split
  · split
    · exact hc.trans (switchAsserted_axis a _)
    · exact hc.trans (switchReleased_axis a _)
  · exact .refl s

/-! ### Hold timers -/

theorem holdTicks_axis (s : State) : AxisFrame s (holdTicks s) := by
  refine ⟨{ MotionFrame.refl s with }, fun h a => ?_, id, Nat.le_max_left _ _⟩
  cases a
  · exact holdTick_follow (h .sh)
  · exact holdTick_follow (h .sv)
  · exact holdTick_follow (h .zm)
  · exact holdTick_follow (h .fc)

theorem coilRelease_axis (a : Axis) (s : State) : AxisFrame s (coilRelease a s) := by
  unfold coilRelease
  split
  · exact setChan_axis holdTick_follow
  · exact .refl s

/-! ### Settings -/

theorem axisGone_axis (a : Axis) (x : Settings) (s : State) : AxisFrame s (axisGone a x s) := by
  have hc : AxisFrame s (s.setChan a { (s.chan a).release with settings := x, referenced := false, state := .absent }) :=
    setChan_axis fun h => ⟨(release_follow h).index, (release_follow h).buffer, (release_follow h).driven⟩
  unfold axisGone
  dsimp only
  refine AxisFrame.trans ?_ (becomeAbsent_sched a _).axis
  split
  · exact hc.trans (writeDemand_delivery _ _ _).axis
  · exact hc

theorem axisFitted_axis (a : Axis) (x : Settings) (s : State) : AxisFrame s (axisFitted a x s) := by
  have hc : AxisFrame s (s.setChan a { s.chan a with settings := x, state := .unreferenced, position := 0 }) :=
    setChan_axis fun h => ⟨h.index, h.buffer, h.driven⟩
  unfold axisFitted
  dsimp only
  split
  · exact hc.trans (writeDemand_delivery _ _ _).axis
  · exact hc

theorem axisUnreferenced_axis (a : Axis) (s : State) : AxisFrame s (axisUnreferenced a s) := by
  refine AxisFrame.trans ?_ (loseReference_sched a .settings _).axis
  refine AxisFrame.trans ?_ (uncurrent_delivery a _).axis
  exact setChan_axis fun h => ⟨h.index, h.buffer, h.driven⟩

theorem axisRecentred_axis (a : Axis) (s : State) : AxisFrame s (axisRecentred a s) := by
  unfold axisRecentred
  split <;> exact (writeDemand_delivery _ _ _).axis

theorem axisKept_axis (a : Axis) (x : Settings) (s : State) : AxisFrame s (axisKept a x s) := by
  have hc : AxisFrame s (s.setChan a { s.chan a with settings := x }) :=
    setChan_axis fun h => ⟨h.index, h.buffer, h.driven⟩
  unfold axisKept
  dsimp only
  split
  · refine AxisFrame.trans ?_ (axisRecentred_axis a _)
    split
    · exact hc.trans (axisUnreferenced_axis a _)
    · exact hc
  · split
    · exact hc.trans (axisUnreferenced_axis a _)
    · exact hc

theorem applySettings_axis (a : Axis) (x : Settings) (s : State) : AxisFrame s (applySettings a x s) := by
  unfold applySettings
  split
  · exact axisGone_axis a x s
  · exact axisFitted_axis a x s
  all_goals exact axisKept_axis a x s

theorem setTable_axis (a : Axis) (l : List RampLevel) (s : State) :
    AxisFrame s (s.setChan a { s.chan a with table := l }) := setChan_axis fun h => ⟨h.index, h.buffer, h.driven⟩

theorem setSwitch_axis (a : Axis) (x : HomeSwitch) (s : State) :
    AxisFrame s (s.setChan a { s.chan a with switch := x }) := setChan_axis fun h => ⟨h.index, h.buffer, h.driven⟩

/-! ### Jogs -/

theorem restartQueued_sched (a : Axis) (s : State) : SchedFrame s (restartQueued a s) := by
  unfold restartQueued
  split
  · refine withSched_sched rfl (fun h => ?_) (Nat.le_refl _)
    simp only [Scheduler.rewrite, queue_rewrite_axes]
    exact h
  · exact .refl s

theorem restartRunning_sched (a : Axis) (s : State) : SchedFrame s (restartRunning a s) := by
  unfold restartRunning
  split
  · exact withSched_sched rfl id (Nat.le_refl _)
  · exact .refl s

theorem jogKeep_sched (a : Axis) (o : Origin) (s : State) : SchedFrame s (jogKeep a o s).1 := by
  unfold jogKeep
  split
  · exact .refl s
  · split
    · have h1 : SchedFrame s (if keepsQueued s a o then restartQueued a s else s) := by
        split
        · exact restartQueued_sched a s
        · exact .refl s
      dsimp only
      split
      · exact h1.trans (restartRunning_sched a _)
      · exact h1
    · exact .refl s

/-! ### Recall -/

theorem joinOutstanding_delivery (a : Axis) (s : State) : DeliveryFrame s (joinOutstanding a s) := by
  unfold joinOutstanding
  split
  · exact withRecall_delivery _ _
  · exact .refl s

theorem recallAxis_sched (r : Req) (n : Byte) (p : Picture) (s : State) (a : Axis) :
    SchedFrame s (recallAxis r n p s a) := by
  unfold recallAxis
  split
  · exact (joinOutstanding_delivery a s).sched_frame.trans (admission_sched _ _)
  · exact (writeDemand_delivery _ _ _).sched_frame
  · exact .refl s

theorem endPlacing_delivery (s : State) : DeliveryFrame s (endPlacing s) := by
  unfold endPlacing
  split
  · exact (withRecall_delivery _ _).trans (recallSettle_delivery _)
  · exact .refl s

theorem startRecall_sched (r : Req) (slot : Byte) (p : Picture) (s : State) : SchedFrame s (startRecall r slot p s) := by
  unfold startRecall
  have hopen : SchedFrame s (openRecall r slot p (supersedeRecall s)) :=
    ((supersedeRecall_delivery s).trans (withRecall_delivery _ _)).sched_frame
  exact ((hopen.trans (SchedFrame.foldl (recallAxis_sched r _ p) allAxes _)).trans
    (endPlacing_delivery _).sched_frame).trans (grantPass_sched _)

theorem keystoneRequest_delivery (kv kh : Int) (s : State) : DeliveryFrame s (keystoneRequest kv kh s).1 := by
  have hinputs : (cancelRecallKeystone s).geom = s.geom := by
    unfold cancelRecallKeystone
    split <;> rfl
  unfold keystoneRequest
  dsimp only
  rw [← hinputs]
  exact (cancelRecallKeystone_delivery s).trans (writeKeystone_delivery _ _ _ _)

/-! ### Tracking -/

theorem takeUpReference_delivery (s : State) : DeliveryFrame s (takeUpReference s) :=
  withTrack_delivery rfl fun _ => Nat.zero_le _

theorem trackUnreferenced_delivery (s : State) : DeliveryFrame s (s.withTrack s.track.unreferenced) :=
  withTrack_delivery rfl fun _ => Nat.zero_le _

/-- A note of the tracker that leaves the offset and its limit. -/
theorem noteTrack_sched {s : State} {x : Tracker} (hl : x.limit = s.track.limit) (ha : x.applied = s.track.applied) :
    SchedFrame s (s.withTrack x) := by
  refine (withTrack_delivery hl fun h => ?_).sched_frame
  rw [hl, ha]
  exact h

theorem placeCorrection_sched (c : Int) (s : State) : SchedFrame s (placeCorrection c s) := by
  unfold placeCorrection
  dsimp only
  split
  · exact noteTrack_sched rfl rfl
  · split
    · exact noteTrack_sched rfl rfl
    · refine SchedFrame.trans ?_ (grantPass_sched _)
      refine SchedFrame.trans ?_ (admission_sched _ _)
      exact noteTrack_sched rfl rfl

theorem trackActive_sched (tRef : Int) (s : State) : SchedFrame s (trackActive tRef s) := by
  unfold trackActive
  dsimp only
  split
  · exact noteTrack_sched rfl rfl
  · refine SchedFrame.trans ?_ (placeCorrection_sched _ _)
    exact noteTrack_sched rfl rfl

theorem trackTick_sched (s : State) : SchedFrame s (trackTick s) := by
  unfold trackTick
  dsimp only
  split
  · split
    · refine SchedFrame.trans ?_ (trackActive_sched _ _)
      exact noteTrack_sched rfl rfl
    · refine SchedFrame.trans ?_ (takeUpReference_delivery _).sched_frame
      exact noteTrack_sched rfl rfl
  · split
    · exact noteTrack_sched rfl rfl
    · refine SchedFrame.trans ?_ (trackUnreferenced_delivery _).sched_frame
      exact noteTrack_sched rfl rfl

end Sys2Proof.Machine
end

section
/-! PROOFS. The invariants that no operation breaks on its way: ports (R184, R186), engine and banks (R84 to R86, R93),
demand records and inputs (R50, R73), tracking offset (R171), lens memories (R58), coils (R9 to R11), queue (R31). -/

namespace Sys2Proof.Machine

/-- The seven invariants that every operation keeps, each by itself. -/
structure Keeps (s t : State) : Prop where
  ports : PortsSafe s → PortsSafe t
  engine : EngineSafe s → EngineSafe t
  excess : ExcessAgrees s → ExcessAgrees t
  offset : OffsetWithin s → OffsetWithin t
  memory : TenRecords s → TenRecords t
  coils : CoilsSafe s → CoilsSafe t
  one : OneEntry s → OneEntry t

theorem Keeps.refl (s : State) : Keeps s s := ⟨id, id, id, id, id, id, id⟩

theorem Keeps.trans {s t u : State} (h : Keeps s t) (k : Keeps t u) : Keeps s u :=
  ⟨k.ports ∘ h.ports, k.engine ∘ h.engine, k.excess ∘ h.excess, k.offset ∘ h.offset, k.memory ∘ h.memory,
    k.coils ∘ h.coils, k.one ∘ h.one⟩

theorem Keeps.foldl {α : Type} {f : State → α → State} (hf : ∀ s x, Keeps s (f s x)) (l : List α) (s : State) :
    Keeps s (l.foldl f s) := by
  induction l generalizing s with
  | nil => exact .refl s
  | cons x l ih => exact (hf s x).trans (ih _)

theorem AxisFrame.keeps {s t : State} (h : AxisFrame s t) : Keeps s t where
  ports := h.frame.ports
  engine := h.frame.engine
  excess := h.frame.excess
  offset := h.frame.offset
  memory k := by
    unfold TenRecords at *
    rw [h.frame.mem]
    exact k
  coils := h.coils
  one := h.one

theorem SchedFrame.keeps {s t : State} (h : SchedFrame s t) : Keeps s t := h.axis.keeps

/-! ### Writes of one block -/

theorem pending_keeps (l : List Instr) (s : State) : Keeps s { s with pending := l } := { Keeps.refl s with }
theorem withCool_keeps (x : Cooling) (s : State) : Keeps s (s.withCool x) := { Keeps.refl s with }
theorem withMeas_keeps (x : Measure) (s : State) : Keeps s (s.withMeas x) := { Keeps.refl s with }
theorem withPhase_keeps (x : PhaseRec) (s : State) : Keeps s (s.withPhase x) := { Keeps.refl s with }
theorem withPresence_keeps (x : Presence) (s : State) : Keeps s (s.withPresence x) := { Keeps.refl s with }
theorem withStream_keeps (x : Stream) (s : State) : Keeps s (s.withStream x) := { Keeps.refl s with }
theorem withDivider_keeps (x : Byte) (s : State) : Keeps s (s.withDivider x) := { Keeps.refl s with }

theorem withMem_keeps {x : Memories} {s : State} (h : x.records.length = s.mem.records.length) :
    Keeps s (s.withMem x) := { Keeps.refl s with memory := fun k => h.trans k }

theorem withTrack_keeps {x : Tracker} {s : State} (h : s.track.applied.natAbs ≤ s.track.limit → x.applied.natAbs ≤ x.limit) :
    Keeps s (s.withTrack x) := { Keeps.refl s with offset := h }

theorem withSched_keeps {x : Scheduler} {s : State} (h : x.queue = s.sched.queue) : Keeps s (s.withSched x) :=
  { Keeps.refl s with
    one := fun k => by
      unfold OneEntry at *
      simpa [h] using k }

theorem setPort_keeps {p : Port} {x : PortRec} {s : State} (h : PortSafe (s.port p) → PortSafe x) :
    Keeps s (s.setPort p x) := by
  have hx : PortsSafe s → PortsSafe (s.setPort p x) := fun k => PortSafe.setPort k p (h (k p))
  cases p <;> exact { Keeps.refl s with ports := hx }

theorem raiseOn_keeps (p : Port) (e : Event) (s : State) : Keeps s (raiseOn p e s) := setPort_keeps fun h => h.raise e

theorem raiseBoth_keeps (e : Event) (s : State) : Keeps s (raiseBoth e s) :=
  (raiseOn_keeps .system e s).trans (raiseOn_keeps .picture e _)

theorem notify_keeps (p : Port) (n : Notice) (s : State) : Keeps s (notify p n s) := setPort_keeps fun h => h.noticed n _

theorem respond_keeps (p : Port) (tag : Byte) (x : Reply) (s : State) : Keeps s (respond p tag x s) :=
  setPort_keeps fun h => h.unread _

theorem read_portSafe {p : PortRec} (h : PortSafe p) (n : Nat) : PortSafe (p.read n) := by
  unfold PortRec.read
  split <;> exact ⟨h.attn, h.notices⟩

theorem afterRead_portSafe {p : PortRec} (h : PortSafe p) : PortSafe p.afterRead := by
  refine PortSafe.settle ?_
  have := h.notices
  simp only [List.length_drop]
  omega

/-! ### Geometry, banks and stream -/

/-- Writing the geometry so that the engine stays safe and the excess stands. -/
theorem withGeom_keeps {x : Geometry} {s : State} (he : EngineSafe s → EngineSafe (s.withGeom x))
    (hi : x.inputs.excessH = s.geom.inputs.excessH ∧ x.inputs.excessV = s.geom.inputs.excessV) :
    Keeps s (s.withGeom x) :=
  { Keeps.refl s with
    engine := he
    excess := fun k => ⟨hi.1.trans k.1, hi.2.trans k.2⟩ }

/-- An exchange of a bank that is the only one that may be FILLING, or VALID already. -/
theorem exchange_engine {n : BankName} {told : LiveTo} {s : State} (h : ∀ m, (s.banks.get m).state ≠ .filling) :
    EngineSafe (exchange n told s) := by
  have hs : ∀ m, ((({ s.banks.set n { s.banks.get n with generation := nextGeneration s.banks } with live := some n } :
      Banks)).get m).state ≠ .filling := by
    intro m
    have hset := Banks.get_set s.banks n m { s.banks.get n with generation := nextGeneration s.banks }
    have hsame : (({ s.banks.set n { s.banks.get n with generation := nextGeneration s.banks } with live := some n } :
      Banks)).get m = (s.banks.set n { s.banks.get n with generation := nextGeneration s.banks }).get m := by
      cases m <;> rfl
    rw [hsame, hset]
    split
    · exact h n
    · exact h m
  cases told <;> exact hs

theorem exchange_keeps {n : BankName} {told : LiveTo} {s : State}
    (h : EngineSafe s → ∀ m, (s.banks.get m).state ≠ .filling) : Keeps s (exchange n told s) := by
  have he : EngineSafe s → EngineSafe (exchange n told s) := fun k => exchange_engine (h k)
  have hk := Keeps.refl s
  cases told with
  | both => exact { raiseBoth_keeps .geometryLive _ with engine := he }
  | systemAlone => exact { raiseOn_keeps .system .geometryLive _ with engine := he }

theorem exchangePending_keeps (told : LiveTo) (s : State) : Keeps s (exchangePending told s) := by
  unfold exchangePending
  split
  · next hsp =>
    refine exchange_keeps fun h => ?_
    simp only [EngineSafe, hsp] at h
    obtain ⟨n, -, -, hf⟩ := h
    exact hf
  all_goals exact .refl s

theorem writes_keeps {f : State → State} {s : State} (h : ∃ x, f s = s.withStream x) : Keeps s (f s) := by
  obtain ⟨x, hx⟩ := h
  rw [hx]
  exact withStream_keeps x s

theorem resetStreamContext_keeps (s : State) : Keeps s (resetStreamContext s) :=
  writes_keeps (resetStreamContext_writes s)

theorem clearStream_keeps (m : StreamMode) (s : State) : Keeps s (clearStream m s) :=
  writes_keeps (clearStream_writes m s)

theorem changeMode_keeps (m : StreamMode) (s : State) : Keeps s (changeMode m s) := by
  unfold changeMode
  split
  · exact .refl s
  · split
    · exact (clearStream_keeps _ s).trans (exchangePending_keeps _ _)
    · split
      · exact withStream_keeps _ s
      · exact clearStream_keeps _ s

theorem overrun_keeps (c : Overrun) (s : State) : Keeps s (overrun c s) :=
  (withStream_keeps _ s).trans (raiseOn_keeps _ _ _)

theorem frameStrobe_keeps (s : State) : Keeps s (frameStrobe s) := by
  unfold frameStrobe
  split
  · exact .refl s
  · have hx := exchangePending_keeps .both s
    dsimp only
    split
    · exact hx.trans (withStream_keeps _ _)
    · exact hx.trans (writes_keeps (beginFrame_writes _ _))

theorem strobeBand_keeps (s : State) : Keeps s (strobeBand s) := by
  unfold strobeBand
  split
  · split
    · split
      · exact overrun_keeps _ s
      · exact withStream_keeps _ s
    · exact writes_keeps (serveBand_writes s)
  · exact .refl s

theorem bandStrobe_keeps (s : State) : Keeps s (bandStrobe s) := by
  unfold bandStrobe
  split
  · exact withStream_keeps _ s
  · exact strobeBand_keeps s

theorem strobeBands_keeps (n : Nat) (s : State) : Keeps s (strobeBands n s) := by
  induction n generalizing s with
  | zero => exact .refl s
  | succ n ih => exact (strobeBand_keeps s).trans (ih _)

theorem endSend_keeps (f : Finishing) (s : State) : Keeps s (endSend f s) := by
  unfold endSend
  dsimp only
  refine Keeps.trans ?_ (strobeBands_keeps _ _)
  have h2 (x : Stream) (b : Bool) :
      Keeps s (if b then overrun .frame (s.withStream x) else s.withStream x) := by
    split
    · exact (withStream_keeps _ s).trans (overrun_keeps _ _)
    · exact withStream_keeps _ s
  split
  · exact (h2 _ _).trans (writes_keeps (beginFrame_writes _ _))
  · exact h2 _ _

theorem wordSent_keeps (s : State) : Keeps s (wordSent s) := by
  cases hf : s.stream.finishing with
  | some f =>
    unfold wordSent
    rw [hf]
    exact endSend_keeps f s
  | none => exact writes_keeps (wordSent_writes hf)

theorem completeCompute_keeps {n : BankName} {i : Inputs} {s : State} (he : s.geom.engine = .computing)
    (hb : s.geom.bank = some n) : Keeps s (completeCompute n i s) := by
  have hinv (h : EngineSafe s) : s.banks.live ≠ some n ∧ ∀ m, (s.banks.get m).state = .filling → m = n := by
    simp only [EngineSafe, he, hb] at h
    obtain ⟨k, hk, hl, hf⟩ := h
    cases hk
    exact ⟨hl, hf⟩
  have hnone (h : EngineSafe s) (m : BankName) :
      ((s.banks.set n (filledBank i (s.banks.get n))).get m).state ≠ .filling := by
    rw [Banks.get_set]
    split
    · exact fun k => nomatch k
    · next hm => exact fun k => hm ((hinv h).2 m k)
  have hkept : Keeps s
      ((s.withBanks (s.banks.set n (filledBank i (s.banks.get n)))).withGeom (keptGeometry i s.geom)) :=
    { Keeps.refl s with
      engine := fun h => ⟨n, hb, by simpa using (hinv h).1, hnone h⟩ }
  unfold completeCompute
  dsimp only
  split
  · exact { Keeps.refl s with engine := fun h => startCompute_engine (hinv h).1 (hinv h).2 }
  · split
    · exact hkept
    · refine hkept.trans (exchange_keeps fun h => ?_)
      obtain ⟨-, -, -, hf⟩ := h
      exact hf

theorem computeDone_keeps (s : State) : Keeps s (computeDone s) := by
  unfold computeDone
  split
  · next he hb hs => exact completeCompute_keeps he hb
  all_goals exact .refl s

theorem recompute_delivery (s : State) : DeliveryFrame s (recompute s) :=
  ⟨recompute_frame s, recompute_axes s, recompute_sched s⟩

theorem changePanel_keeps (w h g : Nat) (s : State) : Keeps s (changePanel w h g s) := by
  have hinv (m : BankName) : ((invalidateBanks s.banks).get m).state = .filling ↔ (s.banks.get m).state = .filling := by
    have hbank (b : Bank) : b.invalidated.state = .filling ↔ b.state = .filling := by
      unfold Bank.invalidated
      split
      · rfl
      · next hb => simp [hb]
    cases m <;> exact hbank _
  have hwrite : Keeps s ((s.withBanks (invalidateBanks s.banks)).withGeom
      { s.geom with inputs := { s.geom.inputs with w := w, h := h, g := g } }) :=
    { Keeps.refl s with
      engine := fun k => by
        unfold EngineSafe at *
        simp only [State.withGeom_geom, State.withGeom_banks, State.withBanks_banks, hinv, ne_eq]
        exact k }
  exact hwrite.trans (recompute_delivery _).axis.keeps

/-! ### Cooling -/

theorem refreshCap_keeps (s : State) : Keeps s (refreshCap s) := by
  unfold refreshCap
  split
  · exact .refl s
  · exact (withCool_keeps _ s).trans (raiseBoth_keeps _ _)

theorem coolRefresh_keeps (s : State) : Keeps s (coolRefresh s) := (withCool_keeps _ s).trans (refreshCap_keeps _)

theorem changeOrientation_keeps (o : Orientation) (s : State) : Keeps s (changeOrientation o s) := by
  have hinputs : Keeps s (writeInputs { s.geom.inputs with orientation := o } s) := by
    unfold writeInputs
    split
    · exact .refl s
    · refine Keeps.trans ?_ (recompute_delivery _).axis.keeps
      exact withGeom_keeps (fun h => h) ⟨rfl, rfl⟩
  unfold changeOrientation
  split
  · exact .refl s
  · exact ((hinputs.trans (uncurrent_delivery .sh _).axis.keeps).trans (uncurrent_delivery .sv _).axis.keeps).trans
      (coolRefresh_keeps _)

theorem writeZone_keeps (z : Zone) (m : PerChan Bool) (p : ZoneParams) (s : State) : Keeps s (writeZone z m p s) :=
  (withCool_keeps _ s).trans (coolRefresh_keeps _)

theorem writeCurve_keeps (o : Orientation) (z : Zone) (l : List CurvePoint) (s : State) : Keeps s (writeCurve o z l s) := by
  cases o <;> exact (withCool_keeps _ s).trans (coolRefresh_keeps _)

theorem quietRequest_keeps (on : Bool) (cap level : Nat) (s : State) : Keeps s (quietRequest on cap level s).1 := by
  unfold quietRequest
  split
  · exact (withCool_keeps _ s).trans (coolRefresh_keeps _)
  · exact .refl s

/-! ### Phases -/

theorem allowanceChanged_keeps (old : Nat) (s : State) : Keeps s (allowanceChanged old s) :=
  (allowanceChanged_sched old s).keeps

theorem handTracker_keeps (p : Phase) (s : State) : Keeps s (handTracker p s) := by
  unfold handTracker
  split
  · exact (takeUpReference_delivery s).axis.keeps
  · exact .refl s

theorem followLines_keeps (s : State) : Keeps s (followLines s) := withPhase_keeps _ s

theorem setPhase_keeps (p : Phase) (why : Reason) (ramp : Option Nat) (s : State) : Keeps s (setPhase p why ramp s) := by
  unfold setPhase
  refine Keeps.trans ?_ (allowanceChanged_keeps _ _)
  refine Keeps.trans ?_ (handTracker_keeps _ _)
  refine Keeps.trans ?_ (coolRefresh_keeps _)
  refine Keeps.trans ?_ (raiseBoth_keeps _ _)
  exact (withPhase_keeps _ s).trans (followLines_keeps _)

theorem placeParkOf_sched (targets : PerAxis (Option Nat)) (s : State) (a : Axis) :
    SchedFrame s (placeParkOf targets s a) := by
  unfold placeParkOf
  split
  · exact admission_sched _ s
  · exact .refl s

theorem startPark_keeps (s : State) : Keeps s (startPark s) := by
  unfold startPark
  dsimp only
  refine Keeps.trans ?_ (grantPass_sched _).keeps
  refine Keeps.trans ?_ (parkSettle_delivery _).axis.keeps
  refine Keeps.trans ?_ (withPhase_keeps _ _)
  refine Keeps.trans ?_ (SchedFrame.foldl (placeParkOf_sched _) allAxes _).keeps
  exact withPhase_keeps _ s

theorem endPark_keeps (s : State) : Keeps s (endPark s) := by
  unfold endPark
  split
  · exact withPhase_keeps _ s
  · exact .refl s

/-- The first half of withdrawing a park: the queued PARK entry of an axis is removed (R157). -/
def withdrawParkEntry (a : Axis) (s : State) : State :=
  match s.sched.entryOf a with
  | some en => if en.origin = .park then removeEntry en .stopped s else s
  | none => s

/-- The second half: the held PARK motion of an axis is dropped (R157). -/
def dropParkHeld (a : Axis) (s : State) : State :=
  if (s.chan a).state = .held then
    match s.sched.records.get a with
    | some m => if m.origin = .park then dropHeldMotion a .stopped s else s
    | none => s
  else s

theorem withdrawPark_eq (s : State) (a : Axis) : withdrawPark s a = dropParkHeld a (withdrawParkEntry a s) := rfl

theorem withdrawParkEntry_sched (a : Axis) (s : State) : SchedFrame s (withdrawParkEntry a s) := by
  unfold withdrawParkEntry
  split
  · split
    · exact removeEntry_sched _ _ s
    · exact .refl s
  · exact .refl s

theorem dropParkHeld_sched (a : Axis) (s : State) : SchedFrame s (dropParkHeld a s) := by
  unfold dropParkHeld
  split
  · split
    · split
      · exact dropHeldMotion_sched _ _ s
      · exact .refl s
    · exact .refl s
  · exact .refl s

theorem withdrawPark_sched (s : State) (a : Axis) : SchedFrame s (withdrawPark s a) :=
  (withdrawParkEntry_sched a s).trans (dropParkHeld_sched a _)

theorem endParkForWarmup_keeps (s : State) : Keeps s (endParkForWarmup s) := by
  have hfold := (endPark_keeps s).trans (SchedFrame.foldl withdrawPark_sched allAxes _).keeps
  unfold endParkForWarmup
  dsimp only
  split
  · exact hfold.trans (grantPass_sched _).keeps
  · exact hfold

theorem enterCooldown_keeps (why : Reason) (s : State) : Keeps s (enterCooldown why s) := by
  have h := (withPhase_keeps { s.phase with coolTimer := 0, restrike := false } s).trans
    (setPhase_keeps .cooldown why none _)
  unfold enterCooldown
  dsimp only
  split
  · exact h.trans (startPark_keeps _)
  · exact h

theorem enterWarmup_keeps (s : State) : Keeps s (enterWarmup s) := (withPhase_keeps _ s).trans (setPhase_keeps ..)

theorem restrikeNow_keeps (s : State) : Keeps s (restrikeNow s) :=
  ((withPhase_keeps _ s).trans (endParkForWarmup_keeps _)).trans (enterWarmup_keeps _)

theorem enterFault_keeps (why : Reason) (s : State) : Keeps s (enterFault why s) := by
  unfold enterFault
  split
  · exact .refl s
  · exact ((withPhase_keeps _ s).trans (endPark_keeps _)).trans (setPhase_keeps ..)

theorem coolTimers_keeps (s : State) : Keeps s (coolTimers s) := by
  unfold coolTimers
  dsimp only
  split
  · split
    · exact (withPhase_keeps _ s).trans (endPark_keeps _)
    · exact withPhase_keeps _ s
  · exact withPhase_keeps _ s

theorem coolDownTick_keeps (s : State) : Keeps s (coolDownTick s) := by
  have h := coolTimers_keeps s
  unfold coolDownTick
  dsimp only
  split
  · exact h.trans (restrikeNow_keeps _)
  · split
    · exact h.trans (setPhase_keeps ..)
    · split
      · exact h.trans (enterFault_keeps _ _)
      · exact h

theorem warmupTick_keeps (s : State) : Keeps s (warmupTick s) := by
  unfold warmupTick
  split
  · unfold rampRiseStep
    dsimp only
    split
    · exact (withPhase_keeps _ s).trans (setPhase_keeps ..)
    · exact (withPhase_keeps _ s).trans (coolRefresh_keeps _)
  · exact withPhase_keeps _ s

theorem phaseTick_keeps (s : State) : Keeps s (phaseTick s) := by
  unfold phaseTick
  split
  · exact warmupTick_keeps s
  · exact coolDownTick_keeps s
  all_goals exact .refl s

theorem scanComplete_keeps (s : State) : Keeps s (scanComplete s) := by
  unfold scanComplete
  split
  · split
    · exact enterCooldown_keeps _ s
    · split
      · split
        · exact enterCooldown_keeps _ s
        · exact setPhase_keeps ..
      · exact setPhase_keeps ..
  · exact .refl s

theorem tripInPhase_keeps (s : State) : Keeps s (tripInPhase s) := by
  have h := followLines_keeps s
  unfold tripInPhase
  dsimp only
  split
  · exact h
  · exact h.trans (enterCooldown_keeps _ _)
  · exact h.trans (enterCooldown_keeps _ _)
  · exact h.trans (enterCooldown_keeps _ _)
  · exact h.trans (withPhase_keeps _ _)
  · exact h

theorem criticalHanded_keeps (s : State) : Keeps s (criticalHanded s) := by
  unfold criticalHanded
  split
  · exact enterCooldown_keeps _ s
  · exact enterCooldown_keeps _ s
  · exact withPhase_keeps _ s
  all_goals exact .refl s

theorem failedHanded_keeps (n : Nat) (s : State) : Keeps s (failedHanded n s) := by
  unfold failedHanded
  dsimp only
  split
  · exact (withPhase_keeps _ s).trans (enterFault_keeps _ _)
  · exact withPhase_keeps _ s

theorem failedSetEffects_keeps (old : PerFan FanRec) (s : State) : Keeps s (failedSetEffects old s) := by
  unfold failedSetEffects
  split
  · exact (failedHanded_keeps _ s).trans (coolRefresh_keeps _)
  · exact .refl s

theorem writeFan_keeps (f : Fan) (b : Bool) (z : PerZone Bool) (p : FanParams) (s : State) :
    Keeps s (writeFan f b z p s) :=
  ((withCool_keeps _ s).trans (failedSetEffects_keeps _ _)).trans (coolRefresh_keeps _)

/-- What a LIGHT_ON can do (R150): nothing, or, with no latch set and no zone CRITICAL, the entry to WARMUP or a pending
restrike. -/
theorem lightOnRequest_cases (s : State) :
    (lightOnRequest s).1 = s ∨
      (latched s || anyCritical s) = false ∧
        (s.phase.phase = .dark ∧ (lightOnRequest s).1 = enterWarmup s ∨
          s.phase.phase = .cooldown ∧
            ((lightOnRequest s).1 = restrikeNow s ∨
              (lightOnRequest s).1 = s.withPhase { s.phase with restrike := true })) := by
  unfold lightOnRequest lightOnCooling
  cases hp : s.phase.phase with
  | start | warmup | lit | fault => exact .inl rfl
  | dark =>
    cases hc : latched s || anyCritical s with
    | true => exact .inl (by simp)
    | false => exact .inr ⟨rfl, .inl ⟨rfl, by simp⟩⟩
  | cooldown =>
    cases hc : latched s || anyCritical s with
    | true => exact .inl (by simp)
    | false =>
      cases hz : z0Below Config.restrikeTemp s with
      | true => exact .inr ⟨rfl, .inr ⟨rfl, .inl (by simp)⟩⟩
      | false => exact .inr ⟨rfl, .inr ⟨rfl, .inr (by simp)⟩⟩

theorem lightOnRequest_keeps (s : State) : Keeps s (lightOnRequest s).1 := by
  rcases lightOnRequest_cases s with h | ⟨-, ⟨-, h⟩ | ⟨-, h | h⟩⟩ <;> rw [h]
  · exact .refl s
  · exact enterWarmup_keeps s
  · exact restrikeNow_keeps s
  · exact withPhase_keeps _ s

theorem lightOffEffect_keeps (s : State) : Keeps s (lightOffEffect s) := by
  unfold lightOffEffect
  split
  · exact enterCooldown_keeps _ s
  · exact enterCooldown_keeps _ s
  · exact withPhase_keeps _ s
  all_goals exact .refl s

theorem clearFaultRequest_keeps (s : State) : Keeps s (clearFaultRequest s).1 := by
  unfold clearFaultRequest
  split
  · split
    · exact .refl s
    · exact enterCooldown_keeps _ s
  · exact .refl s

/-! ### Measurement -/

theorem setDieAllow_keeps (n : Nat) (s : State) : Keeps s (setDieAllow n s) := by
  have h : Keeps s (s.withSched { s.sched with dieAllow := n }) := withSched_keeps rfl
  exact h.trans (allowanceChanged_keeps _ _)

theorem takeReading_applied (t : Tracker) (r : Reading) :
    (t.takeReading r).applied = t.applied ∧ (t.takeReading r).limit = t.limit := by
  unfold Tracker.takeReading
  split <;> exact ⟨rfl, rfl⟩

theorem takeReading_delivery (r : Reading) (s : State) : DeliveryFrame s (s.withTrack (s.track.takeReading r)) := by
  obtain ⟨ha, hl⟩ := takeReading_applied s.track r
  exact withTrack_delivery hl fun h => by rw [ha, hl]; exact h

theorem deliverReading_keeps (ch : Chan) (r : Reading) (s : State) : Keeps s (deliverReading ch r s) := by
  have h : Keeps s (coolReading ch r s) := (withCool_keeps _ s).trans (coolRefresh_keeps _)
  unfold deliverReading
  dsimp only
  split
  · exact h.trans (setDieAllow_keeps _ _)
  · exact h.trans (takeReading_delivery r _).axis.keeps
  all_goals exact h

theorem takeConverted_keeps (ch : Chan) (x : Converted) (s : State) : Keeps s (takeConverted ch x s) := by
  unfold takeConverted
  dsimp only
  split
  · exact (withMeas_keeps _ s).trans (deliverReading_keeps ..)
  · exact withMeas_keeps _ s

theorem passEnd_keeps (s : State) : Keeps s (passEnd s) := by
  unfold passEnd
  split
  · exact (withMeas_keeps _ s).trans (scanComplete_keeps _)
  · exact .refl s

theorem conversionComplete_keeps (code : Nat) (s : State) : Keeps s (conversionComplete code s) := by
  unfold conversionComplete
  dsimp only
  have h (x : Measure) (y : Converted) : Keeps s (takeConverted s.meas.scan y (s.withMeas x)) :=
    (withMeas_keeps _ s).trans (takeConverted_keeps ..)
  split
  · exact (h _ _).trans (passEnd_keeps _)
  · exact h _ _

theorem ageChannel_keeps (s : State) (ch : Chan) : Keeps s (ageChannel s ch) := takeConverted_keeps ..

theorem sensorSubstitution_keeps (ch : Chan) (s : State) : Keeps s (sensorSubstitution ch s) := by
  unfold sensorSubstitution
  split
  · exact ageChannel_keeps s ch
  · exact .refl s

theorem tripLatchSet_keeps (c : Comp) (s : State) : Keeps s (tripLatchSet c s) := by
  unfold tripLatchSet
  dsimp only
  split
  · exact (((withMeas_keeps _ s).trans (raiseBoth_keeps _ _)).trans (tripInPhase_keeps _)).trans (coolRefresh_keeps _)
  · exact .refl s

theorem clearTripRequest_keeps (l : List Comp) (s : State) : Keeps s (clearTripRequest l s).1 := by
  unfold clearTripRequest
  split
  · exact .refl s
  · split
    · exact ((withMeas_keeps _ s).trans (followLines_keeps _)).trans (coolRefresh_keeps _)
    · exact .refl s

theorem writeTable_keeps (b : Bool) (l : List Int) (s : State) : Keeps s (writeTable b l s) := by
  cases b <;> exact withMeas_keeps _ s

theorem writeTracking_keeps (p : TrackParams) (s : State) : Keeps s (writeTracking p s) := by
  unfold writeTracking
  dsimp only
  split
  · next h =>
    simp only [Bool.and_eq_true, decide_eq_true_eq] at h
    exact withTrack_keeps fun k => by rw [← h.2] at k; exact k
  · exact withTrack_keeps fun _ => Nat.zero_le _

/-! ### Ticks -/

theorem evaluateZones_keeps (s : State) : Keeps s (evaluateZones s) := by
  unfold evaluateZones
  dsimp only
  refine Keeps.trans ?_ (coolRefresh_keeps _)
  refine Keeps.trans ?_ (Keeps.foldl (fun s z => ?_) allZones _)
  · refine Keeps.trans ?_ (Keeps.foldl (fun s z => ?_) allZones _)
    · split
      · exact (withCool_keeps _ s).trans (raiseBoth_keeps _ _)
      · exact withCool_keeps _ s
    · unfold handCritical
      split
      · exact criticalHanded_keeps s
      · exact .refl s
  · unfold handPersisted
    split
    · exact enterFault_keeps _ s
    · exact .refl s

theorem criticalPersisted_keeps (z : Zone) (s : State) : Keeps s (criticalPersisted z s) := by
  unfold criticalPersisted
  dsimp only
  split
  · exact (withCool_keeps _ s).trans (enterFault_keeps _ _)
  · exact .refl s

theorem superviseFans_keeps (s : State) : Keeps s (superviseFans s) := by
  unfold superviseFans
  dsimp only
  refine Keeps.trans ?_ (failedSetEffects_keeps _ _)
  split
  · exact (withCool_keeps _ s).trans (raiseBoth_keeps _ _)
  · exact withCool_keeps _ s

theorem takeTick_keeps (k : Taker) (s : State) : Keeps s (takeTick s k) := by
  cases k with
  | holdTimers => exact (holdTicks_axis s).keeps
  | keepCounts => exact (keepTick_sched s).keeps
  | tachAndSlew => exact ((withMeas_keeps _ s).trans (withCool_keeps _ _)).trans (withCool_keeps _ _)
  | failureAges => exact Keeps.foldl ageChannel_keeps allChans s
  | zones => exact evaluateZones_keeps s
  | supervision => exact superviseFans_keeps s
  | phaseTimers => exact phaseTick_keeps s
  | tracking => exact (trackTick_sched s).keeps

/-! ### Resets, supply and memory -/

theorem cutWrite_length (m : Memories) : (cutWrite m).records.length = m.records.length := by
  unfold cutWrite
  split <;> simp

theorem powerLost_keeps (s : State) : Keeps s (powerLost s) :=
  { Keeps.refl s with memory := fun k => (cutWrite_length s.mem).trans k }

theorem resetPort_portSafe : PortSafe resetPort := ⟨by decide, by decide⟩

theorem resetChannel_follow (x : Settings) (pin : Bool) : CoilsFollow ((resetChannel x).afterReset pin) :=
  ⟨show 0 < 32 by decide, show 0 < 32 by decide, fun h => nomatch h⟩

theorem deviceReset_keeps (cause : ResetCause) (addr : Bool) (s : State) : Keeps s (deviceReset cause addr s) where
  ports _ p := by cases p <;> exact resetPort_portSafe
  engine _ := ⟨.a, rfl, nofun, fun m hm => by cases m; rfl; cases hm⟩
  excess _ := ⟨rfl, rfl⟩
  offset _ := Nat.zero_le _
  memory h := (cutWrite_length s.mem).trans h
  coils _ a := by cases a <;> exact resetChannel_follow _ _
  one _ := List.nodup_nil

theorem picturePortReset_keeps (cause : PicResetCause) (s : State) : Keeps s (picturePortReset cause s) := by
  have hport : Keeps s (s.withPicPort s.picPort.cleared) :=
    setPort_keeps (p := .picture) fun _ => PortSafe.settle (Nat.zero_le _)
  unfold picturePortReset
  dsimp only
  exact ((hport.trans (withPresence_keeps _ _)).trans (resetStreamContext_keeps _)).trans (exchangePending_keeps _ _)

theorem writeDone_keeps (s : State) : Keeps s (writeDone s) := by
  unfold writeDone
  split
  · refine Keeps.trans ?_ (notify_keeps _ _ _)
    exact withMem_keeps List.length_set
  · exact .refl s

/-- Every operation keeps the seven invariants. -/
theorem keeps_respected : Respected Keeps where
  refl := .refl
  trans := .trans
  pending s l := pending_keeps l s
  respond := respond_keeps
  afterRead _ _ := setPort_keeps afterRead_portSafe
  mask _ _ _ := setPort_keeps fun h => .settle h.notices
  unit _ _ _ := setPort_keeps fun h => ⟨h.attn, h.notices⟩
  read _ n _ := setPort_keeps fun h => read_portSafe h n
  deviceReset := deviceReset_keeps
  presence := withPresence_keeps
  picturePortReset := picturePortReset_keeps
  powerLost := powerLost_keeps
  motionRequest r a m p k s := (motionRequest_sched r a m p k s).keeps
  demandAbsent _ _ _ := (writeDemand_delivery ..).axis.keeps
  jogKeep a o s := (jogKeep_sched a o s).keeps
  stopAxes l s := (stopAxes_sched l s).keeps
  applySettings a x s _ := (applySettings_axis a x s).keeps
  table a l s := (setTable_axis a l s).keeps
  startRecall r c p s := (startRecall_sched r c p s).keeps
  beginWrite _ _ _ _ _ _ := withMem_keeps List.length_set
  writeDone := writeDone_keeps
  keystone kv kh s := (keystoneRequest_delivery kv kh s).axis.keeps
  orientation := changeOrientation_keeps
  panel := changePanel_keeps
  mode := changeMode_keeps
  zone := writeZone_keeps
  curve := writeCurve_keeps
  fan := writeFan_keeps
  quiet := quietRequest_keeps
  thermTable := writeTable_keeps
  comparator _ _ s _ := withMeas_keeps _ s
  clearTrip := clearTripRequest_keeps
  lightOn := lightOnRequest_keeps
  lightOff := lightOffEffect_keeps
  clearFault := clearFaultRequest_keeps
  tracking := writeTracking_keeps
  switch a x s := (setSwitch_axis a x s).keeps
  homeFilter a s := (homeFilterDone_axis a s).keeps
  axisStep a s := (axisStep_axis a s).keeps
  divider := withDivider_keeps
  tick := takeTick_keeps
  coilRelease a s := (coilRelease_axis a s).keeps
  expireQueued k a s := (expireQueued_sched k a s).keeps
  expireRunning k a s := (expireRunning_sched k a s).keeps
  criticalPersisted := criticalPersisted_keeps
  substitution := sensorSubstitution_keeps
  coolDownTick s _ := coolDownTick_keeps s
  warmupTick s _ := warmupTick_keeps s
  conversion := conversionComplete_keeps
  tripLatch := tripLatchSet_keeps
  tach _ s := withMeas_keeps _ s
  frameStrobe := frameStrobe_keeps
  bandStrobe := bandStrobe_keeps
  wordSent := wordSent_keeps
  computeDone := computeDone_keeps

theorem step_keeps {s t : State} (h : step s = .next t) : Keeps s t := keeps_respected.of_step h

/-- Settles O4: every operation keeps the ports safe. -/
theorem portsSafeKept : Obligations.PortsSafeKept := fun _ _ hs ht => (step_keeps ht).ports hs

/-- Settles O5: every operation keeps the engine away from the live bank. -/
theorem engineSafeKept : Obligations.EngineSafeKept := fun _ _ hs ht => (step_keeps ht).engine hs

/-- Four axes, and so at most four entries of different axes. -/
theorem queue_length_le {l : List Entry} (h : (l.map (·.axis)).Nodup) : l.length ≤ 4 := by
  have hle : (l.map (·.axis)).length ≤ allAxes.length :=
    h.length_le_of_subset fun a _ => by cases a <;> decide
  rw [List.length_map] at hle
  exact hle

/-- Settles O8: every operation keeps the axes of the queue apart, and there are four axes. -/
theorem oneEntryKept : Obligations.OneEntryKept :=
  ⟨fun _ _ hs ht => (step_keeps ht).one hs, fun _ hs => queue_length_le hs⟩

/-- Settles O9: every operation keeps the coils on the entry of the phase index. -/
theorem coilsFollowKept : Obligations.CoilsFollowKept := fun _ _ hs ht => (step_keeps ht).coils hs

/-- Settles O10: every operation keeps the three record invariants. -/
theorem recordsAgreeKept : Obligations.RecordsAgreeKept :=
  ⟨fun _ _ hs ht => (step_keeps ht).excess hs, fun _ _ hs ht => (step_keeps ht).offset hs,
    fun _ _ hs ht => (step_keeps ht).memory hs⟩

end Sys2Proof.Machine
end

section
/-! PROOFS. The cooling controller's targets and light cap (R134, R135, R143, R144): what they look at, when they are
settled, and what a refresh leaves. -/

namespace Sys2Proof.Machine

/-! ### What the targets and the light cap look at -/

/-- Two states that agree in everything the rules of R134 and R143 look at. -/
structure CoolAgree (s t : State) : Prop where
  zoneState : ∀ z, (t.cool.zones.get z).state = (s.cool.zones.get z).state
  zoneTemp : ∀ z, (t.cool.zones.get z).temperature = (s.cool.zones.get z).temperature
  zoneDerate : ∀ z, (t.cool.zones.get z).derate = (s.cool.zones.get z).derate
  floorSet : t.cool.floorSet = s.cool.floorSet
  ceilingSet : t.cool.ceilingSet = s.cool.ceilingSet
  quietOn : t.cool.quietOn = s.cool.quietOn
  quietCap : t.cool.quietCap = s.cool.quietCap
  quietLevel : t.cool.quietLevel = s.cool.quietLevel
  present : ∀ f, (t.cool.fans.get f).present = (s.cool.fans.get f).present
  served : ∀ f, (t.cool.fans.get f).served = (s.cool.fans.get f).served
  minDuty : ∀ f, (t.cool.fans.get f).minDuty = (s.cool.fans.get f).minDuty
  failed : ∀ f, (t.cool.fans.get f).isFailed = (s.cool.fans.get f).isFailed
  phase : t.phase.phase = s.phase.phase
  permit : t.phase.lightPermit = s.phase.lightPermit
  ramp : t.phase.rampLevel = s.phase.rampLevel
  latched : latched t = latched s
  orientation : t.geom.inputs.orientation = s.geom.inputs.orientation

theorem CoolAgree.of_cool {s t : State} (hc : t.cool = s.cool) (hp : t.phase.phase = s.phase.phase)
    (hl : t.phase.lightPermit = s.phase.lightPermit) (hr : t.phase.rampLevel = s.phase.rampLevel)
    (hm : Machine.latched t = Machine.latched s) (ho : t.geom.inputs.orientation = s.geom.inputs.orientation) :
    CoolAgree s t := by
  constructor <;> simp [hc, hp, hl, hr, hm, ho]

section
variable {s t : State} (h : CoolAgree s t)
include h

theorem CoolAgree.failedCount : failedCount t.cool = failedCount s.cool := by
  unfold Machine.failedCount
  simp only [h.failed]

theorem CoolAgree.companions (f g : Fan) : companions t.cool f g = companions s.cool f g := by
  unfold Machine.companions
  simp only [h.present, h.served]

theorem CoolAgree.forced (f : Fan) : forced t f = forced s f := by
  unfold Machine.forced
  simp only [h.present, h.phase, h.latched, h.companions, h.failed]

theorem CoolAgree.quietInForce : quietInForce t = quietInForce s := by
  unfold Machine.quietInForce quietSuspended ZoneRec.isHot
  simp only [h.quietOn, h.failedCount, h.zoneState]

theorem CoolAgree.fanDemand (f : Fan) : fanDemand t (t.cool.fans.get f) = fanDemand s (s.cool.fans.get f) := by
  have hset : t.cool.curveSet t.geom.inputs.orientation = s.cool.curveSet s.geom.inputs.orientation := by
    unfold Cooling.curveSet
    rw [h.orientation, h.floorSet, h.ceilingSet]
  unfold Machine.fanDemand
  simp only [h.served, h.minDuty, hset, h.zoneTemp]

theorem CoolAgree.fanTarget (f : Fan) : fanTarget t f = fanTarget s f := by
  unfold Machine.fanTarget phaseTarget
  simp only [h.forced, h.quietInForce, h.quietCap, h.fanDemand, h.phase, h.minDuty, h.zoneState]

theorem CoolAgree.lightCapOf : lightCapOf t = lightCapOf s := by
  unfold Machine.lightCapOf derates rampDerate quietDerate hotDerate fanDerate
  simp only [h.permit, h.phase, h.ramp, h.quietInForce, h.quietLevel, h.zoneState, h.zoneDerate, h.failedCount]

end

/-! ### Settled fans -/

/-- The target of a present fan is the one of R134, and a forced fan runs at 100 percent (R135). -/
def FanRuled (s : State) (f : Fan) : Prop :=
  (s.cool.fans.get f).present = true →
    (s.cool.fans.get f).target = fanTarget s f ∧ (forced s f = true → (s.cool.fans.get f).commanded = 100)

theorem refreshFans_get (s : State) (f : Fan) : (refreshFans s).get f = refreshFan s f := by cases f <;> rfl

theorem FanRec.forced_eq_self_iff (r : FanRec) :
    { r.command 100 with target := 100 } = r ↔ r.target = 100 ∧ r.commanded = 100 := by
  refine ⟨fun h => ⟨(congrArg FanRec.target h).symm, (congrArg FanRec.commanded h).symm⟩, fun h => ?_⟩
  cases r
  simp_all [FanRec.command]

theorem FanRec.target_eq_self_iff (r : FanRec) (x : Nat) : { r with target := x } = r ↔ r.target = x := by
  refine ⟨fun h => (congrArg FanRec.target h).symm, fun h => ?_⟩
  rw [← h]

/-- A fan that a refresh leaves is one that is ruled already. -/
theorem refreshFan_eq_iff (s : State) (f : Fan) : refreshFan s f = s.cool.fans.get f ↔ FanRuled s f := by
  unfold refreshFan FanRuled
  dsimp only
  by_cases hp : (s.cool.fans.get f).present = true
  · rw [if_pos hp]
    by_cases hf : forced s f = true
    · rw [if_pos hf, FanRec.forced_eq_self_iff]
      simp [fanTarget, hf, hp]
    · rw [if_neg hf, FanRec.target_eq_self_iff]
      simp [hf, hp]
  · rw [if_neg hp]
    simp [hp]

theorem settled_iff (s : State) : Settled s ↔ (∀ f, FanRuled s f) ∧ lightCapOf s = s.cool.lightCap := by
  unfold Settled
  refine and_congr ⟨fun h f => ?_, fun h => PerFan.ext_get fun f => ?_⟩ Iff.rfl
  · rw [← refreshFan_eq_iff, ← refreshFans_get, h]
  · rw [refreshFans_get]
    exact (refreshFan_eq_iff s f).mpr (h f)

/-- Settled passes to a state that agrees and keeps targets, the duties of forced fans, and the light cap. -/
theorem Settled.of_agree {s t : State} (hs : Settled s) (h : CoolAgree s t)
    (htarget : ∀ f, (t.cool.fans.get f).target = (s.cool.fans.get f).target)
    (hduty : ∀ f, forced s f = true → (s.cool.fans.get f).commanded = 100 → (s.cool.fans.get f).target = 100 →
      (t.cool.fans.get f).commanded = 100)
    (hcap : t.cool.lightCap = s.cool.lightCap) : Settled t := by
  obtain ⟨hf, hc⟩ := (settled_iff s).mp hs
  refine (settled_iff t).mpr ⟨fun f hp => ?_, by rw [h.lightCapOf, hc, hcap]⟩
  obtain ⟨ht, hd⟩ := hf f (h.present f ▸ hp)
  rw [htarget, h.fanTarget, h.forced]
  refine ⟨ht, fun hforced => hduty f hforced (hd hforced) ?_⟩
  rw [ht]
  simp [fanTarget, hforced]

/-- Settled looks at nothing beyond the cooling records, the phase, its permit and level, the latches and the
orientation. -/
theorem Settled.congr {s t : State} (hs : Settled s) (hc : t.cool = s.cool) (hp : t.phase.phase = s.phase.phase)
    (hl : t.phase.lightPermit = s.phase.lightPermit) (hr : t.phase.rampLevel = s.phase.rampLevel)
    (hm : latched t = latched s) (ho : t.geom.inputs.orientation = s.geom.inputs.orientation) : Settled t :=
  hs.of_agree (.of_cool hc hp hl hr hm ho) (by simp [hc]) (fun _ _ h _ => by rw [hc]; exact h) (by rw [hc])

/-! ### A refresh -/

/-- The cooling records after a refresh: the fans refreshed and the cap as the refreshed fans give it. -/
def refreshedCool (s : State) : Cooling :=
  { s.cool with
    fans := refreshFans s, lightCap := lightCapOf (s.withCool { s.cool with fans := refreshFans s }) }

/-- A refresh writes the fans and the cap, and LIGHT_CAP on both ports when the cap changes (R144). -/
theorem coolRefresh_eq (s : State) :
    coolRefresh s =
      if (refreshedCool s).lightCap = s.cool.lightCap then s.withCool (refreshedCool s)
      else raiseBoth .lightCap (s.withCool (refreshedCool s)) := by
  have hcap : (refreshedCool s).lightCap = lightCapOf (s.withCool { s.cool with fans := refreshFans s }) := rfl
  unfold coolRefresh refreshCap
  split
  · next h =>
    have hold : (refreshedCool s).lightCap = s.cool.lightCap := hcap.trans h
    have hfix : refreshedCool s = { s.cool with fans := refreshFans s } := by
      unfold refreshedCool
      rw [← hcap, hold]
    rw [if_pos hold, hfix]
  · next h =>
    rw [if_neg (show (refreshedCool s).lightCap ≠ s.cool.lightCap from fun k => h (hcap.symm.trans k))]
    rfl

/-- A refresh changes the cooling records and the ports alone. -/
theorem coolRefresh_writes (s : State) :
    ∃ p q, coolRefresh s = ((s.withCool (refreshedCool s)).withSysPort p).withPicPort q := by
  rw [coolRefresh_eq]
  split
  · exact ⟨s.sysPort, s.picPort, rfl⟩
  · exact ⟨_, _, rfl⟩

section
variable (s : State)

@[simp] theorem coolRefresh_cool : (coolRefresh s).cool = refreshedCool s := by
  obtain ⟨p, q, h⟩ := coolRefresh_writes s
  rw [h]; rfl

@[simp] theorem coolRefresh_phase : (coolRefresh s).phase = s.phase := by
  obtain ⟨p, q, h⟩ := coolRefresh_writes s
  rw [h]; rfl

@[simp] theorem coolRefresh_meas : (coolRefresh s).meas = s.meas := by
  obtain ⟨p, q, h⟩ := coolRefresh_writes s
  rw [h]; rfl

@[simp] theorem coolRefresh_sched : (coolRefresh s).sched = s.sched := by
  obtain ⟨p, q, h⟩ := coolRefresh_writes s
  rw [h]; rfl

@[simp] theorem coolRefresh_axes : (coolRefresh s).axes = s.axes := by
  obtain ⟨p, q, h⟩ := coolRefresh_writes s
  rw [h]; rfl

@[simp] theorem coolRefresh_geom : (coolRefresh s).geom = s.geom := by
  obtain ⟨p, q, h⟩ := coolRefresh_writes s
  rw [h]; rfl

@[simp] theorem coolRefresh_track : (coolRefresh s).track = s.track := by
  obtain ⟨p, q, h⟩ := coolRefresh_writes s
  rw [h]; rfl

theorem coolRefresh_port (p : Port) :
    (coolRefresh s).port p =
      if (coolRefresh s).cool.lightCap = s.cool.lightCap then s.port p else (s.port p).raise .lightCap := by
  rw [coolRefresh_cool, coolRefresh_eq]
  split
  · exact State.withCool_port s _ p
  · rw [raiseBoth_port, State.withCool_port]

end

theorem refreshFan_keeps (s : State) (f : Fan) :
    (refreshFan s f).present = (s.cool.fans.get f).present ∧ (refreshFan s f).served = (s.cool.fans.get f).served ∧
      (refreshFan s f).minDuty = (s.cool.fans.get f).minDuty ∧ (refreshFan s f).state = (s.cool.fans.get f).state := by
  unfold refreshFan
  dsimp only
  split
  · split <;> exact ⟨rfl, rfl, rfl, rfl⟩
  · exact ⟨rfl, rfl, rfl, rfl⟩

/-- Refreshed fans look the same to the rules. -/
theorem withFans_agree (s : State) (cap : Nat) :
    CoolAgree s (s.withCool { s.cool with fans := refreshFans s, lightCap := cap }) := by
  have hk := refreshFan_keeps s
  constructor
  case present => exact fun f => by simp [refreshFans_get, hk f]
  case served => exact fun f => by simp [refreshFans_get, hk f]
  case minDuty => exact fun f => by simp [refreshFans_get, hk f]
  case failed => exact fun f => by simp [FanRec.isFailed, refreshFans_get, hk f]
  all_goals first | rfl | exact fun _ => rfl

theorem coolRefresh_agree (s : State) : CoolAgree s (coolRefresh s) := by
  obtain ⟨p, q, h⟩ := coolRefresh_writes s
  rw [h]
  exact { withFans_agree s (refreshedCool s).lightCap with }

theorem refreshFan_ruled (s : State) (f : Fan) (hp : (s.cool.fans.get f).present = true) :
    (refreshFan s f).target = fanTarget s f ∧ (forced s f = true → (refreshFan s f).commanded = 100) := by
  unfold refreshFan
  dsimp only
  rw [if_pos hp]
  cases hf : forced s f with
  | true => exact ⟨by simp [fanTarget, hf], fun _ => rfl⟩
  | false => exact ⟨by simp, fun h => nomatch h⟩

/-- A refresh leaves targets, forced duties and cap as their rules give them. -/
theorem coolRefresh_settled (s : State) : Settled (coolRefresh s) := by
  have h := coolRefresh_agree s
  refine (settled_iff _).mpr ⟨fun f hp => ?_, ?_⟩
  · rw [h.fanTarget, h.forced]
    rw [h.present] at hp
    have hget : (coolRefresh s).cool.fans.get f = refreshFan s f := by
      rw [coolRefresh_cool]
      exact refreshFans_get s f
    rw [hget]
    exact refreshFan_ruled s f hp
  · rw [h.lightCapOf, coolRefresh_cool]
    exact ((withFans_agree s s.cool.lightCap).lightCapOf).symm

/-- Without the permit the cap is 0 (R143). -/
theorem Settled.cap_zero {s : State} (h : Settled s) (hp : s.phase.lightPermit = false) : s.cool.lightCap = 0 := by
  rw [← h.2]
  simp [lightCapOf, hp]

theorem coolRefresh_zones (s : State) : (coolRefresh s).cool.zones = s.cool.zones := by
  rw [coolRefresh_cool]
  rfl

end Sys2Proof.Machine
end

section
/-! PROOFS. Light safety (R143, R153 to R155, R162 to R164), settled targets and cap (R134, R135, R143, R144), and grants
within the allowance (R35, R37, R40): what a change of phase leaves, and that every operation keeps the three. -/

namespace Sys2Proof.Machine

/-! ### Light -/

/-- Light safety but for the cap, which a refresh brings to its rule. -/
structure LightCore (s : State) : Prop where
  lines : LinesFollow s
  permit : s.phase.lightPermit = true → Cool s
  restrike : s.phase.restrike = true → s.phase.phase = .cooldown ∧ Cool s

theorem LightSafe.core {s : State} (h : LightSafe s) : LightCore s := ⟨h.lines, h.permit, h.restrike⟩

theorem LightCore.safe {s : State} (h : LightCore s) (hs : Settled s) : LightSafe s :=
  ⟨h.lines, hs.cap_zero, h.permit, h.restrike⟩

/-- Cool passes to a state with the same latches and zone states, or fewer latches. -/
theorem Cool.of_agree {s t : State} (h : Cool s) (hl : latched s = false → latched t = false)
    (hz : ∀ z, (t.cool.zones.get z).state = (s.cool.zones.get z).state) : Cool t :=
  ⟨hl h.1, fun z => by rw [hz]; exact h.2 z⟩

/-- Two states that agree in what light safety looks at; a pending restrike may have been dropped. -/
structure LightAgree (s t : State) : Prop where
  phase : t.phase.phase = s.phase.phase
  permit : t.phase.lightPermit = s.phase.lightPermit
  done : t.phase.coolDone = s.phase.coolDone
  fault : t.phase.faultN = s.phase.faultN
  restrike : t.phase.restrike = true → s.phase.restrike = true
  latched : latched t = latched s
  zones : ∀ z, (t.cool.zones.get z).state = (s.cool.zones.get z).state

theorem LightCore.of_agree {s t : State} (hs : LightCore s) (h : LightAgree s t) : LightCore t where
  lines :=
    ⟨by rw [h.permit, h.phase]; exact hs.lines.permit, by rw [h.done, h.phase]; exact hs.lines.done,
      by rw [h.fault, h.phase, h.latched]; exact hs.lines.fault⟩
  permit k := (hs.permit (h.permit ▸ k)).of_agree (by rw [h.latched]; exact id) h.zones
  restrike k := by
    obtain ⟨hp, hc⟩ := hs.restrike (h.restrike k)
    exact ⟨h.phase.trans hp, hc.of_agree (by rw [h.latched]; exact id) h.zones⟩

theorem LightSafe.of_agree {s t : State} (hs : LightSafe s) (h : LightAgree s t)
    (hc : t.cool.lightCap = s.cool.lightCap) : LightSafe t :=
  have k := hs.core.of_agree h
  ⟨k.lines, fun hp => by rw [hc]; exact hs.cap (h.permit ▸ hp), k.permit, k.restrike⟩

theorem coolRefresh_lightAgree (s : State) : LightAgree s (coolRefresh s) := by
  constructor
  case latched => simp [latched]
  case zones => exact fun z => by rw [coolRefresh_zones]
  all_goals simp

theorem LightCore.refresh {s : State} (h : LightCore s) : LightSafe (coolRefresh s) :=
  (h.of_agree (coolRefresh_lightAgree s)).safe (coolRefresh_settled s)

/-! ### The three together -/

/-- The three invariants that look at the phase, each by itself. -/
structure Guards (s t : State) : Prop where
  light : LightSafe s → LightSafe t
  settled : Settled s → Settled t
  grants : GrantsWithin s → GrantsWithin t

theorem Guards.refl (s : State) : Guards s s := ⟨id, id, id⟩

theorem Guards.trans {s t u : State} (h : Guards s t) (k : Guards t u) : Guards s u :=
  ⟨k.light ∘ h.light, k.settled ∘ h.settled, k.grants ∘ h.grants⟩

theorem Guards.foldl {α : Type} {f : State → α → State} (hf : ∀ s x, Guards s (f s x)) (l : List α) (s : State) :
    Guards s (l.foldl f s) := by
  induction l generalizing s with
  | nil => exact .refl s
  | cons x l ih => exact (hf s x).trans (ih _)

/-- What the three invariants look at stands: phase record, cooling records, latches, orientation, scheduler. -/
structure Calm (s t : State) : Prop where
  phase : t.phase = s.phase
  cool : t.cool = s.cool
  latched : latched t = latched s
  orientation : t.geom.inputs.orientation = s.geom.inputs.orientation
  sched : t.sched = s.sched
  axes : t.axes = s.axes

theorem Calm.refl (s : State) : Calm s s := ⟨rfl, rfl, rfl, rfl, rfl, rfl⟩

theorem Calm.trans {s t u : State} (h : Calm s t) (k : Calm t u) : Calm s u :=
  ⟨k.phase.trans h.phase, k.cool.trans h.cool, k.latched.trans h.latched, k.orientation.trans h.orientation,
    k.sched.trans h.sched, k.axes.trans h.axes⟩

theorem Calm.lightAgree {s t : State} (h : Calm s t) : LightAgree s t := by
  constructor
  case latched => exact h.latched
  all_goals simp [h.phase, h.cool]

theorem Calm.guards {s t : State} (h : Calm s t) : Guards s t where
  light k := k.of_agree h.lightAgree (by rw [h.cool])
  settled k := k.congr h.cool (by rw [h.phase]) (by rw [h.phase]) (by rw [h.phase]) h.latched h.orientation
  grants k := by
    unfold GrantsWithin allowance at *
    rw [h.phase, h.sched]
    exact k

theorem SameButPorts.calm {s t : State} (h : SameButPorts s t) : Calm s t :=
  ⟨h.phase, h.cool, by rw [latched, latched, h.meas], by rw [h.geom], h.sched, h.axes⟩

/-- The motion side changes the park outcome in the phase record alone. -/
theorem MotionFrame.phase_fields {s t : State} (h : MotionFrame s t) :
    t.phase.phase = s.phase.phase ∧ t.phase.lightPermit = s.phase.lightPermit ∧ t.phase.coolDone = s.phase.coolDone ∧
      t.phase.faultN = s.phase.faultN ∧ t.phase.restrike = s.phase.restrike ∧ t.phase.rampLevel = s.phase.rampLevel ∧
      t.phase.reason = s.phase.reason ∧ t.phase.coolTimer = s.phase.coolTimer ∧
      t.phase.parkNumber = s.phase.parkNumber ∧ t.phase.parkTimer = s.phase.parkTimer := by
  have p := h.phase
  rw [← p]
  exact ⟨rfl, rfl, rfl, rfl, rfl, rfl, rfl, rfl, rfl, rfl⟩

theorem MotionFrame.lightAgree {s t : State} (h : MotionFrame s t) : LightAgree s t := by
  obtain ⟨hp, hl, hd, hf, hr, -⟩ := h.phase_fields
  exact ⟨hp, hl, hd, hf, fun k => hr ▸ k, by rw [latched, latched, h.meas], fun z => by rw [h.cool]⟩

theorem MotionFrame.settled {s t : State} (h : MotionFrame s t) (hs : Settled s) : Settled t := by
  obtain ⟨hp, hl, -, -, -, hr, -⟩ := h.phase_fields
  exact hs.congr h.cool hp hl hr (by rw [latched, latched, h.meas]) h.orientation

theorem AxisFrame.guards {s t : State} (h : AxisFrame s t) : Guards s t where
  light k := k.of_agree h.frame.lightAgree (by rw [h.frame.cool])
  settled := h.frame.settled
  grants k := by
    have hg := h.granted
    unfold GrantsWithin at *
    rw [h.frame.allowance]
    omega

theorem SchedFrame.guards {s t : State} (h : SchedFrame s t) : Guards s t := h.axis.guards

/-- A refresh of a state that is light safe but for its cap. -/
theorem refreshed_guards {s u : State} (hl : LightSafe s → LightCore u) (hg : GrantsWithin s → GrantsWithin u) :
    Guards s (coolRefresh u) where
  light k := (hl k).refresh
  settled _ := coolRefresh_settled u
  grants k := by
    have hu := hg k
    unfold GrantsWithin allowance at *
    simpa using hu

theorem coolRefresh_guards (s : State) : Guards s (coolRefresh s) := refreshed_guards LightSafe.core id

/-- Writing cooling records whose zones keep their states, and refreshing. -/
theorem withCool_refresh_guards {x : Cooling} {s : State}
    (hz : ∀ z, (x.zones.get z).state = (s.cool.zones.get z).state) : Guards s (coolRefresh (s.withCool x)) :=
  refreshed_guards (fun k => k.core.of_agree ⟨rfl, rfl, rfl, rfl, id, rfl, hz⟩) id

/-- Writing what the three invariants do not look at in the phase record, or dropping a pending restrike. -/
theorem withPhase_guards {x : PhaseRec} {s : State} (hp : x.phase = s.phase.phase)
    (hl : x.lightPermit = s.phase.lightPermit) (hd : x.coolDone = s.phase.coolDone) (hf : x.faultN = s.phase.faultN)
    (hr : x.restrike = true → s.phase.restrike = true) (hv : x.rampLevel = s.phase.rampLevel) :
    Guards s (s.withPhase x) where
  light k := k.of_agree ⟨hp, hl, hd, hf, hr, rfl, fun _ => rfl⟩ rfl
  settled k := k.congr rfl hp hl hv rfl rfl
  grants k := by
    unfold GrantsWithin allowance at *
    simpa [hp] using k

/-! ### Withdrawals -/

theorem grantedCount_le_two (q : Scheduler) : q.grantedCount ≤ 2 :=
  Nat.add_le_add (Bool.toNat_le _) (Bool.toNat_le _)

theorem laterAxis_of_granted {q : Scheduler} (h : 0 < q.grantedCount) :
    ∃ a, q.laterAxis = some a ∧ (q.slot1.grantee = some a ∨ q.slot2.grantee = some a) := by
  unfold Scheduler.grantedCount at h
  unfold Scheduler.laterAxis
  cases h1 : q.slot1.grantee with
  | none =>
    cases h2 : q.slot2.grantee with
    | none => simp [h1, h2] at h
    | some b => cases q.later with
      | none => exact ⟨b, rfl, .inr rfl⟩
      | some i => cases i <;> exact ⟨b, rfl, .inr rfl⟩
  | some a =>
    cases h2 : q.slot2.grantee with
    | none => cases q.later with
      | none => exact ⟨a, rfl, .inl rfl⟩
      | some i => cases i <;> exact ⟨a, rfl, .inl rfl⟩
    | some b => cases q.later with
      | none => exact ⟨a, rfl, .inl rfl⟩
      | some i => cases i with
        | one => exact ⟨a, rfl, .inl rfl⟩
        | two => exact ⟨b, rfl, .inr rfl⟩

theorem runDown_of_grantee {a : Axis} {sl : Slot} (h : sl.grantee = some a) : (sl.runDown a).grantee = none := by
  unfold Slot.runDown
  rw [if_pos h]
  rfl

/-- Running down the slot of a GRANTED axis leaves one GRANTED slot fewer. -/
theorem runDownSlot_lt {q : Scheduler} {a : Axis} (h : q.slot1.grantee = some a ∨ q.slot2.grantee = some a) :
    (q.runDownSlot a).grantedCount < q.grantedCount := by
  have h1 := runDown_grantee a q.slot1
  have h2 := runDown_grantee a q.slot2
  simp only [Scheduler.grantedCount, Scheduler.runDownSlot]
  rcases h with h | h
  · have h0 := runDown_of_grantee h
    simp only [h0, h, Option.isSome_none, Option.isSome_some, Bool.toNat_false, Bool.toNat_true] at *
    omega
  · have h0 := runDown_of_grantee h
    simp only [h0, h, Option.isSome_none, Option.isSome_some, Bool.toNat_false, Bool.toNat_true] at *
    omega

theorem orderStop_count (a : Axis) (k : StopCause) (s : State) :
    (orderStop a k s).sched.grantedCount ≤ max (s.sched.runDownSlot a).grantedCount (allowance s) := by
  unfold orderStop
  dsimp only
  split
  · exact (finishStop_sched a _).granted
  · exact Nat.le_max_left _ _

theorem withdrawOne_count (s : State) :
    (withdrawOne s).sched.grantedCount ≤ max (s.sched.grantedCount - 1) (allowance s) := by
  unfold withdrawOne
  split
  · next hlt =>
    obtain ⟨a, ha, hslot⟩ := laterAxis_of_granted (Nat.lt_of_le_of_lt (Nat.zero_le _) hlt)
    rw [ha]
    have hcount := orderStop_count a .allowance s
    have hdown := runDownSlot_lt hslot
    dsimp only
    omega
  · omega

/-- After a change of the allowance the grants are within it (R35, R40): two withdrawals cover two slots. -/
theorem allowanceChanged_grants {old : Nat} {s : State} (h : s.sched.grantedCount ≤ old) :
    GrantsWithin (allowanceChanged old s) := by
  have hallow := (allowanceChanged_sched old s).step.frame.allowance
  unfold GrantsWithin
  rw [hallow]
  unfold allowanceChanged
  split
  · have hg := (grantPass_sched s).granted
    omega
  · have h1 := withdrawOne_count s
    have h2 := withdrawOne_count (withdrawOne s)
    rw [(withdrawOne_sched s).step.frame.allowance] at h2
    have htwo := grantedCount_le_two s.sched
    omega

/-! ### A change of phase -/

/-- The phase record of a change of phase, with the lines (R148, R162 to R164). -/
def phaseWritten (p : Phase) (why : Reason) (ramp : Option Nat) (s : State) : State :=
  followLines (s.withPhase { s.phase with phase := p, reason := why, rampLevel := ramp })

/-- The state of a change of phase before the tracker and the scheduler take it (R148). -/
def phaseRefreshed (p : Phase) (why : Reason) (ramp : Option Nat) (s : State) : State :=
  coolRefresh (raiseBoth .phase (phaseWritten p why ramp s))

/-- What the tracker and the scheduler do with a new phase is an operation of the motion side. -/
theorem setPhase_axis (p : Phase) (why : Reason) (ramp : Option Nat) (s : State) :
    AxisFrame (phaseRefreshed p why ramp s) (setPhase p why ramp s) := by
  refine AxisFrame.trans (t := handTracker p (phaseRefreshed p why ramp s)) ?_ (allowanceChanged_sched _ _).axis
  unfold handTracker
  split
  · exact (takeUpReference_delivery _).axis
  · exact .refl _

theorem handTracker_sched (p : Phase) (s : State) : (handTracker p s).sched = s.sched := by
  unfold handTracker
  split <;> rfl

section
variable (p : Phase) (why : Reason) (ramp : Option Nat) (s : State)

theorem phaseRefreshed_phase :
    (phaseRefreshed p why ramp s).phase = (phaseWritten p why ramp s).phase := by
  unfold phaseRefreshed
  rw [coolRefresh_phase, (raiseBoth_sameButPorts _ _).phase]

theorem phaseRefreshed_sched : (phaseRefreshed p why ramp s).sched = s.sched := by
  unfold phaseRefreshed
  rw [coolRefresh_sched, (raiseBoth_sameButPorts _ _).sched]
  rfl

theorem setPhase_settled : Settled (setPhase p why ramp s) :=
  (setPhase_axis p why ramp s).guards.settled (coolRefresh_settled _)

/-- A change of phase withdraws or gives grants, so that they are within the new allowance. -/
theorem setPhase_grants (h : GrantsWithin s) : GrantsWithin (setPhase p why ramp s) := by
  refine allowanceChanged_grants ?_
  rw [handTracker_sched]
  exact (phaseRefreshed_sched p why ramp s).symm ▸ h

theorem followLines_lines : LinesFollow (followLines s) := ⟨rfl, rfl, rfl⟩

variable {p s}

/-- A change of phase is light safe when a phase with light finds a cool engine, and a pending restrike COOLDOWN and a cool
engine. -/
theorem setPhase_light (hp : isLight p = true → Cool s)
    (hr : s.phase.restrike = true → p = .cooldown ∧ Cool s) : LightSafe (setPhase p why ramp s) := by
  have hcore : LightCore (phaseWritten p why ramp s) := ⟨followLines_lines _, hp, hr⟩
  have hports := (raiseBoth_sameButPorts .phase (phaseWritten p why ramp s)).calm.lightAgree
  exact (setPhase_axis p why ramp s).guards.light (hcore.of_agree hports).refresh

end

/-! ### Entries to the phases -/

theorem endPark_guards (s : State) : Guards s (endPark s) := by
  unfold endPark
  split
  · exact withPhase_guards rfl rfl rfl rfl id rfl
  · exact .refl s

theorem startPark_guards (s : State) : Guards s (startPark s) := by
  unfold startPark
  dsimp only
  refine Guards.trans ?_ (grantPass_sched _).guards
  refine Guards.trans ?_ (parkSettle_delivery _).axis.guards
  refine Guards.trans ?_ (withPhase_guards rfl rfl rfl rfl id rfl)
  refine Guards.trans ?_ (SchedFrame.foldl (placeParkOf_sched _) allAxes _).guards
  exact withPhase_guards rfl rfl rfl rfl id rfl

/-- COOLDOWN is light safe whatever it was entered from (R155). -/
theorem enterCooldown_light (why : Reason) (s : State) : LightSafe (enterCooldown why s) := by
  have h := setPhase_light (p := .cooldown) (s := s.withPhase { s.phase with coolTimer := 0, restrike := false }) why none
    nofun nofun
  unfold enterCooldown
  dsimp only
  split
  · exact (startPark_guards _).light h
  · exact h

theorem enterCooldown_settled (why : Reason) (s : State) : Settled (enterCooldown why s) := by
  unfold enterCooldown
  dsimp only
  split
  · exact (startPark_guards _).settled (setPhase_settled ..)
  · exact setPhase_settled ..

theorem enterCooldown_guards (why : Reason) (s : State) : Guards s (enterCooldown why s) where
  light _ := enterCooldown_light why s
  settled _ := enterCooldown_settled why s
  grants h := by
    have hset := setPhase_grants .cooldown why none (s.withPhase { s.phase with coolTimer := 0, restrike := false }) h
    unfold enterCooldown
    dsimp only
    split
    · exact (startPark_guards _).grants hset
    · exact hset

/-- FAULT is light safe whatever it was entered from (R159). -/
theorem enterFault_guards (why : Reason) (s : State) : Guards s (enterFault why s) := by
  have hpark : (endPark (s.withPhase { s.phase with restrike := false })).phase.restrike = false := by
    unfold endPark
    split <;> rfl
  have hdrop : Guards s (s.withPhase { s.phase with restrike := false }) :=
    withPhase_guards rfl rfl rfl rfl (fun k => nomatch k) rfl
  have hkeep := hdrop.trans (endPark_guards _)
  unfold enterFault
  split
  · exact .refl s
  · exact
      { light := fun _ => setPhase_light _ _ nofun fun k => by rw [hpark] at k; cases k
        settled := fun _ => setPhase_settled ..
        grants := fun h => setPhase_grants _ _ _ _ (hkeep.grants h) }

theorem enterDark_guards {s : State} (h : LightSafe s → s.phase.restrike = false) : Guards s (enterDark s) where
  light hs := setPhase_light _ _ nofun fun k => by rw [h hs] at k; cases k
  settled _ := setPhase_settled ..
  grants k := setPhase_grants _ _ _ _ k

theorem enterWarmup_guards {s : State} (h : LightSafe s → Cool s) : Guards s (enterWarmup s) where
  light hs := setPhase_light _ _ (fun _ => h hs) nofun
  settled _ := setPhase_settled ..
  grants k := setPhase_grants _ _ _ _ k

theorem endParkForWarmup_frame (s : State) : MotionFrame (endPark s) (endParkForWarmup s) := by
  have hfold := (SchedFrame.foldl withdrawPark_sched allAxes (endPark s)).step.frame
  unfold endParkForWarmup
  dsimp only
  split
  · exact hfold.trans (grantPass_sched _).step.frame
  · exact hfold

theorem endPark_cool (s : State) : (endPark s).cool = s.cool ∧ (endPark s).meas = s.meas := by
  unfold endPark
  split <;> exact ⟨rfl, rfl⟩

theorem endParkForWarmup_guards (s : State) : Guards s (endParkForWarmup s) := by
  have hfold : Guards s (allAxes.foldl withdrawPark (endPark s)) :=
    (endPark_guards s).trans (SchedFrame.foldl withdrawPark_sched allAxes _).guards
  unfold endParkForWarmup
  dsimp only
  split
  · exact hfold.trans (grantPass_sched _).guards
  · exact hfold

theorem Cool.endParkForWarmup {s : State} (h : Cool s) : Cool (endParkForWarmup s) := by
  have hframe := endParkForWarmup_frame s
  obtain ⟨hcool, hmeas⟩ := endPark_cool s
  refine h.of_agree ?_ fun z => ?_
  · rw [latched, latched, hframe.meas, hmeas]
    exact id
  · rw [hframe.cool, hcool]

theorem restrikeNow_guards {s : State} (h : LightSafe s → Cool s) : Guards s (restrikeNow s) where
  light hs := by
    have hcool : Cool (s.withPhase { s.phase with restrike := false }) := h hs
    have hdrop : Guards s (s.withPhase { s.phase with restrike := false }) :=
      withPhase_guards rfl rfl rfl rfl (fun k => nomatch k) rfl
    have hpark := hdrop.trans (endParkForWarmup_guards _)
    have hwarm := hpark.trans (enterWarmup_guards fun _ => hcool.endParkForWarmup)
    exact hwarm.light hs
  settled _ := by
    unfold restrikeNow enterWarmup
    exact setPhase_settled _ _ _ _
  grants hs := by
    have hdrop : Guards s (s.withPhase { s.phase with restrike := false }) :=
      withPhase_guards rfl rfl rfl rfl (fun k => nomatch k) rfl
    have hpark := (hdrop.trans (endParkForWarmup_guards _)).grants hs
    unfold restrikeNow enterWarmup
    exact setPhase_grants _ _ _ _ hpark

/-! ### Ticks of the phases -/

theorem coolTimers_guards (s : State) : Guards s (coolTimers s) := by
  unfold coolTimers
  dsimp only
  split
  · split
    · refine Guards.trans ?_ (endPark_guards _)
      exact withPhase_guards rfl rfl rfl rfl id rfl
    · exact withPhase_guards rfl rfl rfl rfl id rfl
  · exact withPhase_guards rfl rfl rfl rfl id rfl

theorem z0Below_mono {x y : Int} (h : x ≤ y) {s : State} (hz : z0Below x s = true) : z0Below y s = true := by
  unfold z0Below at *
  split at hz
  · simp only [decide_eq_true_eq] at hz ⊢
    omega
  · cases hz

theorem coolDownTick_cases (s : State) :
    ((coolTimers s).phase.restrike = true ∧ z0Below Config.restrikeTemp (coolTimers s) = true ∧
        coolDownTick s = restrikeNow (coolTimers s)) ∨
      (¬((coolTimers s).phase.restrike = true ∧ z0Below Config.restrikeTemp (coolTimers s) = true) ∧
        ((z0Below Config.releaseTemp (coolTimers s) = true ∧ (coolTimers s).phase.park ≠ .running ∧
            coolDownTick s = enterDark (coolTimers s)) ∨
          (Config.coolDownMax ≤ (coolTimers s).phase.coolTimer ∧
            coolDownTick s = enterFault .timeout (coolTimers s)) ∨
          coolDownTick s = coolTimers s)) := by
  unfold coolDownTick
  dsimp only
  generalize coolTimers s = u
  by_cases h1 : u.phase.restrike = true ∧ z0Below Config.restrikeTemp u = true
  · rw [if_pos (by rw [h1.1, h1.2]; rfl)]
    exact .inl ⟨h1.1, h1.2, rfl⟩
  · rw [if_neg (by rw [Bool.and_eq_true]; exact h1)]
    refine .inr ⟨h1, ?_⟩
    by_cases h2 : z0Below Config.releaseTemp u = true ∧ u.phase.park ≠ .running
    · rw [if_pos (by simpa using h2)]
      exact .inl ⟨h2.1, h2.2, rfl⟩
    · rw [if_neg (by simpa using h2)]
      by_cases h3 : Config.coolDownMax ≤ u.phase.coolTimer
      · rw [if_pos h3]
        exact .inr (.inl ⟨h3, rfl⟩)
      · rw [if_neg h3]
        exact .inr (.inr rfl)

/-- A pending restrike is served before the release temperature is looked at, and the release temperature is the lower, so
DARK is entered with none pending. -/
theorem coolDownTick_guards (s : State) : Guards s (coolDownTick s) := by
  refine (coolTimers_guards s).trans ?_
  rcases coolDownTick_cases s with ⟨hr, -, h⟩ | ⟨hno, ⟨hz, -, h⟩ | ⟨-, h⟩ | h⟩
  · rw [h]
    exact restrikeNow_guards fun k => (k.restrike hr).2
  · rw [h]
    refine enterDark_guards fun _ => ?_
    cases hr : (coolTimers s).phase.restrike with
    | false => rfl
    | true => exact absurd ⟨hr, z0Below_mono (by decide) hz⟩ hno
  · rw [h]
    exact enterFault_guards _ _
  · rw [h]
    exact .refl _

end Sys2Proof.Machine
end

section
/-! PROOFS. Every operation keeps light safety, settled targets and cap, and grants within the allowance. -/

namespace Sys2Proof.Machine

/-! ### Operations that touch none of what the three look at -/

theorem withStream_calm (x : Stream) (s : State) : Calm s (s.withStream x) := ⟨rfl, rfl, rfl, rfl, rfl, rfl⟩
theorem withPresence_calm (x : Presence) (s : State) : Calm s (s.withPresence x) := ⟨rfl, rfl, rfl, rfl, rfl, rfl⟩
theorem withDivider_calm (x : Byte) (s : State) : Calm s (s.withDivider x) := ⟨rfl, rfl, rfl, rfl, rfl, rfl⟩
theorem withMem_calm (x : Memories) (s : State) : Calm s (s.withMem x) := ⟨rfl, rfl, rfl, rfl, rfl, rfl⟩
theorem withTrack_calm (x : Tracker) (s : State) : Calm s (s.withTrack x) := ⟨rfl, rfl, rfl, rfl, rfl, rfl⟩

theorem withMeas_calm {x : Measure} {s : State} (h : latched (s.withMeas x) = latched s) : Calm s (s.withMeas x) :=
  ⟨rfl, rfl, h, rfl, rfl, rfl⟩

theorem setPort_calm (p : Port) (x : PortRec) (s : State) : Calm s (s.setPort p x) := by
  cases p <;> exact ⟨rfl, rfl, rfl, rfl, rfl, rfl⟩

theorem raiseBoth_calm (e : Event) (s : State) : Calm s (raiseBoth e s) := (raiseBoth_sameButPorts e s).calm

theorem exchange_calm (n : BankName) (told : LiveTo) (s : State) : Calm s (exchange n told s) := by
  cases told <;> exact ⟨rfl, rfl, rfl, rfl, rfl, rfl⟩

theorem exchangePending_calm (told : LiveTo) (s : State) : Calm s (exchangePending told s) := by
  unfold exchangePending
  split
  · exact exchange_calm ..
  all_goals exact .refl s

theorem writes_calm {f : State → State} {s : State} (h : ∃ x, f s = s.withStream x) : Calm s (f s) := by
  obtain ⟨x, hx⟩ := h
  rw [hx]
  exact withStream_calm x s

theorem changeMode_calm (m : StreamMode) (s : State) : Calm s (changeMode m s) := by
  unfold changeMode
  split
  · exact .refl s
  · split
    · exact (writes_calm (clearStream_writes .off s)).trans (exchangePending_calm _ _)
    · split
      · exact withStream_calm _ s
      · exact writes_calm (clearStream_writes m s)

theorem overrun_calm (c : Overrun) (s : State) : Calm s (overrun c s) := by
  unfold overrun raiseOn
  exact (withStream_calm _ s).trans (setPort_calm _ _ _)

theorem frameStrobe_calm (s : State) : Calm s (frameStrobe s) := by
  have hx := exchangePending_calm .both s
  unfold frameStrobe
  split
  · exact .refl s
  · dsimp only
    split
    · exact hx.trans (withStream_calm _ _)
    · exact hx.trans (writes_calm (beginFrame_writes _ _))

theorem strobeBand_calm (s : State) : Calm s (strobeBand s) := by
  unfold strobeBand
  split
  · split
    · split
      · exact overrun_calm _ s
      · exact withStream_calm _ s
    · exact writes_calm (serveBand_writes s)
  · exact .refl s

theorem bandStrobe_calm (s : State) : Calm s (bandStrobe s) := by
  unfold bandStrobe
  split
  · exact withStream_calm _ s
  · exact strobeBand_calm s

theorem strobeBands_calm (n : Nat) (s : State) : Calm s (strobeBands n s) := by
  induction n generalizing s with
  | zero => exact .refl s
  | succ n ih => exact (strobeBand_calm s).trans (ih _)

theorem endSend_calm (f : Finishing) (s : State) : Calm s (endSend f s) := by
  have h2 (x : Stream) (b : Bool) : Calm s (if b then overrun .frame (s.withStream x) else s.withStream x) := by
    split
    · exact (withStream_calm _ s).trans (overrun_calm _ _)
    · exact withStream_calm _ s
  unfold endSend
  dsimp only
  refine Calm.trans ?_ (strobeBands_calm _ _)
  split
  · exact (h2 _ _).trans (writes_calm (beginFrame_writes _ _))
  · exact h2 _ _

theorem wordSent_calm (s : State) : Calm s (wordSent s) := by
  cases hf : s.stream.finishing with
  | some f =>
    unfold wordSent
    rw [hf]
    exact endSend_calm f s
  | none => exact writes_calm (wordSent_writes hf)

theorem completeCompute_calm (n : BankName) (i : Inputs) (s : State) : Calm s (completeCompute n i s) := by
  unfold completeCompute
  dsimp only
  split
  · exact ⟨rfl, rfl, rfl, rfl, rfl, rfl⟩
  · have hkept : Calm s
        ((s.withBanks (s.banks.set n (filledBank i (s.banks.get n)))).withGeom (keptGeometry i s.geom)) :=
      ⟨rfl, rfl, rfl, rfl, rfl, rfl⟩
    split
    · exact hkept
    · exact hkept.trans (exchange_calm ..)

theorem computeDone_calm (s : State) : Calm s (computeDone s) := by
  unfold computeDone
  split
  · exact completeCompute_calm ..
  all_goals exact .refl s

/-- A delivery changes neither the phase nor anything the three invariants look at, but for the park outcome. -/
theorem DeliveryFrame.guards {s t : State} (h : DeliveryFrame s t) : Guards s t := h.axis.guards

theorem changePanel_guards (w h g : Nat) (s : State) : Guards s (changePanel w h g s) := by
  have hwrite : Calm s ((s.withBanks (invalidateBanks s.banks)).withGeom
      { s.geom with inputs := { s.geom.inputs with w := w, h := h, g := g } }) := ⟨rfl, rfl, rfl, rfl, rfl, rfl⟩
  exact hwrite.guards.trans (recompute_delivery _).guards

theorem picturePortReset_calm (cause : PicResetCause) (s : State) : Calm s (picturePortReset cause s) := by
  have hport : Calm s (s.withPicPort s.picPort.cleared) := setPort_calm .picture _ s
  unfold picturePortReset
  dsimp only
  exact ((hport.trans (withPresence_calm _ _)).trans (writes_calm (resetStreamContext_writes _))).trans
    (exchangePending_calm _ _)

theorem writeDone_calm (s : State) : Calm s (writeDone s) := by
  unfold writeDone
  split
  · exact (withMem_calm _ s).trans (setPort_calm _ _ _)
  · exact .refl s

theorem writeTable_calm (b : Bool) (l : List Int) (s : State) : Calm s (writeTable b l s) := by
  cases b <;> exact ⟨rfl, rfl, rfl, rfl, rfl, rfl⟩

theorem writeTracking_calm (p : TrackParams) (s : State) : Calm s (writeTracking p s) := by
  unfold writeTracking
  dsimp only
  split <;> exact withTrack_calm _ s

theorem setComp_calm (c : Comp) {x : Comparator} {s : State} (h : x.latch = (s.meas.comp c).latch) :
    Calm s (s.withMeas (s.meas.setComp c x)) := by
  refine withMeas_calm ?_
  cases c <;> simp_all [latched, Measure.setComp, Measure.comp]

/-! ### Cooling -/

/-- Light safety and grants alone, for what a refresh follows. -/
structure LightGuards (s t : State) : Prop where
  light : LightSafe s → LightSafe t
  grants : GrantsWithin s → GrantsWithin t

theorem Guards.light_guards {s t : State} (h : Guards s t) : LightGuards s t := ⟨h.light, h.grants⟩

theorem LightGuards.trans {s t u : State} (h : LightGuards s t) (k : LightGuards t u) : LightGuards s u :=
  ⟨k.light ∘ h.light, k.grants ∘ h.grants⟩

theorem LightGuards.refresh {s t : State} (h : LightGuards s t) : Guards s (coolRefresh t) :=
  refreshed_guards (fun k => (h.light k).core) h.grants

theorem writeInputs_light_guards (x : Inputs) (s : State) : LightGuards s (writeInputs x s) := by
  unfold writeInputs
  split
  · exact ⟨id, id⟩
  · have hwrite : LightGuards s (s.withGeom { s.geom with inputs := x }) :=
      ⟨fun k => k.of_agree ⟨rfl, rfl, rfl, rfl, id, rfl, fun _ => rfl⟩ rfl, id⟩
    exact hwrite.trans (recompute_delivery _).guards.light_guards

theorem changeOrientation_guards (o : Orientation) (s : State) : Guards s (changeOrientation o s) := by
  unfold changeOrientation
  split
  · exact .refl s
  · exact (((writeInputs_light_guards _ s).trans (uncurrent_delivery .sh _).guards.light_guards).trans
      (uncurrent_delivery .sv _).guards.light_guards).refresh

theorem writeZone_guards (z : Zone) (m : PerChan Bool) (p : ZoneParams) (s : State) : Guards s (writeZone z m p s) :=
  withCool_refresh_guards fun i => by
    simp only [PerZone.get_set]
    split
    · next h => subst h; rfl
    · rfl

theorem writeCurve_guards (o : Orientation) (z : Zone) (l : List CurvePoint) (s : State) :
    Guards s (writeCurve o z l s) := by
  cases o <;> exact withCool_refresh_guards fun _ => rfl

theorem quietRequest_guards (on : Bool) (cap level : Nat) (s : State) : Guards s (quietRequest on cap level s).1 := by
  unfold quietRequest
  split
  · exact withCool_refresh_guards fun _ => rfl
  · exact .refl s

theorem coolReading_guards (ch : Chan) (r : Reading) (s : State) : Guards s (coolReading ch r s) :=
  withCool_refresh_guards fun z => by cases z <;> simp only [PerZone.map, PerZone.get] <;> split <;> rfl

/-- Writing fan records that keep what the rules look at, the targets, and the duty of a fan standing forced at 100. -/
theorem withFans_guards {x : PerFan FanRec} {s : State}
    (hpresent : ∀ f, (x.get f).present = (s.cool.fans.get f).present)
    (hserved : ∀ f, (x.get f).served = (s.cool.fans.get f).served)
    (hmin : ∀ f, (x.get f).minDuty = (s.cool.fans.get f).minDuty)
    (hfailed : ∀ f, (x.get f).isFailed = (s.cool.fans.get f).isFailed)
    (htarget : ∀ f, (x.get f).target = (s.cool.fans.get f).target)
    (hduty : ∀ f, (s.cool.fans.get f).commanded = 100 → (s.cool.fans.get f).target = 100 → (x.get f).commanded = 100) :
    Guards s (s.withCool { s.cool with fans := x }) where
  light k := k.of_agree ⟨rfl, rfl, rfl, rfl, id, rfl, fun _ => rfl⟩ rfl
  settled k := by
    refine k.of_agree ?_ htarget (fun f _ => hduty f) rfl
    constructor
    case present => exact hpresent
    case served => exact hserved
    case minDuty => exact hmin
    case failed => exact hfailed
    all_goals first | rfl | exact fun _ => rfl
  grants := id

/-- Writing zone records that keep state, temperature and derate. -/
theorem withZones_guards {x : PerZone ZoneRec} {s : State}
    (hstate : ∀ z, (x.get z).state = (s.cool.zones.get z).state)
    (htemp : ∀ z, (x.get z).temperature = (s.cool.zones.get z).temperature)
    (hderate : ∀ z, (x.get z).derate = (s.cool.zones.get z).derate) :
    Guards s (s.withCool { s.cool with zones := x }) where
  light k := k.of_agree ⟨rfl, rfl, rfl, rfl, id, rfl, hstate⟩ rfl
  settled k := by
    refine k.of_agree ?_ (fun _ => rfl) (fun _ _ h _ => h) rfl
    constructor
    case zoneState => exact hstate
    case zoneTemp => exact htemp
    case zoneDerate => exact hderate
    all_goals first | rfl | exact fun _ => rfl
  grants := id

theorem PerFan.get_map {α β : Type} (q : PerFan α) (g : α → β) (f : Fan) : (q.map g).get f = g (q.get f) := by
  cases f <;> rfl

theorem PerZone.get_map {α β : Type} (q : PerZone α) (g : α → β) (z : Zone) : (q.map g).get z = g (q.get z) := by
  cases z <;> rfl

/-- A fan at its target is not slewed (R136). -/
theorem FanRec.slew_commanded (f : FanRec) (h : f.commanded = f.target) : f.slew = f := by
  unfold FanRec.slew
  simp [h]

theorem FanRec.slew_keeps (f : FanRec) :
    f.slew.present = f.present ∧ f.slew.served = f.served ∧ f.slew.minDuty = f.minDuty ∧ f.slew.state = f.state ∧
      f.slew.target = f.target := by
  unfold FanRec.slew
  split
  · split
    · exact ⟨rfl, rfl, rfl, rfl, rfl⟩
    · split
      · split <;> exact ⟨rfl, rfl, rfl, rfl, rfl⟩
      · exact ⟨rfl, rfl, rfl, rfl, rfl⟩
  · exact ⟨rfl, rfl, rfl, rfl, rfl⟩

theorem slewFans_guards (s : State) : Guards s (slewFans s) := by
  have hk f := FanRec.slew_keeps (s.cool.fans.get f)
  refine withFans_guards ?_ ?_ ?_ ?_ ?_ ?_ <;> intro f <;> rw [PerFan.get_map]
  · exact (hk f).1
  · exact (hk f).2.1
  · exact (hk f).2.2.1
  · simp [FanRec.isFailed, hk f]
  · exact (hk f).2.2.2.2
  · intro hc ht
    rw [FanRec.slew_commanded _ (hc.trans ht.symm)]
    exact hc

theorem FanRec.takeRpm_keeps (f : FanRec) (n : Nat) : ∃ r, f.takeRpm n = { f with reading := r } := by
  unfold FanRec.takeRpm
  split
  · exact ⟨n, rfl⟩
  · exact ⟨f.reading, rfl⟩

theorem tachTick_guards (s : State) : Guards s (tachTick s) := by
  unfold tachTick
  dsimp only
  have hmeas : Calm s (s.withMeas { s.meas with tach := s.meas.tach.map Tach.shift }) := ⟨rfl, rfl, rfl, rfl, rfl, rfl⟩
  refine hmeas.guards.trans (withFans_guards ?_ ?_ ?_ ?_ ?_ ?_) <;> intro f
  all_goals
    obtain ⟨r, hr⟩ := FanRec.takeRpm_keeps (s.cool.fans.get f) ((s.meas.tach.map Tach.shift).get f).rpm
    cases f <;> simp only [PerFan.get, State.withMeas_cool] at hr ⊢ <;> rw [hr]
  all_goals first | rfl | exact fun h _ => h

/-! ### Measurement -/

theorem setDieAllow_guards (n : Nat) (s : State) : Guards s (setDieAllow n s) where
  light k := by
    have h : LightSafe (s.withSched { s.sched with dieAllow := n }) :=
      k.of_agree ⟨rfl, rfl, rfl, rfl, id, rfl, fun _ => rfl⟩ rfl
    exact (allowanceChanged_sched _ _).guards.light h
  settled k := by
    have h : Settled (s.withSched { s.sched with dieAllow := n }) := k.congr rfl rfl rfl rfl rfl rfl
    exact (allowanceChanged_sched _ _).guards.settled h
  grants k := allowanceChanged_grants k

theorem deliverReading_guards (ch : Chan) (r : Reading) (s : State) : Guards s (deliverReading ch r s) := by
  have h := coolReading_guards ch r s
  unfold deliverReading
  dsimp only
  split
  · exact h.trans (setDieAllow_guards _ _)
  · exact h.trans (withTrack_calm _ _).guards
  all_goals exact h

theorem takeConverted_guards (ch : Chan) (x : Converted) (s : State) : Guards s (takeConverted ch x s) := by
  have h : Calm s (s.withMeas { s.meas with chans := s.meas.chans.set ch x.chan }) := ⟨rfl, rfl, rfl, rfl, rfl, rfl⟩
  unfold takeConverted
  dsimp only
  split
  · exact h.guards.trans (deliverReading_guards ..)
  · exact h.guards

/-- START has no restrike pending, so DARK is entered with none. -/
theorem scanComplete_guards (s : State) : Guards s (scanComplete s) := by
  unfold scanComplete
  split
  · next hp =>
    have hno (hs : LightSafe s) : s.phase.restrike = false := by
      cases hr : s.phase.restrike with
      | false => rfl
      | true =>
        have hcd := (hs.restrike hr).1
        rw [hp] at hcd
        cases hcd
    split
    · exact enterCooldown_guards _ s
    · split
      · split
        · exact enterCooldown_guards _ s
        · exact enterDark_guards hno
      · exact enterDark_guards hno
  · exact .refl s

theorem passEnd_guards (s : State) : Guards s (passEnd s) := by
  have h : Calm s (s.withMeas { s.meas with scanGiven := true }) := ⟨rfl, rfl, rfl, rfl, rfl, rfl⟩
  unfold passEnd
  split
  · exact h.guards.trans (scanComplete_guards _)
  · exact .refl s

theorem conversionComplete_guards (code : Nat) (s : State) : Guards s (conversionComplete code s) := by
  have hscan : Calm s (s.withMeas { s.meas with scan := nextChan s.meas.scan }) := ⟨rfl, rfl, rfl, rfl, rfl, rfl⟩
  unfold conversionComplete
  dsimp only
  have h (y : Converted) := hscan.guards.trans (takeConverted_guards s.meas.scan y _)
  split
  · exact (h _).trans (passEnd_guards _)
  · exact h _

theorem ageChannel_guards (s : State) (ch : Chan) : Guards s (ageChannel s ch) := takeConverted_guards ..

theorem sensorSubstitution_guards (ch : Chan) (s : State) : Guards s (sensorSubstitution ch s) := by
  unfold sensorSubstitution
  split
  · exact ageChannel_guards s ch
  · exact .refl s

theorem clearLatch_latched (m : Measure) (c : Comp) (h : (m.laser.latch || m.wheel.latch) = false) :
    ((clearLatch m c).laser.latch || (clearLatch m c).wheel.latch) = false := by
  cases c <;> simp_all [clearLatch, Measure.setComp, Measure.comp]

theorem clearLatches_latched (l : List Comp) (m : Measure) (h : (m.laser.latch || m.wheel.latch) = false) :
    ((l.foldl clearLatch m).laser.latch || (l.foldl clearLatch m).wheel.latch) = false := by
  induction l generalizing m with
  | nil => exact h
  | cons c l ih => exact ih _ (clearLatch_latched m c h)

/-- The lines follow fewer latches, or more: the permit stays as the phase gives it. -/
theorem followLines_core {u : State} (hp : isLight u.phase.phase = true → Cool u)
    (hr : u.phase.restrike = true → u.phase.phase = .cooldown ∧ Cool u) : LightCore (followLines u) :=
  ⟨followLines_lines u, hp, hr⟩

theorem clearTripRequest_guards (l : List Comp) (s : State) : Guards s (clearTripRequest l s).1 := by
  unfold clearTripRequest
  split
  · exact .refl s
  · split
    · have hcool (h : Cool s) : Cool (s.withMeas (l.foldl clearLatch s.meas)) :=
        h.of_agree (clearLatches_latched l s.meas) fun _ => rfl
      exact refreshed_guards
        (fun k => followLines_core (fun hp => hcool (k.permit (k.lines.permit.trans hp)))
          fun hr => ⟨(k.restrike hr).1, hcool (k.restrike hr).2⟩) id
    · exact .refl s

/-! ### What is handed to the phase controller -/

/-- Lines that follow, and a restrike pending in COOLDOWN alone: what light safety leaves when a zone or a latch has made
the engine hot. -/
structure LightShape (s : State) : Prop where
  lines : LinesFollow s
  restrike : s.phase.restrike = true → s.phase.phase = .cooldown

theorem LightCore.shape {s : State} (h : LightCore s) : LightShape s := ⟨h.lines, fun k => (h.restrike k).1⟩

/-- Outside the phases with light and COOLDOWN the shape is enough. -/
theorem LightShape.core {s : State} (h : LightShape s) (hl : isLight s.phase.phase = false)
    (hc : s.phase.phase ≠ .cooldown) : LightCore s :=
  ⟨h.lines, (fun k => by rw [h.lines.permit, hl] at k; cases k), fun k => absurd (h.restrike k) hc⟩

/-- COOLDOWN with the restrike dropped is light safe but for the cap. -/
theorem LightShape.dropped {s : State} (h : LightShape s) (hp : s.phase.phase = .cooldown) (x : Reason) :
    LightCore (s.withPhase { s.phase with reason := x, restrike := false }) :=
  { lines := ⟨h.lines.permit, h.lines.done, h.lines.fault⟩
    permit := fun k => by
      rw [State.withPhase_phase, h.lines.permit, hp] at k
      cases k
    restrike := fun k => nomatch k }

/-- A CRITICAL zone handed to the phase controller puts the light out (R153). -/
theorem criticalHanded_core {s : State} (h : LightShape s) : LightCore (criticalHanded s) := by
  unfold criticalHanded
  split
  · exact (enterCooldown_light _ s).core
  · exact (enterCooldown_light _ s).core
  · next hp => exact h.dropped hp _
  · next hp => exact h.core (by rw [hp]; rfl) (by rw [hp]; nofun)
  · next hp => exact h.core (by rw [hp]; rfl) (by rw [hp]; nofun)
  · next hp => exact h.core (by rw [hp]; rfl) (by rw [hp]; nofun)

theorem criticalHanded_grants {s : State} (h : GrantsWithin s) : GrantsWithin (criticalHanded s) := by
  unfold criticalHanded
  split
  · exact (enterCooldown_guards _ s).grants h
  · exact (enterCooldown_guards _ s).grants h
  all_goals exact h

theorem enterFault_core {why : Reason} {s : State} (h : LightCore s) : LightCore (enterFault why s) := by
  unfold enterFault
  split
  · exact h
  · have hpark : (endPark (s.withPhase { s.phase with restrike := false })).phase.restrike = false := by
      unfold endPark
      split <;> rfl
    exact (setPhase_light (p := .fault) _ _ nofun fun k => by rw [hpark] at k; cases k).core

theorem tripInPhase_core {s : State} (h : s.phase.restrike = true → s.phase.phase = .cooldown) :
    LightCore (tripInPhase s) := by
  have hshape : LightShape (followLines s) := ⟨followLines_lines s, h⟩
  unfold tripInPhase
  dsimp only
  split
  · next hp => exact hshape.core (by rw [followLines, State.withPhase_phase, hp]; rfl) (by simp [followLines, hp])
  · exact (enterCooldown_light _ _).core
  · exact (enterCooldown_light _ _).core
  · exact (enterCooldown_light _ _).core
  · next hp => exact hshape.dropped hp _
  · next hp => exact hshape.core (by rw [followLines, State.withPhase_phase, hp]; rfl) (by simp [followLines, hp])

theorem tripInPhase_grants {s : State} (h : GrantsWithin s) : GrantsWithin (tripInPhase s) := by
  have hlines : GrantsWithin (followLines s) := h
  unfold tripInPhase
  dsimp only
  split
  · exact hlines
  · exact (enterCooldown_guards _ _).grants hlines
  · exact (enterCooldown_guards _ _).grants hlines
  · exact (enterCooldown_guards _ _).grants hlines
  · exact hlines
  · exact hlines

theorem tripLatchSet_guards (c : Comp) (s : State) : Guards s (tripLatchSet c s) := by
  unfold tripLatchSet
  dsimp only
  split
  · exact refreshed_guards (fun k => tripInPhase_core fun hr => (k.restrike hr).1) fun k => tripInPhase_grants k
  · exact .refl s

theorem failedHanded_guards (n : Nat) (s : State) : Guards s (failedHanded n s) := by
  have h : Guards s (s.withPhase { s.phase with failedFans := n }) := withPhase_guards rfl rfl rfl rfl id rfl
  unfold failedHanded
  dsimp only
  split
  · exact h.trans (enterFault_guards _ _)
  · exact h

theorem failedSetEffects_guards (old : PerFan FanRec) (s : State) : Guards s (failedSetEffects old s) := by
  unfold failedSetEffects
  split
  · exact (failedHanded_guards _ s).trans (coolRefresh_guards _)
  · exact .refl s

theorem failedSetEffects_settled {old : PerFan FanRec} {s : State} (h : failedSetChanged old s.cool.fans = true) :
    Settled (failedSetEffects old s) := by
  unfold failedSetEffects
  rw [if_pos h]
  exact coolRefresh_settled _

theorem writeFan_guards (f : Fan) (b : Bool) (z : PerZone Bool) (p : FanParams) (s : State) :
    Guards s (writeFan f b z p s) := by
  have h (x : PerFan FanRec) : LightGuards s (s.withCool { s.cool with fans := x }) :=
    ⟨fun k => k.of_agree ⟨rfl, rfl, rfl, rfl, id, rfl, fun _ => rfl⟩ rfl, id⟩
  exact ((h _).trans (failedSetEffects_guards _ _).light_guards).refresh

/-! ### Light requests -/

theorem lightOnRequest_guards (s : State) : Guards s (lightOnRequest s).1 := by
  have hcool (h : (latched s || anyCritical s) = false) : Cool s := by
    simp only [Bool.or_eq_false_iff, anyCritical, List.any_eq_false, decide_eq_true_eq] at h
    exact ⟨h.1, fun z => h.2 z (by cases z <;> decide)⟩
  rcases lightOnRequest_cases s with h | ⟨hc, ⟨-, h⟩ | ⟨hp, h | h⟩⟩ <;> rw [h]
  · exact .refl s
  · exact enterWarmup_guards fun _ => hcool hc
  · exact restrikeNow_guards fun _ => hcool hc
  · exact
      { light := fun k => ⟨⟨k.lines.permit, k.lines.done, k.lines.fault⟩, k.cap, k.permit, fun _ => ⟨hp, hcool hc⟩⟩
        settled := fun k => k.congr rfl rfl rfl rfl rfl rfl
        grants := id }

theorem dropRestrike_guards (s : State) : Guards s (s.withPhase { s.phase with restrike := false }) :=
  withPhase_guards rfl rfl rfl rfl (fun k => nomatch k) rfl

theorem lightOffEffect_guards (s : State) : Guards s (lightOffEffect s) := by
  unfold lightOffEffect
  split
  · exact enterCooldown_guards _ s
  · exact enterCooldown_guards _ s
  · exact dropRestrike_guards s
  all_goals exact .refl s

theorem clearFaultRequest_guards (s : State) : Guards s (clearFaultRequest s).1 := by
  unfold clearFaultRequest
  split
  · split
    · exact .refl s
    · exact enterCooldown_guards _ s
  · exact .refl s

/-! ### Ticks -/

/-- WARMUP has the permit, so its engine is cool when LIT is entered (R152). -/
theorem warmupTick_guards {s : State} (h : s.phase.phase = .warmup) : Guards s (warmupTick s) := by
  unfold warmupTick
  split
  · have hcool (k : LightSafe s) : Cool s := k.permit (by rw [k.lines.permit, h]; rfl)
    have hcore (x : Nat) (y : Option Nat) (k : LightSafe s) :
        LightCore (s.withPhase { s.phase with rampCount := x, rampLevel := y }) :=
      k.core.of_agree ⟨rfl, rfl, rfl, rfl, id, rfl, fun _ => rfl⟩
    unfold rampRiseStep
    dsimp only
    split
    · exact
        { light := fun k =>
            setPhase_light _ _ (fun _ => hcool k) fun hr => by
              have hcd := ((hcore _ _ k).restrike hr).1
              rw [State.withPhase_phase, h] at hcd
              cases hcd
          settled := fun _ => setPhase_settled ..
          grants := fun k => setPhase_grants _ _ _ _ k }
    · exact refreshed_guards (hcore _ _) id
  · exact withPhase_guards rfl rfl rfl rfl id rfl

theorem phaseTick_guards (s : State) : Guards s (phaseTick s) := by
  unfold phaseTick
  split
  · next h => exact warmupTick_guards h
  · exact coolDownTick_guards s
  all_goals exact .refl s

theorem handCritical_grants {old new : PerZone ZoneRec} {s : State} {z : Zone} (h : GrantsWithin s) :
    GrantsWithin (handCritical old new s z) := by
  unfold handCritical
  split
  · exact criticalHanded_grants h
  · exact h

theorem handCritical_core {old new : PerZone ZoneRec} {s : State} {z : Zone} (h : LightCore s) :
    LightCore (handCritical old new s z) := by
  unfold handCritical
  split
  · exact criticalHanded_core h.shape
  · exact h

theorem foldl_handCritical_core {old new : PerZone ZoneRec} (l : List Zone) {s : State} (h : LightCore s) :
    LightCore (l.foldl (handCritical old new) s) := by
  induction l generalizing s with
  | nil => exact h
  | cons z l ih => exact ih (handCritical_core h)

/-- Once one zone that has entered CRITICAL is handed, the light is out. -/
theorem foldl_handCritical_entered {old new : PerZone ZoneRec} {l : List Zone} {s : State} (h : LightShape s)
    (he : ∃ z ∈ l, enteredCritical (old.get z) (new.get z) = true) :
    LightCore (l.foldl (handCritical old new) s) := by
  induction l generalizing s with
  | nil => obtain ⟨z, hz, -⟩ := he; cases hz
  | cons x l ih =>
    rw [List.foldl_cons]
    by_cases hx : enteredCritical (old.get x) (new.get x) = true
    · refine foldl_handCritical_core l ?_
      unfold handCritical
      rw [if_pos hx]
      exact criticalHanded_core h
    · have hsame : handCritical old new s x = s := by
        unfold handCritical
        rw [if_neg hx]
      rw [hsame]
      obtain ⟨z, hz, hez⟩ := he
      rcases List.mem_cons.mp hz with rfl | hz
      · exact absurd hez hx
      · exact ih h ⟨z, hz, hez⟩

theorem mem_allZones (z : Zone) : z ∈ allZones := by cases z <;> decide

/-- Zones evaluated and handed: with no zone entering CRITICAL the engine is as cool as before, and otherwise the light
is out. -/
theorem handed_core {s u : State} (hs : LightSafe s) (hphase : u.phase = s.phase) (hm : latched u = latched s) :
    LightCore (allZones.foldl (handCritical s.cool.zones u.cool.zones) u) := by
  have hlines : LinesFollow u := by
    obtain ⟨h1, h2, h3⟩ := hs.lines
    exact ⟨hphase ▸ h1, hphase ▸ h2, by rw [hphase, hm]; exact h3⟩
  by_cases he : ∃ z ∈ allZones, enteredCritical (s.cool.zones.get z) (u.cool.zones.get z) = true
  · exact foldl_handCritical_entered ⟨hlines, fun k => hphase ▸ (hs.restrike (hphase ▸ k)).1⟩ he
  · have hcool (h : Cool s) : Cool u := by
      refine ⟨hm.trans h.1, fun z hz => he ⟨z, mem_allZones z, ?_⟩⟩
      simp [enteredCritical, h.2 z, hz]
    exact foldl_handCritical_core _
      ⟨hlines, fun k => hcool (hs.permit (hphase ▸ k)),
        fun k => ⟨hphase ▸ (hs.restrike (hphase ▸ k)).1, hcool (hs.restrike (hphase ▸ k)).2⟩⟩

theorem handPersisted_core {old new : PerZone ZoneRec} {s : State} {z : Zone} (h : LightCore s) :
    LightCore (handPersisted old new s z) := by
  unfold handPersisted
  split
  · exact enterFault_core h
  · exact h

theorem handPersisted_grants {old new : PerZone ZoneRec} {s : State} {z : Zone} (h : GrantsWithin s) :
    GrantsWithin (handPersisted old new s z) := by
  unfold handPersisted
  split
  · exact (enterFault_guards _ s).grants h
  · exact h

theorem foldl_keeps_property {α : Type} {P : State → Prop} {f : State → α → State} (hf : ∀ s x, P s → P (f s x))
    (l : List α) {s : State} (h : P s) : P (l.foldl f s) := by
  induction l generalizing s with
  | nil => exact h
  | cons x l ih => exact ih (hf s x h)

/-- The zones evaluated, before any is handed on. -/
def zonesWritten (s : State) : State :=
  let new := s.cool.zones.map ZoneRec.evaluated
  if allZones.any fun z => decide ((s.cool.zones.get z).state ≠ (new.get z).state) then
    raiseBoth .thermalChange (s.withCool { s.cool with zones := new })
  else s.withCool { s.cool with zones := new }

theorem zonesWritten_fields (s : State) :
    (zonesWritten s).phase = s.phase ∧ latched (zonesWritten s) = latched s ∧ (zonesWritten s).sched = s.sched ∧
      (zonesWritten s).cool = { s.cool with zones := s.cool.zones.map ZoneRec.evaluated } := by
  unfold zonesWritten
  dsimp only
  split
  · have h := raiseBoth_sameButPorts .thermalChange (s.withCool { s.cool with zones := s.cool.zones.map ZoneRec.evaluated })
    exact ⟨h.phase, by rw [latched, latched, h.meas]; rfl, h.sched, h.cool⟩
  · exact ⟨rfl, rfl, rfl, rfl⟩

theorem evaluateZones_eq (s : State) :
    evaluateZones s =
      coolRefresh
        (allZones.foldl (handPersisted s.cool.zones (s.cool.zones.map ZoneRec.evaluated))
          (allZones.foldl (handCritical s.cool.zones (s.cool.zones.map ZoneRec.evaluated)) (zonesWritten s))) := rfl

theorem evaluateZones_guards (s : State) : Guards s (evaluateZones s) := by
  obtain ⟨hphase, hm, hsched, hcool⟩ := zonesWritten_fields s
  rw [evaluateZones_eq]
  refine refreshed_guards (fun hs => ?_) fun hs => ?_
  · refine foldl_keeps_property (fun _ _ h => handPersisted_core h) allZones ?_
    have h := handed_core hs hphase hm
    rw [hcool] at h
    exact h
  · refine foldl_keeps_property (fun _ _ h => handPersisted_grants h) allZones ?_
    refine foldl_keeps_property (fun _ _ h => handCritical_grants h) allZones ?_
    unfold GrantsWithin allowance at *
    rw [hphase, hsched]
    exact hs

/-- A zone whose CRITICAL age reaches 60 was CRITICAL and stays so. -/
theorem persisted_state {z : ZoneRec} (h : persisted z z.evaluated = true) :
    z.evaluated.state = z.state ∧ z.evaluated.temperature = z.temperature ∧ z.evaluated.derate = z.derate := by
  simp only [persisted, Bool.and_eq_true, decide_eq_true_eq] at h
  obtain ⟨hlt, heq⟩ := h
  have hmax : Config.criticalAgeMax = 60 := rfl
  unfold ZoneRec.evaluated at heq ⊢
  split
  · next t ht =>
    simp only [ht, ZoneRec.nextAge] at heq
    refine ⟨?_, by simp [ht], rfl⟩
    by_cases hn : z.nextState t = .critical
    · rw [if_pos hn] at heq
      by_cases hc : z.state = .critical
      · exact hn.trans hc.symm
      · rw [if_neg hc] at heq
        omega
    · rw [if_neg hn] at heq
      split at heq <;> omega
  · exact ⟨rfl, rfl, rfl⟩

theorem criticalPersisted_guards (z : Zone) (s : State) : Guards s (criticalPersisted z s) := by
  unfold criticalPersisted
  dsimp only
  split
  · next h =>
    obtain ⟨hstate, htemp, hderate⟩ := persisted_state h
    refine (withZones_guards ?_ ?_ ?_).trans (enterFault_guards _ _) <;> intro i <;> rw [PerZone.get_set] <;> split
    · next hi => subst hi; exact hstate
    · rfl
    · next hi => subst hi; exact htemp
    · rfl
    · next hi => subst hi; exact hderate
    · rfl
  · exact .refl s

theorem FanRec.judged_keeps (f : FanRec) (k : SpeedClass) :
    (f.judged k).present = f.present ∧ (f.judged k).served = f.served ∧ (f.judged k).minDuty = f.minDuty ∧
      (f.judged k).target = f.target ∧ (f.judged k).commanded = f.commanded := by
  have hrec : f.recovering.present = f.present ∧ f.recovering.served = f.served ∧ f.recovering.minDuty = f.minDuty ∧
      f.recovering.target = f.target ∧ f.recovering.commanded = f.commanded := by
    unfold FanRec.recovering
    split <;> exact ⟨rfl, rfl, rfl, rfl, rfl⟩
  unfold FanRec.judged
  split <;> split <;> first | exact hrec | exact ⟨rfl, rfl, rfl, rfl, rfl⟩

/-- Supervision keeps what a fan serves, its target and its duty. -/
theorem FanRec.supervised_keeps (f : FanRec) :
    f.supervised.present = f.present ∧ f.supervised.served = f.served ∧ f.supervised.minDuty = f.minDuty ∧
      f.supervised.target = f.target ∧ f.supervised.commanded = f.commanded := by
  unfold FanRec.supervised
  split
  · split
    · exact ⟨rfl, rfl, rfl, rfl, rfl⟩
    · split
      · exact f.judged_keeps _
      · exact ⟨rfl, rfl, rfl, rfl, rfl⟩
  · exact ⟨rfl, rfl, rfl, rfl, rfl⟩

/-- The fans judged, with FAN_FAULT when one becomes FAILED, before the failures act. -/
def fansJudged (s : State) : State :=
  let new := s.cool.fans.map FanRec.supervised
  if allFans.any fun f => becameFailed (s.cool.fans.get f) (new.get f) then
    raiseBoth .fanFault (s.withCool { s.cool with fans := new })
  else s.withCool { s.cool with fans := new }

theorem superviseFans_eq (s : State) : superviseFans s = failedSetEffects s.cool.fans (fansJudged s) := rfl

theorem fansJudged_calm (s : State) :
    Calm (s.withCool { s.cool with fans := s.cool.fans.map FanRec.supervised }) (fansJudged s) := by
  unfold fansJudged
  dsimp only
  split
  · exact raiseBoth_calm _ _
  · exact .refl _

/-- Failures that change the set of FAILED fans bring a refresh, and the others leave the rules as they were. -/
theorem superviseFans_guards (s : State) : Guards s (superviseFans s) := by
  have hcalm := fansJudged_calm s
  have heffects := failedSetEffects_guards s.cool.fans (fansJudged s)
  have hwrite : LightGuards s (s.withCool { s.cool with fans := s.cool.fans.map FanRec.supervised }) :=
    ⟨fun k => k.of_agree ⟨rfl, rfl, rfl, rfl, id, rfl, fun _ => rfl⟩ rfl, id⟩
  have hlight := (hwrite.trans hcalm.guards.light_guards).trans heffects.light_guards
  rw [superviseFans_eq]
  refine ⟨hlight.light, fun k => ?_, hlight.grants⟩
  by_cases hchange : failedSetChanged s.cool.fans (fansJudged s).cool.fans = true
  · exact failedSetEffects_settled hchange
  · have hsame (f : Fan) :
        ((s.cool.fans.map FanRec.supervised).get f).isFailed = (s.cool.fans.get f).isFailed := by
      rw [hcalm.cool] at hchange
      simp only [failedSetChanged, List.any_eq_true, not_exists, not_and, bne_iff_ne, ne_eq, Classical.not_not] at hchange
      exact (hchange f (by cases f <;> decide)).symm
    have hk f := FanRec.supervised_keeps (s.cool.fans.get f)
    have hfans : Guards s (s.withCool { s.cool with fans := s.cool.fans.map FanRec.supervised }) := by
      refine withFans_guards ?_ ?_ ?_ hsame ?_ ?_ <;> intro f <;> rw [PerFan.get_map]
      · exact (hk f).1
      · exact (hk f).2.1
      · exact (hk f).2.2.1
      · exact (hk f).2.2.2.1
      · exact fun hc _ => (hk f).2.2.2.2.trans hc
    exact ((hfans.trans hcalm.guards).trans heffects).settled k

theorem takeTick_guards (k : Taker) (s : State) : Guards s (takeTick s k) := by
  cases k with
  | holdTimers => exact (holdTicks_axis s).guards
  | keepCounts => exact (keepTick_sched s).guards
  | tachAndSlew => exact (tachTick_guards s).trans (slewFans_guards _)
  | failureAges => exact Guards.foldl ageChannel_guards allChans s
  | zones => exact evaluateZones_guards s
  | supervision => exact superviseFans_guards s
  | phaseTimers => exact phaseTick_guards s
  | tracking => exact (trackTick_sched s).guards

theorem deviceReset_guards (cause : ResetCause) (addr : Bool) (s : State) : Guards s (deviceReset cause addr s) where
  light _ := ⟨⟨rfl, rfl, rfl⟩, fun _ => rfl, (fun k => nomatch k), fun k => nomatch k⟩
  settled _ := ⟨rfl, rfl⟩
  grants _ := Nat.zero_le _

/-- Every operation keeps the three. -/
theorem guards_respected : Respected Guards where
  refl := .refl
  trans := .trans
  pending s l := (⟨rfl, rfl, rfl, rfl, rfl, rfl⟩ : Calm s { s with pending := l }).guards
  respond _ _ _ _ := (setPort_calm _ _ _).guards
  afterRead _ _ := (setPort_calm _ _ _).guards
  mask _ _ _ := (setPort_calm _ _ _).guards
  unit _ _ _ := (setPort_calm _ _ _).guards
  read _ _ _ := (setPort_calm _ _ _).guards
  deviceReset := deviceReset_guards
  presence x s := (withPresence_calm x s).guards
  picturePortReset c s := (picturePortReset_calm c s).guards
  powerLost s := (⟨rfl, rfl, rfl, rfl, rfl, rfl⟩ : Calm s (powerLost s)).guards
  motionRequest r a m p k s := (motionRequest_sched r a m p k s).guards
  demandAbsent _ _ _ := (writeDemand_delivery ..).guards
  jogKeep a o s := (jogKeep_sched a o s).guards
  stopAxes l s := (stopAxes_sched l s).guards
  applySettings a x s _ := (applySettings_axis a x s).guards
  table a l s := (setTable_axis a l s).guards
  startRecall r c p s := (startRecall_sched r c p s).guards
  beginWrite _ _ _ _ _ _ := (withMem_calm _ _).guards
  writeDone s := (writeDone_calm s).guards
  keystone kv kh s := (keystoneRequest_delivery kv kh s).guards
  orientation := changeOrientation_guards
  panel := changePanel_guards
  mode m s := (changeMode_calm m s).guards
  zone := writeZone_guards
  curve := writeCurve_guards
  fan := writeFan_guards
  quiet := quietRequest_guards
  thermTable b l s := (writeTable_calm b l s).guards
  comparator c _ _ h := (setComp_calm c h).guards
  clearTrip := clearTripRequest_guards
  lightOn := lightOnRequest_guards
  lightOff := lightOffEffect_guards
  clearFault := clearFaultRequest_guards
  tracking p s := (writeTracking_calm p s).guards
  switch a x s := (setSwitch_axis a x s).guards
  homeFilter a s := (homeFilterDone_axis a s).guards
  axisStep a s := (axisStep_axis a s).guards
  divider x s := (withDivider_calm x s).guards
  tick := takeTick_guards
  coilRelease a s := (coilRelease_axis a s).guards
  expireQueued k a s := (expireQueued_sched k a s).guards
  expireRunning k a s := (expireRunning_sched k a s).guards
  criticalPersisted := criticalPersisted_guards
  substitution := sensorSubstitution_guards
  coolDownTick s _ := coolDownTick_guards s
  warmupTick _ h := warmupTick_guards h
  conversion := conversionComplete_guards
  tripLatch := tripLatchSet_guards
  tach x s := (⟨rfl, rfl, rfl, rfl, rfl, rfl⟩ : Calm s (s.withMeas { s.meas with tach := x })).guards
  frameStrobe s := (frameStrobe_calm s).guards
  bandStrobe s := (bandStrobe_calm s).guards
  wordSent s := (wordSent_calm s).guards
  computeDone s := (computeDone_calm s).guards

theorem step_guards {s t : State} (h : step s = .next t) : Guards s t := guards_respected.of_step h

/-- Settles O3: every operation keeps the light safe. -/
theorem lightSafeKept : Obligations.LightSafeKept := fun _ _ hs ht => (step_guards ht).light hs

/-- Settles O6: every operation that moves what the rules look at ends in a refresh. -/
theorem coolingSettledKept : Obligations.CoolingSettledKept := fun _ _ hs ht => (step_guards ht).settled hs

end Sys2Proof.Machine
end

section
/-! PROOFS. The slots, the held list and the motion records on their axes (R28, R29, R41): the share each axis has in
them, what each operation of the scheduler does to the share of its axis, and that it leaves the other shares. -/

namespace Sys2Proof.Machine

/-! ### The share of one axis -/

/-- The states of an axis whose slot is GRANTED (R29). -/
def Driving (st : AxisState) : Prop := st = .moving ∨ st = .homing ∨ st = .jogging

/-- The states of an axis that has no slot and is not HELD. -/
def Resting (st : AxisState) : Prop := st = .absent ∨ st = .unreferenced ∨ st = .idle

def Scheduler.GrantedTo (q : Scheduler) (a : Axis) : Prop := q.slot1 = .granted a ∨ q.slot2 = .granted a

def Scheduler.RunDownFor (q : Scheduler) (a : Axis) : Prop := q.slot1 = .rundown a ∨ q.slot2 = .rundown a

/-- Both slots are taken by one axis. -/
def Scheduler.Doubled (q : Scheduler) (a : Axis) : Prop := q.slot1.holder = some a ∧ q.slot2.holder = some a

/-- The share of one axis in the slots, the held list and the records is what its channel gives. -/
structure AxisAgrees (q : Scheduler) (c : Channel) (a : Axis) : Prop where
  granted : q.GrantedTo a ↔ Driving c.state
  rundown : q.RunDownFor a ↔ c.state = .stopping
  distinct : ¬q.Doubled a
  held : a ∈ q.held ↔ c.state = .held
  record : (q.records.get a).isSome = true ↔ inMotion c.state = true ∨ c.state = .held
  resumable : c.state = .held → c.target.isSome = true ∨ c.heldHome = true

theorem slotsAgree_iff (s : State) :
    SlotsAgree s ↔ (∀ a, AxisAgrees s.sched (s.chan a) a) ∧ s.sched.held.Nodup :=
  ⟨fun h => ⟨fun a => ⟨h.granted a, h.rundown a, h.distinct a, h.held a, h.records a, h.resumable a⟩, h.heldOnce⟩,
    fun h =>
      { granted := fun a => (h.1 a).granted
        rundown := fun a => (h.1 a).rundown
        distinct := fun a => (h.1 a).distinct
        held := fun a => (h.1 a).held
        heldOnce := h.2
        records := fun a => (h.1 a).record
        resumable := fun a => (h.1 a).resumable }⟩

/-- The slots, the held list and the records of all axes but one are as their channels give. -/
def AgreeBut (a : Axis) (s : State) : Prop :=
  (∀ b, b ≠ a → AxisAgrees s.sched (s.chan b) b) ∧ s.sched.held.Nodup

theorem SlotsAgree.axis {s : State} (h : SlotsAgree s) (a : Axis) : AxisAgrees s.sched (s.chan a) a :=
  ((slotsAgree_iff s).mp h).1 a

theorem SlotsAgree.but {s : State} (h : SlotsAgree s) (a : Axis) : AgreeBut a s :=
  ⟨fun b _ => h.axis b, h.heldOnce⟩

theorem AgreeBut.all {a : Axis} {s : State} (h : AgreeBut a s) (ha : AxisAgrees s.sched (s.chan a) a) : SlotsAgree s :=
  (slotsAgree_iff s).mpr
    ⟨fun b => by
      by_cases hb : b = a
      · rw [hb]; exact ha
      · exact h.1 b hb, h.2⟩

theorem AgreeBut.setChan {a : Axis} {s : State} (h : AgreeBut a s) (c : Channel) : AgreeBut a (s.setChan a c) :=
  ⟨fun b hb => by
    rw [State.setChan_chan, if_neg hb]
    exact h.1 b hb, h.2⟩

/-! ### Two schedulers with the same share of an axis -/

/-- Two schedulers give an axis the same share. -/
structure SameShare (q q' : Scheduler) (b : Axis) : Prop where
  granted : q'.GrantedTo b ↔ q.GrantedTo b
  rundown : q'.RunDownFor b ↔ q.RunDownFor b
  distinct : q'.Doubled b ↔ q.Doubled b
  held : b ∈ q'.held ↔ b ∈ q.held
  record : (q'.records.get b).isSome = (q.records.get b).isSome

theorem SameShare.refl (q : Scheduler) (b : Axis) : SameShare q q b := ⟨.rfl, .rfl, .rfl, .rfl, rfl⟩

theorem SameShare.trans {q q' q'' : Scheduler} {b : Axis} (h : SameShare q q' b) (k : SameShare q' q'' b) :
    SameShare q q'' b :=
  ⟨k.granted.trans h.granted, k.rundown.trans h.rundown, k.distinct.trans h.distinct, k.held.trans h.held,
    k.record.trans h.record⟩

theorem AxisAgrees.share {q q' : Scheduler} {c : Channel} {b : Axis} (h : AxisAgrees q c b) (k : SameShare q q' b) :
    AxisAgrees q' c b :=
  ⟨k.granted.trans h.granted, k.rundown.trans h.rundown, fun hd => h.distinct (k.distinct.mp hd), k.held.trans h.held,
    by rw [k.record]; exact h.record, h.resumable⟩

theorem AgreeBut.withSched {a : Axis} {s : State} {q : Scheduler} (h : AgreeBut a s)
    (hq : ∀ b, b ≠ a → SameShare s.sched q b) (hn : s.sched.held.Nodup → q.held.Nodup) : AgreeBut a (s.withSched q) :=
  ⟨fun b hb => (h.1 b hb).share (hq b hb), hn h.2⟩

theorem SlotsAgree.withSched {s : State} {q : Scheduler} (h : SlotsAgree s) (hq : ∀ b, SameShare s.sched q b)
    (hn : s.sched.held.Nodup → q.held.Nodup) : SlotsAgree (s.withSched q) :=
  (slotsAgree_iff _).mpr ⟨fun b => (h.axis b).share (hq b), hn h.heldOnce⟩

/-- A scheduler that differs outside the slots, the held list and the records gives every axis the same share. -/
theorem SameShare.of_eq {q q' : Scheduler} (h1 : q'.slot1 = q.slot1) (h2 : q'.slot2 = q.slot2) (hh : q'.held = q.held)
    (hr : q'.records = q.records) (b : Axis) : SameShare q q' b := by
  constructor <;> simp [Scheduler.GrantedTo, Scheduler.RunDownFor, Scheduler.Doubled, h1, h2, hh, hr]

theorem setRecord_share {q : Scheduler} {a b : Axis} (m : Option MotionRec) (h : b ≠ a) :
    SameShare q (q.setRecord a m) b :=
  ⟨.rfl, .rfl, .rfl, .rfl, by rw [Scheduler.setRecord, PerAxis.get_set_other _ _ h.symm]⟩

theorem unheld_share {q : Scheduler} {a b : Axis} (h : b ≠ a) : SameShare q (q.unheld a) b :=
  ⟨.rfl, .rfl, .rfl, by simp [Scheduler.unheld, h], rfl⟩

theorem freed_granted_iff {a b : Axis} (h : b ≠ a) (sl : Slot) : sl.freed a = .granted b ↔ sl = .granted b := by
  cases sl with
  | free => simp [Slot.freed, Slot.holder]
  | granted x => unfold Slot.freed Slot.holder; grind
  | rundown x => unfold Slot.freed Slot.holder; grind

theorem freed_rundown_iff {a b : Axis} (h : b ≠ a) (sl : Slot) : sl.freed a = .rundown b ↔ sl = .rundown b := by
  cases sl with
  | free => simp [Slot.freed, Slot.holder]
  | granted x => unfold Slot.freed Slot.holder; grind
  | rundown x => unfold Slot.freed Slot.holder; grind

theorem holder_eq_some_iff (sl : Slot) (b : Axis) : sl.holder = some b ↔ sl = .granted b ∨ sl = .rundown b := by
  cases sl <;> simp [Slot.holder]

theorem freeSlot_share {q : Scheduler} {a b : Axis} (h : b ≠ a) : SameShare q (q.freeSlot a) b := by
  constructor <;>
    simp [Scheduler.GrantedTo, Scheduler.RunDownFor, Scheduler.Doubled, Scheduler.freeSlot, holder_eq_some_iff,
      freed_granted_iff h, freed_rundown_iff h]

theorem runDown_granted_iff {a b : Axis} (h : b ≠ a) (sl : Slot) : sl.runDown a = .granted b ↔ sl = .granted b := by
  cases sl with
  | free => simp [Slot.runDown, Slot.grantee]
  | granted x => unfold Slot.runDown Slot.grantee; grind
  | rundown x => simp [Slot.runDown, Slot.grantee]

theorem runDown_rundown_iff {a b : Axis} (h : b ≠ a) (sl : Slot) : sl.runDown a = .rundown b ↔ sl = .rundown b := by
  cases sl with
  | free => simp [Slot.runDown, Slot.grantee]
  | granted x => unfold Slot.runDown Slot.grantee; grind
  | rundown x => simp [Slot.runDown, Slot.grantee]

theorem runDownSlot_share {q : Scheduler} {a b : Axis} (h : b ≠ a) : SameShare q (q.runDownSlot a) b := by
  constructor <;>
    simp [Scheduler.GrantedTo, Scheduler.RunDownFor, Scheduler.Doubled, Scheduler.runDownSlot, holder_eq_some_iff,
      runDown_granted_iff h, runDown_rundown_iff h]

theorem hasFree_iff (q : Scheduler) : q.hasFree = true ↔ q.slot1 = .free ∨ q.slot2 = .free := by
  simp [Scheduler.hasFree]

theorem takeSlot_share {q : Scheduler} {a b : Axis} (h : b ≠ a) (hf : q.hasFree = true) :
    SameShare q (q.takeSlot a) b := by
  rw [hasFree_iff] at hf
  unfold Scheduler.takeSlot
  split
  · next h1 =>
    constructor <;> simp [Scheduler.GrantedTo, Scheduler.RunDownFor, Scheduler.Doubled, h1, h.symm, holder_eq_some_iff]
  · next h1 =>
    have h2 := hf.resolve_left h1
    constructor <;> simp [Scheduler.GrantedTo, Scheduler.RunDownFor, Scheduler.Doubled, h2, h.symm, holder_eq_some_iff]

/-! ### The share an operation gives its own axis -/

/-- No slot is taken by an axis. -/
def Scheduler.Clear (q : Scheduler) (a : Axis) : Prop := q.slot1.holder ≠ some a ∧ q.slot2.holder ≠ some a

/-- One slot is GRANTED to an axis and the other is not taken by it. -/
structure Scheduler.Drives (q : Scheduler) (a : Axis) : Prop where
  granted : q.GrantedTo a
  rundown : ¬q.RunDownFor a
  distinct : ¬q.Doubled a

theorem AxisAgrees.clear {q : Scheduler} {c : Channel} {a : Axis} (h : AxisAgrees q c a)
    (hc : Resting c.state ∨ c.state = .held) : q.Clear a := by
  have hg : ¬Driving c.state := by rcases hc with (h | h | h) | h <;> simp [Driving, h]
  have hr : c.state ≠ .stopping := by rcases hc with (h | h | h) | h <;> simp [h]
  have hgr := fun k => hg (h.granted.mp k)
  have hrd := fun k => hr (h.rundown.mp k)
  unfold Scheduler.GrantedTo at hgr
  unfold Scheduler.RunDownFor at hrd
  constructor <;> rw [ne_eq, holder_eq_some_iff]
  · exact fun k => k.elim (fun e => hgr (.inl e)) fun e => hrd (.inl e)
  · exact fun k => k.elim (fun e => hgr (.inr e)) fun e => hrd (.inr e)

theorem Scheduler.Clear.not_taken {q : Scheduler} {a : Axis} (h : q.Clear a) :
    ¬q.GrantedTo a ∧ ¬q.RunDownFor a ∧ ¬q.Doubled a := by
  obtain ⟨h1, h2⟩ := h
  rw [ne_eq, holder_eq_some_iff] at h1 h2
  refine ⟨?_, ?_, fun k => ?_⟩
  · exact fun k => k.elim (fun e => h1 (.inl e)) fun e => h2 (.inl e)
  · exact fun k => k.elim (fun e => h1 (.inr e)) fun e => h2 (.inr e)
  · exact h1 ((holder_eq_some_iff _ _).mp k.1)

theorem freeSlot_clear (q : Scheduler) (a : Axis) : (q.freeSlot a).Clear a := by
  have h (sl : Slot) : (sl.freed a).holder ≠ some a := by
    unfold Slot.freed
    split
    · nofun
    · assumption
  exact ⟨h _, h _⟩

theorem takeSlot_drives {q : Scheduler} {a : Axis} (h : q.Clear a) : (q.takeSlot a).Drives a := by
  obtain ⟨h1, h2⟩ := h
  unfold Scheduler.takeSlot
  split
  · refine ⟨.inl rfl, ?_, fun k => h2 k.2⟩
    rintro (k | k)
    · cases k
    · exact h2 ((holder_eq_some_iff _ _).mpr (.inr k))
  · refine ⟨.inr rfl, ?_, fun k => h1 k.1⟩
    rintro (k | k)
    · exact h1 ((holder_eq_some_iff _ _).mpr (.inr k))
    · cases k

theorem runDownSlot_runDownFor {q : Scheduler} {a : Axis} (h : q.Drives a) :
    (q.runDownSlot a).RunDownFor a ∧ ¬(q.runDownSlot a).GrantedTo a ∧ ¬(q.runDownSlot a).Doubled a := by
  obtain ⟨hg, hr, hd⟩ := h
  have hh (sl : Slot) : (sl.runDown a).holder = sl.holder := by
    unfold Slot.runDown
    split
    · next k => cases sl <;> simp_all [Slot.grantee, Slot.holder]
    · rfl
  have hn (sl : Slot) : sl.runDown a ≠ .granted a := by
    unfold Slot.runDown
    split
    · nofun
    · next k => exact fun e => k (by rw [e]; rfl)
  refine ⟨?_, fun k => k.elim (hn _) (hn _), fun k => hd ?_⟩
  · rcases hg with hg | hg
    · exact .inl (by simp [Scheduler.runDownSlot, hg, Slot.runDown, Slot.grantee])
    · exact .inr (by simp [Scheduler.runDownSlot, hg, Slot.runDown, Slot.grantee])
  · simp only [Scheduler.Doubled, Scheduler.runDownSlot, hh] at k
    exact k

theorem AxisAgrees.drives {q : Scheduler} {c : Channel} {a : Axis} (h : AxisAgrees q c a) (hc : Driving c.state) :
    q.Drives a :=
  ⟨h.granted.mpr hc, fun k => by rw [h.rundown] at k; rcases hc with e | e | e <;> simp [e] at k, h.distinct⟩

theorem AxisAgrees.has_record {q : Scheduler} {c : Channel} {a : Axis} (h : AxisAgrees q c a)
    (hc : Driving c.state ∨ c.state = .stopping ∨ c.state = .held) : (q.records.get a).isSome = true :=
  h.record.mpr (by rcases hc with (e | e | e) | e | e <;> simp [e, inMotion])

theorem AxisAgrees.not_held {q : Scheduler} {c : Channel} {a : Axis} (h : AxisAgrees q c a) (hc : c.state ≠ .held) :
    a ∉ q.held := fun k => hc (h.held.mp k)

theorem Driving.ne_held {st : AxisState} (h : Driving st) : st ≠ .held := by
  rcases h with e | e | e <;> simp [e]

theorem Resting.ne_held {st : AxisState} (h : Resting st) : st ≠ .held := by
  rcases h with e | e | e <;> simp [e]

theorem agrees_driving {q : Scheduler} {c : Channel} {a : Axis} (hd : q.Drives a) (hh : a ∉ q.held)
    (hr : (q.records.get a).isSome = true) (hc : Driving c.state) : AxisAgrees q c a where
  granted := ⟨fun _ => hc, fun _ => hd.granted⟩
  rundown := ⟨fun k => absurd k hd.rundown, fun k => by rcases hc with e | e | e <;> simp [e] at k⟩
  distinct := hd.distinct
  held := ⟨fun k => absurd k hh, fun k => absurd k hc.ne_held⟩
  record := ⟨fun _ => by rcases hc with e | e | e <;> simp [e, inMotion], fun _ => hr⟩
  resumable k := absurd k hc.ne_held

theorem agrees_stopping {q : Scheduler} {c : Channel} {a : Axis} (hd : q.RunDownFor a) (hg : ¬q.GrantedTo a)
    (ht : ¬q.Doubled a) (hh : a ∉ q.held) (hr : (q.records.get a).isSome = true) (hc : c.state = .stopping) :
    AxisAgrees q c a where
  granted := ⟨fun k => absurd k hg, fun k => by rcases k with e | e | e <;> simp [hc] at e⟩
  rundown := ⟨fun _ => hc, fun _ => hd⟩
  distinct := ht
  held := ⟨fun k => absurd k hh, fun k => by simp [hc] at k⟩
  record := ⟨fun _ => by simp [hc, inMotion], fun _ => hr⟩
  resumable k := by simp [hc] at k

theorem agrees_resting {q : Scheduler} {c : Channel} {a : Axis} (hd : q.Clear a) (hh : a ∉ q.held)
    (hr : q.records.get a = none) (hc : Resting c.state) : AxisAgrees q c a where
  granted := ⟨fun k => absurd k hd.not_taken.1, fun k => by rcases k with e | e | e <;> simp [e, Resting] at hc⟩
  rundown := ⟨fun k => absurd k hd.not_taken.2.1, fun k => by simp [k, Resting] at hc⟩
  distinct := hd.not_taken.2.2
  held := ⟨fun k => absurd k hh, fun k => absurd k hc.ne_held⟩
  record := ⟨fun k => by simp [hr] at k, fun k => by rcases hc with e | e | e <;> simp [e, inMotion] at k⟩
  resumable k := absurd k hc.ne_held

theorem agrees_held {q : Scheduler} {c : Channel} {a : Axis} (hd : q.Clear a) (hh : a ∈ q.held)
    (hr : (q.records.get a).isSome = true) (hc : c.state = .held) (ht : c.target.isSome = true ∨ c.heldHome = true) :
    AxisAgrees q c a where
  granted := ⟨fun k => absurd k hd.not_taken.1, fun k => by rcases k with e | e | e <;> simp [hc] at e⟩
  rundown := ⟨fun k => absurd k hd.not_taken.2.1, fun k => by simp [hc] at k⟩
  distinct := hd.not_taken.2.2
  held := ⟨fun _ => hc, fun _ => hh⟩
  record := ⟨fun _ => .inr hc, fun _ => hr⟩
  resumable _ := ht

/-! ### Operations that keep every share -/

/-- An operation keeps the slots, the held list and the records on their axes. -/
def Slotted (s t : State) : Prop := SlotsAgree s → SlotsAgree t

theorem Slotted.refl (s : State) : Slotted s s := id

theorem Slotted.trans {s t u : State} (h : Slotted s t) (k : Slotted t u) : Slotted s u := k ∘ h

theorem Slotted.foldl {α : Type} {f : State → α → State} (hf : ∀ s x, Slotted s (f s x)) (l : List α) (s : State) :
    Slotted s (l.foldl f s) := fun h => foldl_keeps_property hf l h

theorem Slotted.of_eq {s t : State} (ha : t.axes = s.axes) (hs : t.sched = s.sched) : Slotted s t := fun h => by
  have hc (a : Axis) : t.chan a = s.chan a := by simp [State.chan, ha]
  refine (slotsAgree_iff t).mpr ⟨fun a => ?_, by rw [hs]; exact h.heldOnce⟩
  rw [hc, hs]
  exact h.axis a

theorem Calm.slotted {s t : State} (h : Calm s t) : Slotted s t := .of_eq h.axes h.sched

theorem DeliveryFrame.slotted {s t : State} (h : DeliveryFrame s t) : Slotted s t := .of_eq h.axes h.sched

/-- Writing of a scheduler what no share looks at. -/
theorem withSched_slotted {s : State} {q : Scheduler} (h1 : q.slot1 = s.sched.slot1) (h2 : q.slot2 = s.sched.slot2)
    (hh : q.held = s.sched.held) (hr : q.records = s.sched.records) : Slotted s (s.withSched q) := fun h =>
  h.withSched (.of_eq h1 h2 hh hr) (by rw [hh]; exact id)

/-- Writing a channel in the same state, HELD with what it resumes. -/
theorem setChan_slotted {s : State} {a : Axis} {c : Channel} (hs : c.state = (s.chan a).state)
    (ht : (s.chan a).state = .held → ((s.chan a).target.isSome = true ∨ (s.chan a).heldHome = true) →
      c.target.isSome = true ∨ c.heldHome = true) : Slotted s (s.setChan a c) := fun h => by
  refine ((h.but a).setChan c).all ?_
  obtain ⟨h1, h2, h3, h4, h5, h6⟩ := h.axis a
  rw [State.setChan_chan, if_pos rfl]
  rw [← hs] at h1 h2 h4 h5
  exact ⟨h1, h2, h3, h4, h5, fun k => ht (hs ▸ k) (h6 (hs ▸ k))⟩

/-- Writing a channel at rest on an axis at rest. -/
theorem setChan_resting {s : State} {a : Axis} {c : Channel} (hs : Resting (s.chan a).state) (hc : Resting c.state) :
    Slotted s (s.setChan a c) := fun h => by
  refine ((h.but a).setChan c).all ?_
  have ha := h.axis a
  rw [State.setChan_chan, if_pos rfl]
  refine agrees_resting (ha.clear (.inl hs)) (ha.not_held hs.ne_held) ?_ hc
  have hrec := ha.record
  cases hr : s.sched.records.get a with
  | none => exact hr
  | some m =>
    rw [hr] at hrec
    rcases hs with e | e | e <;> simp [e, inMotion] at hrec

/-! ### Endings -/

theorem deliverRecord_axes (a : Axis) (e : Ending) (s : State) : (deliverRecord a e s).axes = s.axes := by
  unfold deliverRecord
  split
  · rw [(deliver_delivery ..).axes]; rfl
  · rfl

theorem deliverRecord_chan (a : Axis) (e : Ending) (s : State) (b : Axis) : (deliverRecord a e s).chan b = s.chan b := by
  simp [State.chan, deliverRecord_axes]

/-- Delivering an ending discards the record of its axis, and changes nothing else of the scheduler. -/
theorem deliverRecord_sched_eq (a : Axis) (e : Ending) (s : State) :
    (deliverRecord a e s).sched = s.sched.setRecord a none := by
  unfold deliverRecord
  split
  · rw [(deliver_delivery ..).sched]; rfl
  · next h =>
    have hset : s.sched.records.set a none = s.sched.records := by
      rw [← h, PerAxis.set_get]
    unfold Scheduler.setRecord
    rw [hset]

theorem AgreeBut.deliverRecord {a : Axis} {s : State} (h : AgreeBut a s) (e : Ending) :
    AgreeBut a (deliverRecord a e s) := by
  refine ⟨fun b hb => ?_, ?_⟩
  · rw [deliverRecord_chan, deliverRecord_sched_eq]
    exact (h.1 b hb).share (setRecord_share none hb)
  · rw [deliverRecord_sched_eq]
    exact h.2

/-- An end of motion at rest leaves the axis without slot and record. -/
theorem AgreeBut.endMotion {a : Axis} {s : State} (h : AgreeBut a s) (hh : a ∉ s.sched.held) {c : Channel}
    (hc : Resting c.state) (e : Ending) : SlotsAgree (endMotion a c e s) := by
  have h1 : AgreeBut a ((s.setChan a c).withSched ((s.setChan a c).sched.freeSlot a)) :=
    (h.setChan c).withSched (fun b hb => freeSlot_share hb) id
  refine (h1.deliverRecord e).all ?_
  rw [deliverRecord_sched_eq, deliverRecord_chan]
  refine agrees_resting (freeSlot_clear s.sched a) hh (PerAxis.get_set_same _ _ _) ?_
  simpa using hc

/-! ### Where grants and steps lead -/

/-- What a grant or a step leaves of a driving channel: it drives on, or it is at rest. -/
def Progress.Sound : Progress → Prop
  | .running c => Driving c.state
  | .ended c _ => Resting c.state

theorem moveDone_resting (c : Channel) : Resting c.moveDone.state := .inr (.inr rfl)

theorem jogDone_resting (c : Channel) : Resting c.jogDone.state := .inr (.inr rfl)

theorem homeFailed_resting (c : Channel) (why : FailReason) : Resting (c.homeFailed why).state := .inr (.inl rfl)

theorem energize_state (c : Channel) : c.energize.state = c.state := by
  unfold Channel.energize
  split <;> rfl

theorem runMove_state (c : Channel) (t : Int) : (c.runMove t).state = c.state := by
  unfold Channel.runMove
  split
  · split <;> rfl
  · rfl

theorem startMove_sound (c : Channel) (t : Int) : (c.startMove t).Sound := by
  unfold Channel.startMove
  dsimp only
  split
  · exact moveDone_resting c
  · exact .inl (by rw [runMove_state, energize_state])

theorem startHome_driving (c : Channel) : Driving c.startHome.state := by
  refine .inr (.inl ?_)
  unfold Channel.startHome
  dsimp only
  split <;> exact energize_state _

theorem startJog_sound (c : Channel) (d : Dir) (l : Nat) : (c.startJog d l).Sound := by
  unfold Channel.startJog
  dsimp only
  split
  · exact jogDone_resting _
  · exact .inr (.inr (energize_state _))

theorem segmentOver_sound {c : Channel} (h : Driving c.state) : c.segmentOver.Sound := by
  unfold Channel.segmentOver
  split
  · split
    · exact moveDone_resting c
    · exact h
  · exact moveDone_resting c

theorem moveStep_sound {c : Channel} (h : Driving c.state) : c.moveStep.Sound := by
  unfold Channel.moveStep
  dsimp only
  split
  · exact segmentOver_sound h
  · exact h

theorem jogStep_sound {c : Channel} (h : Driving c.state) : c.jogStep.Sound := by
  unfold Channel.jogStep
  dsimp only
  split
  · exact jogDone_resting _
  · exact h

theorem fastOver_sound {c : Channel} (h : Driving c.state) (x : Homing) : (c.fastOver x).Sound := by
  unfold Channel.fastOver
  split
  · exact h
  · exact homeFailed_resting c _
  · exact h

theorem slowFast_sound {c : Channel} (h : Driving c.state) (x : Homing) (r : HomingRun) : (c.slowFast x r).Sound := by
  unfold Channel.slowFast
  dsimp only
  split
  · refine fastOver_sound ?_ _
    exact h
  · exact h

theorem homeStep_sound {c : Channel} (h : Driving c.state) : c.homeStep.Sound := by
  unfold Channel.homeStep
  dsimp only
  split
  · exact h
  · split
    · split
      · exact homeFailed_resting _ _
      · exact h
    · split
      · split
        · refine slowFast_sound ?_ _ _
          exact h
        · exact h
      · split
        · refine fastOver_sound ?_ _
          exact h
        · exact h
      · split
        · refine fastOver_sound ?_ _
          exact h
        · exact h

theorem moveResync_sound {c : Channel} (h : Driving c.state) : c.moveResync.Sound := by
  unfold Channel.moveResync
  dsimp only
  split
  · exact h
  · split
    · exact segmentOver_sound h
    · split
      · exact startMove_sound _ _
      · exact moveDone_resting c

theorem jogResync_sound {c : Channel} (h : Driving c.state) : c.jogResync.Sound := by
  unfold Channel.jogResync
  dsimp only
  split
  · exact h
  · exact jogDone_resting c

/-- A grant or a step of an axis that has the slot and the record of a motion. -/
theorem AgreeBut.settleMotion {a : Axis} {s : State} (h : AgreeBut a s) (hd : s.sched.Drives a) (hh : a ∉ s.sched.held)
    (hr : (s.sched.records.get a).isSome = true) {p : Progress} (hp : p.Sound) : SlotsAgree (settleMotion a p s) := by
  cases p with
  | running c =>
    refine (h.setChan c).all ?_
    rw [State.setChan_chan, if_pos rfl]
    exact agrees_driving hd hh hr hp
  | ended c e => exact h.endMotion hh hp e

/-! ### Grants -/

theorem takeSlot_records (q : Scheduler) (a : Axis) : (q.takeSlot a).records = q.records := by
  unfold Scheduler.takeSlot
  split <;> rfl

theorem takeSlot_held (q : Scheduler) (a : Axis) : (q.takeSlot a).held = q.held := by
  unfold Scheduler.takeSlot
  split <;> rfl

theorem isCandidate_resting {s : State} {en : Entry} (h : isCandidate s en = true) :
    Resting (s.chan en.axis).state := by
  simp only [isCandidate, Bool.or_eq_true, decide_eq_true_eq] at h
  exact h.elim (fun k => .inr (.inr k)) (fun k => .inr (.inl k))

theorem grantEntry_slotted {en : Entry} {s : State} (hf : s.sched.hasFree = true)
    (hc : Resting (s.chan en.axis).state) : Slotted s (grantEntry en s) := fun h => by
  have ha := h.axis en.axis
  have hbut (m : Option MotionRec) :
      AgreeBut en.axis (s.withSched (((s.sched.without en.axis).setRecord en.axis m).takeSlot en.axis)) := by
    refine (h.but en.axis).withSched (fun b hb => ?_) fun k => by rw [takeSlot_held]; exact k
    have hw : SameShare s.sched (s.sched.without en.axis) b :=
      .of_eq (q := s.sched) (q' := s.sched.without en.axis) rfl rfl rfl rfl b
    exact (hw.trans (setRecord_share m hb)).trans (takeSlot_share hb hf)
  have hdrives (m : Option MotionRec) : (((s.sched.without en.axis).setRecord en.axis m).takeSlot en.axis).Drives en.axis :=
    takeSlot_drives (ha.clear (.inl hc))
  have hheld (m : Option MotionRec) :
      en.axis ∉ (((s.sched.without en.axis).setRecord en.axis m).takeSlot en.axis).held := by
    rw [takeSlot_held]
    exact ha.not_held hc.ne_held
  have hrec (m : MotionRec) :
      ((((s.sched.without en.axis).setRecord en.axis (some m)).takeSlot en.axis).records.get en.axis).isSome = true := by
    rw [takeSlot_records, Scheduler.setRecord, PerAxis.get_set_same]
    rfl
  unfold grantEntry
  dsimp only
  split
  · exact (hbut _).settleMotion (hdrives _) (hheld _) (hrec _) (startMove_sound _ _)
  · refine ((hbut _).setChan _).all ?_
    rw [State.setChan_chan, if_pos rfl]
    exact agrees_driving (hdrives _) (hheld _) (hrec _) (startHome_driving _)
  · exact (hbut _).settleMotion (hdrives _) (hheld _) (hrec _) (startJog_sound _ _ _)

theorem unheld_not_mem (q : Scheduler) (a : Axis) : a ∉ (q.unheld a).held := by simp [Scheduler.unheld]

theorem unheld_nodup {q : Scheduler} (a : Axis) (h : q.held.Nodup) : (q.unheld a).held.Nodup :=
  h.sublist List.filter_sublist

theorem resume_slotted {a : Axis} {s : State} (hf : s.sched.hasFree = true) (hm : a ∈ s.sched.held) :
    Slotted s (resume a s) := fun h => by
  have ha := h.axis a
  have hstate := ha.held.mp hm
  have hrec := ha.has_record (.inr (.inr hstate))
  have hbut : AgreeBut a (s.withSched ((s.sched.unheld a).takeSlot a)) :=
    (h.but a).withSched (fun b hb => (unheld_share hb).trans (takeSlot_share hb hf)) fun k => by
      rw [takeSlot_held]
      exact unheld_nodup a k
  have hclear : (s.sched.unheld a).Clear a := ha.clear (.inr hstate)
  have hdrives := takeSlot_drives hclear
  have hheld : a ∉ ((s.sched.unheld a).takeSlot a).held := by
    rw [takeSlot_held]
    exact unheld_not_mem _ _
  have hrec' : (((s.sched.unheld a).takeSlot a).records.get a).isSome = true := by
    rw [takeSlot_records]
    exact hrec
  unfold resume
  dsimp only
  split
  · next hn => rw [hn] at hrec; cases hrec
  · split
    · refine (hbut.setChan _).all ?_
      rw [State.setChan_chan, if_pos rfl]
      exact agrees_driving hdrives hheld hrec' (startHome_driving _)
    · next hno =>
      split
      · exact hbut.settleMotion hdrives hheld hrec' (startMove_sound _ _)
      · next hnone =>
        rcases ha.resumable hstate with k | k
        · have hn : (s.chan a).target = none := hnone
          rw [hn] at k
          cases k
        · exact absurd k hno

theorem grantPassN_slotted (n : Nat) (s : State) : Slotted s (grantPassN n s) := by
  induction n generalizing s with
  | zero => exact .refl s
  | succ n ih =>
    unfold grantPassN
    split
    · next hc =>
      simp only [Bool.and_eq_true] at hc
      split
      · next a l hl => exact (resume_slotted hc.1 (by rw [hl]; exact List.mem_cons_self)).trans (ih _)
      · split
        · next en hen => exact (grantEntry_slotted hc.1 (isCandidate_resting (List.find?_some hen))).trans (ih _)
        · exact .refl s
    · exact .refl s

theorem grantPass_slotted (s : State) : Slotted s (grantPass s) := grantPassN_slotted _ s

/-! ### Stops and held axes -/

theorem dropHeld_resting (c : Channel) (e : Ending) (m : Option MotionRec) :
    Resting (c.dropHeld.heldEnded e m).state := by
  unfold Channel.heldEnded Channel.dropHeld
  dsimp only
  split
  · exact .inr (.inr rfl)
  · exact .inr (.inl rfl)

theorem AgreeBut.enterHeld {a : Axis} {s : State} (h : AgreeBut a s) (hh : a ∉ s.sched.held)
    (hr : (s.sched.records.get a).isSome = true) {c : Channel} (hc : c.state = .held)
    (ht : c.target.isSome = true ∨ c.heldHome = true) : SlotsAgree (enterHeld a c s) := by
  have h1 : AgreeBut a ((s.setChan a c).withSched ((s.setChan a c).sched.freeSlot a)) :=
    (h.setChan c).withSched (fun b hb => freeSlot_share hb) id
  have hclear := freeSlot_clear s.sched a
  unfold Machine.enterHeld
  dsimp only
  split
  · refine grantPass_slotted _ (AgreeBut.all (a := a) (h1.withSched (fun b hb => ?_) fun k => ?_) ?_)
    · exact ⟨.rfl, .rfl, .rfl, by simp [hb], rfl⟩
    · exact List.nodup_append.mpr
        ⟨k, by simp, fun x hx y hy => by rw [List.mem_singleton] at hy; exact fun e => hh (hy ▸ e ▸ hx)⟩
    · refine agrees_held ?_ ?_ ?_ ?_ ?_
      · exact hclear
      · simp
      · exact hr
      · simpa using hc
      · simpa using ht
  · refine grantPass_slotted _ (((h1.setChan _).deliverRecord _).all ?_)
    rw [deliverRecord_sched_eq, deliverRecord_chan, State.setChan_chan, if_pos rfl]
    exact agrees_resting hclear hh (PerAxis.get_set_same _ _ _) (dropHeld_resting _ _ _)

/-- Where the deceleration of a stop leads: rest with a result, or HELD with something to resume. -/
def StopEnd.Sound : StopEnd → Prop
  | .result c _ => Resting c.state
  | .heldOn c => c.state = .held ∧ (c.target.isSome = true ∨ c.heldHome = true)

theorem stopped_sound (c : Channel) : c.stopped.Sound := by
  unfold Channel.stopped
  split
  · exact .inr (.inr rfl)
  · exact .inr (.inr rfl)
  · exact .inr (.inl rfl)

theorem stoppedKind_move {c : Channel} (h : c.stoppedKind = .move) : c.target.isSome = true := by
  unfold Channel.stoppedKind at h
  split at h
  · cases h
  · split at h
    · assumption
    · cases h

theorem stopEnd_sound (c : Channel) : c.stopEnd.Sound := by
  unfold Channel.stopEnd
  split
  · exact .inr (.inl rfl)
  · split
    · next hk => exact ⟨rfl, .inl (stoppedKind_move (c := c) hk)⟩
    · exact ⟨rfl, .inr rfl⟩
    · exact stopped_sound c
  all_goals exact stopped_sound c

theorem AgreeBut.finishStop {a : Axis} {s : State} (h : AgreeBut a s) (hh : a ∉ s.sched.held)
    (hr : (s.sched.records.get a).isSome = true) : SlotsAgree (finishStop a s) := by
  have hs := stopEnd_sound (s.chan a)
  unfold Machine.finishStop
  split
  · next c e he =>
    rw [he] at hs
    exact grantPass_slotted _ (h.endMotion hh hs e)
  · next c he =>
    rw [he] at hs
    exact h.enterHeld hh hr hs.1 hs.2

theorem orderStop_slotted {a : Axis} (k : StopCause) {s : State} (hd : Driving (s.chan a).state) :
    Slotted s (orderStop a k s) := fun h => by
  have ha := h.axis a
  have hrec := ha.has_record (.inl hd)
  have hheld := ha.not_held hd.ne_held
  have h1 : AgreeBut a ((s.setChan a ((s.chan a).stopping k)).withSched (s.sched.runDownSlot a)) :=
    ((h.but a).setChan _).withSched (fun b hb => runDownSlot_share hb) id
  unfold orderStop
  dsimp only
  split
  · exact h1.finishStop hheld hrec
  · obtain ⟨h2, h3, h4⟩ := runDownSlot_runDownFor (ha.drives hd)
    refine h1.all (agrees_stopping h2 h3 h4 hheld hrec ?_)
    simp [Channel.stopping]

theorem laterAxis_granted {q : Scheduler} {a : Axis} (h : q.laterAxis = some a) : q.GrantedTo a := by
  have hg (sl : Slot) (k : sl.grantee = some a) : sl = .granted a := by
    cases sl <;> simp_all [Slot.grantee]
  have hor (x y : Option Axis) (k : x.or y = some a) : x = some a ∨ y = some a := by
    cases x <;> simp_all
  unfold Scheduler.laterAxis at h
  split at h <;> rcases hor _ _ h with k | k
  · exact .inl (hg _ k)
  · exact .inr (hg _ k)
  · exact .inr (hg _ k)
  · exact .inl (hg _ k)
  · exact .inl (hg _ k)
  · exact .inr (hg _ k)

theorem withdrawOne_slotted (s : State) : Slotted s (withdrawOne s) := fun h => by
  unfold withdrawOne
  split
  · split
    · next a ha => exact orderStop_slotted _ ((h.axis a).granted.mp (laterAxis_granted ha)) h
    · exact h
  · exact h

theorem allowanceChanged_slotted (old : Nat) (s : State) : Slotted s (allowanceChanged old s) := by
  unfold allowanceChanged
  split
  · exact grantPass_slotted s
  · exact (withdrawOne_slotted s).trans (withdrawOne_slotted _)

theorem dropHeldMotion_slotted {a : Axis} (e : Ending) {s : State} (hs : (s.chan a).state = .held) :
    Slotted s (dropHeldMotion a e s) := fun h => by
  have ha := h.axis a
  unfold dropHeldMotion
  dsimp only
  have h1 (c : Channel) : AgreeBut a ((s.setChan a c).withSched (s.sched.unheld a)) :=
    ((h.but a).setChan c).withSched (fun b hb => unheld_share hb) (unheld_nodup a)
  refine ((h1 _).deliverRecord e).all ?_
  rw [deliverRecord_sched_eq, deliverRecord_chan, State.withSched_chan, State.setChan_chan, if_pos rfl]
  exact agrees_resting (ha.clear (.inr hs)) (unheld_not_mem _ _) (PerAxis.get_set_same _ _ _) (dropHeld_resting _ _ _)

theorem removeEntry_slotted (en : Entry) (e : Ending) (s : State) : Slotted s (removeEntry en e s) :=
  (withSched_slotted (q := s.sched.without en.axis) rfl rfl rfl rfl).trans (deliverEntry_delivery ..).slotted

/-! ### Admission -/

theorem appendEntry_slotted (en : Entry) (s : State) : Slotted s (s.withSched (s.sched.append en)) :=
  withSched_slotted rfl rfl rfl rfl

/-- A held motion replaced in place: the axis stays HELD with something to resume. -/
theorem replaceHeld_slotted {a : Axis} {c : Channel} {m : MotionRec} {s : State} (hs : (s.chan a).state = .held)
    (hc : c.state = .held) (ht : c.target.isSome = true ∨ c.heldHome = true) :
    Slotted s
      ((deliverRecord a .replaced (s.setChan a c)).withSched
        ((deliverRecord a .replaced (s.setChan a c)).sched.setRecord a (some m))) := fun h => by
  have ha := h.axis a
  have h1 := ((h.but a).setChan c).deliverRecord .replaced
  refine (h1.withSched (fun b hb => setRecord_share _ hb) id).all ?_
  rw [State.withSched_chan, deliverRecord_chan, State.withSched_sched, deliverRecord_sched_eq, State.setChan_chan,
    if_pos rfl]
  refine agrees_held (ha.clear (.inr hs)) (ha.held.mpr hs) ?_ hc ht
  rw [Scheduler.setRecord, PerAxis.get_set_same]
  rfl

theorem placeHeld_slotted {en : Entry} {s : State} (hs : (s.chan en.axis).state = .held) :
    Slotted s (placeHeld en s) := by
  have hdrop : Slotted s ((dropHeldMotion en.axis .replaced s).withSched
      ((dropHeldMotion en.axis .replaced s).sched.append en)) :=
    (dropHeldMotion_slotted _ hs).trans (appendEntry_slotted en _)
  unfold placeHeld
  dsimp only
  split
  · split
    · exact replaceHeld_slotted hs hs (.inl rfl)
    · exact hdrop
  · split
    · next hh => exact replaceHeld_slotted hs hs (.inr hh)
    · exact hdrop
  · exact hdrop

theorem completeNow_slotted {en : Entry} {s : State} (hs : (s.chan en.axis).state = .idle) :
    Slotted s (completeNow en s) :=
  (setChan_resting (.inr (.inr hs)) (moveDone_resting _)).trans (deliverEntry_delivery ..).slotted

theorem placeEntry_slotted (en : Entry) (s : State) : Slotted s (placeEntry en s).1 := by
  unfold placeEntry
  split
  · exact (withSched_slotted (q := s.sched.rewrite en) rfl rfl rfl rfl).trans
      (deliverEntry_delivery .byNotice _ .replaced _).slotted
  · split
    · next hs => exact placeHeld_slotted hs
    · split
      · next hc =>
        simp only [completesAtOnce, Bool.and_eq_true, decide_eq_true_eq] at hc
        exact completeNow_slotted hc.1.1
      · exact appendEntry_slotted en s

theorem admission_slotted (en : Entry) (s : State) : Slotted s (admission en s).1 := placeEntry_slotted _ s

theorem motionRequest_slotted (r : Req) (a : Axis) (m : Motion) (p : Option ShiftPart) (k : Bool) (s : State) :
    Slotted s (motionRequest r a m p k s).1 := by
  unfold motionRequest
  split
  · exact .refl s
  · dsimp only
    split
    · exact (admission_slotted _ _).trans (grantPass_slotted _)
    · exact admission_slotted _ _

/-! ### STOP, jogs, loss of reference -/

theorem stopMotion_slotted (a : Axis) (s : State) : Slotted s (stopMotion a s) := by
  unfold stopMotion
  dsimp only
  split
  · next h => exact orderStop_slotted _ (.inl h)
  · next h => exact orderStop_slotted _ (.inr (.inl h))
  · next h => exact orderStop_slotted _ (.inr (.inr h))
  · split
    · exact setChan_slotted rfl fun _ => id
    · exact .refl s
  all_goals exact .refl s

theorem stopHeld_slotted (a : Axis) (s : State) : Slotted s (stopHeld a s) := by
  unfold stopHeld
  split
  · next h => exact dropHeldMotion_slotted _ h
  · exact .refl s

theorem stopEntry_slotted (a : Axis) (s : State) : Slotted s (stopEntry a s) := by
  unfold stopEntry
  split
  · exact removeEntry_slotted _ _ s
  · exact .refl s

theorem stopAxes_slotted (l : List Axis) (s : State) : Slotted s (stopAxes l s) := by
  have h := ((Slotted.foldl (fun s a => stopEntry_slotted a s) l s).trans
    (Slotted.foldl (fun s a => stopHeld_slotted a s) l _)).trans (Slotted.foldl (fun s a => stopMotion_slotted a s) l _)
  unfold stopAxes
  dsimp only
  split
  · exact h.trans (grantPass_slotted _)
  · exact h

theorem loseReference_slotted (a : Axis) (w : FailReason) (s : State) : Slotted s (loseReference a w s) := by
  unfold loseReference
  split
  · split
    · exact .refl s
    · exact removeEntry_slotted _ _ s
  · exact .refl s

theorem becomeAbsent_slotted (a : Axis) (s : State) : Slotted s (becomeAbsent a s) := by
  unfold becomeAbsent
  refine Slotted.trans ?_ (grantPass_slotted _)
  split
  · exact removeEntry_slotted _ _ s
  · exact .refl s

theorem expireQueued_slotted (k : Nat) (a : Axis) (s : State) : Slotted s (expireQueued k a s) := by
  unfold expireQueued
  split
  · split
    · exact removeEntry_slotted _ _ s
    · exact .refl s
  · exact .refl s

theorem expireRunning_slotted (k : Nat) (a : Axis) (s : State) : Slotted s (expireRunning k a s) := by
  unfold expireRunning
  split
  · next h =>
    simp only [recordExpires, Bool.and_eq_true, decide_eq_true_eq] at h
    exact orderStop_slotted _ (.inr (.inr h.1))
  · exact .refl s

/-- Writing a record over a record. -/
theorem setRecord_slotted {a : Axis} {m x : MotionRec} {s : State} (hm : s.sched.records.get a = some m) :
    Slotted s (s.withSched (s.sched.setRecord a (some x))) := fun h => by
  refine h.withSched (fun b => ⟨.rfl, .rfl, .rfl, .rfl, ?_⟩) id
  rw [Scheduler.setRecord, PerAxis.get_set]
  split
  · next e => rw [e, hm]; rfl
  · rfl

theorem recordKeepDown_slotted (a : Axis) (s : State) : Slotted s (recordKeepDown a s) := by
  unfold recordKeepDown
  split
  · split
    · next hm => exact setRecord_slotted hm
    · exact .refl s
  · exact .refl s

theorem keepTick_slotted (s : State) : Slotted s (keepTick s) := by
  have h0 : Slotted s (s.withSched { s.sched with queue := s.sched.queue.map entryKeepDown }) :=
    withSched_slotted rfl rfl rfl rfl
  exact ((h0.trans (Slotted.foldl (fun s a => recordKeepDown_slotted a s) allAxes _)).trans
    (Slotted.foldl (fun s a => expireQueued_slotted 0 a s) allAxes _)).trans
    (Slotted.foldl (fun s a => expireRunning_slotted 0 a s) allAxes _)

theorem restartQueued_slotted (a : Axis) (s : State) : Slotted s (restartQueued a s) := by
  unfold restartQueued
  split
  · exact withSched_slotted rfl rfl rfl rfl
  · exact .refl s

theorem restartRunning_slotted (a : Axis) (s : State) : Slotted s (restartRunning a s) := by
  unfold restartRunning
  split
  · next hm => exact setRecord_slotted hm
  · exact .refl s

theorem jogKeep_slotted (a : Axis) (o : Origin) (s : State) : Slotted s (jogKeep a o s).1 := by
  unfold jogKeep
  split
  · exact .refl s
  · split
    · have h1 : Slotted s (if keepsQueued s a o then restartQueued a s else s) := by
        split
        · exact restartQueued_slotted a s
        · exact .refl s
      dsimp only
      split
      · exact h1.trans (restartRunning_slotted a _)
      · exact h1
    · exact .refl s

/-! ### Axis events -/

theorem settleAndGrant_slotted {a : Axis} {p : Progress} {s : State} (hd : Driving (s.chan a).state) (hp : p.Sound) :
    Slotted s (settleAndGrant a p s) := fun h => by
  have ha := h.axis a
  have hs := (h.but a).settleMotion (ha.drives hd) (ha.not_held hd.ne_held) (ha.has_record (.inl hd)) hp
  cases p with
  | running c => exact hs
  | ended c e => exact grantPass_slotted _ hs

theorem finishStop_slotted {a : Axis} {s : State} (hs : (s.chan a).state = .stopping) :
    Slotted s (finishStop a s) := fun h => by
  have ha := h.axis a
  exact (h.but a).finishStop (ha.not_held (by simp [hs])) (ha.has_record (.inr (.inl hs)))

theorem stopStep_slotted {a : Axis} {s : State} (hs : (s.chan a).state = .stopping) : Slotted s (stopStep a s) := by
  have h1 (rp : RampPos) : Slotted s (s.setChan a { (s.chan a).microstep with ramp := rp }) :=
    setChan_slotted rfl fun _ => id
  unfold stopStep
  dsimp only
  split
  · refine (h1 _).trans (finishStop_slotted ?_)
    rw [State.setChan_chan, if_pos rfl]
    exact hs
  · exact h1 _

theorem axisStep_slotted (a : Axis) (s : State) : Slotted s (axisStep a s) := by
  unfold axisStep
  dsimp only
  split
  · next h => exact settleAndGrant_slotted (.inl h) (moveStep_sound (.inl h))
  · next h => exact settleAndGrant_slotted (.inr (.inr h)) (jogStep_sound (.inr (.inr h)))
  · next h => exact settleAndGrant_slotted (.inr (.inl h)) (homeStep_sound (.inr (.inl h)))
  · next h => exact stopStep_slotted h
  all_goals exact .refl s

theorem switchAsserted_slotted (a : Axis) (s : State) : Slotted s (switchAsserted a s) := by
  unfold switchAsserted
  dsimp only
  split
  · next h =>
    split
    · exact settleAndGrant_slotted (.inr (.inl h)) (slowFast_sound (.inr (.inl h)) _ _)
    all_goals exact .refl s
  · exact .refl s

theorem stopResync_slotted {a : Axis} {c : Channel} {s : State} (hs : (s.chan a).state = .stopping)
    (hc : c.state = .stopping) : Slotted s (stopResync a c s) := by
  have h1 (x : Channel) (hx : x.state = .stopping) : Slotted s (s.setChan a x) :=
    setChan_slotted (hx.trans hs.symm) fun k => by simp [hs] at k
  unfold stopResync
  dsimp only
  split
  · exact h1 _ hc
  · refine (h1 c hc).trans (finishStop_slotted ?_)
    rw [State.setChan_chan, if_pos rfl]
    exact hc

theorem resync_slotted (a : Axis) (s : State) : Slotted s (resync a s) := by
  unfold resync
  dsimp only
  split
  · exact .refl s
  · split
    · next h => exact settleAndGrant_slotted (.inl h) (moveResync_sound (.inl h))
    · next h => exact settleAndGrant_slotted (.inr (.inr h)) (jogResync_sound (.inr (.inr h)))
    · next h => exact stopResync_slotted h h
    all_goals exact .refl s

theorem removeEntry_chan (en : Entry) (e : Ending) (s : State) (b : Axis) : (removeEntry en e s).chan b = s.chan b := by
  unfold removeEntry
  simp [State.chan, (deliverEntry_delivery ..).axes]

theorem loseReference_chan (a : Axis) (w : FailReason) (s : State) (b : Axis) :
    (loseReference a w s).chan b = s.chan b := by
  unfold loseReference
  split
  · split
    · rfl
    · exact removeEntry_chan _ _ s b
  · rfl

theorem DeliveryFrame.chan {s t : State} (h : DeliveryFrame s t) (b : Axis) : t.chan b = s.chan b := by
  simp [State.chan, h.axes]

theorem lostStep_slotted {a : Axis} {s : State} (hs : Driving (s.chan a).state ∨ (s.chan a).state = .stopping) :
    Slotted s (lostStep a s) := by
  have h1 : Slotted s (loseReference a .lost (uncurrent a (s.setChan a { s.chan a with referenced := false }))) := by
    refine Slotted.trans ?_ (loseReference_slotted a .lost _)
    refine Slotted.trans ?_ (uncurrent_delivery a _).slotted
    exact setChan_slotted rfl fun _ => id
  have hchan : ((loseReference a .lost (uncurrent a (s.setChan a { s.chan a with referenced := false }))).chan a).state
      = (s.chan a).state := by
    rw [loseReference_chan, (uncurrent_delivery a _).chan, State.setChan_chan, if_pos rfl]
  unfold lostStep
  dsimp only
  split
  · exact h1.trans (setChan_slotted rfl fun _ => id)
  · next hn =>
    rw [hchan] at hn
    refine h1.trans (orderStop_slotted _ ?_)
    rw [hchan]
    exact hs.resolve_right hn

theorem checksEdge_state {c : Channel} (h : c.checksEdge = true) : Driving c.state ∨ c.state = .stopping := by
  unfold Channel.checksEdge at h
  rw [Bool.and_eq_true] at h
  have h2 := h.2
  cases hc : c.state <;> simp [hc, Driving] at h2 ⊢

theorem switchReleased_slotted (a : Axis) (s : State) : Slotted s (switchReleased a s) := by
  unfold switchReleased
  dsimp only
  split
  · next h =>
    split
    · exact settleAndGrant_slotted (p := .ended (s.chan a).homed .done) (.inr (.inl h)) (.inr (.inr rfl))
    all_goals exact .refl s
  · split
    · next h =>
      split
      · exact resync_slotted a s
      · exact lostStep_slotted (checksEdge_state h)
    · exact .refl s

theorem homeFilterDone_slotted (a : Axis) (s : State) : Slotted s (homeFilterDone a s) := by
  have hc : Slotted s (s.setChan a (s.chan a).switchTaken) := setChan_slotted rfl fun _ => id
  unfold homeFilterDone
  dsimp only
  split
  · split
    · exact hc.trans (switchAsserted_slotted a _)
    · exact hc.trans (switchReleased_slotted a _)
  · exact .refl s

theorem holdTick_standing (c : Channel) :
    c.holdTick.state = c.state ∧ c.holdTick.target = c.target ∧ c.holdTick.heldHome = c.heldHome := by
  unfold Channel.holdTick
  split
  · exact ⟨rfl, rfl, rfl⟩
  · split
    · exact ⟨rfl, rfl, rfl⟩
    · split <;> exact ⟨rfl, rfl, rfl⟩

theorem holdTick_slotted (s : State) (a : Axis) : Slotted s (s.setChan a (s.chan a).holdTick) := by
  obtain ⟨h1, h2, h3⟩ := holdTick_standing (s.chan a)
  exact setChan_slotted h1 fun _ k => by rw [h2, h3]; exact k

theorem holdTicks_eq (s : State) : holdTicks s = allAxes.foldl (fun s a => s.setChan a (s.chan a).holdTick) s := rfl

theorem holdTicks_slotted (s : State) : Slotted s (holdTicks s) := by
  rw [holdTicks_eq]
  exact Slotted.foldl holdTick_slotted allAxes s

theorem coilRelease_slotted (a : Axis) (s : State) : Slotted s (coilRelease a s) := by
  unfold coilRelease
  split
  · exact holdTick_slotted s a
  · exact .refl s

/-! ### Settings -/

theorem settable_resting {st : AxisState} (h : settable st = true) : Resting st := by
  cases st <;> simp [settable, Resting] at h ⊢

theorem axisGone_slotted {a : Axis} (x : Settings) {s : State} (hs : Resting (s.chan a).state) :
    Slotted s (axisGone a x s) := by
  have hc : Slotted s (s.setChan a { (s.chan a).release with settings := x, referenced := false, state := .absent }) :=
    setChan_resting hs (.inl rfl)
  unfold axisGone
  dsimp only
  refine Slotted.trans ?_ (becomeAbsent_slotted a _)
  split
  · exact hc.trans (writeDemand_delivery _ _ _).slotted
  · exact hc

theorem axisFitted_slotted {a : Axis} (x : Settings) {s : State} (hs : Resting (s.chan a).state) :
    Slotted s (axisFitted a x s) := by
  have hc : Slotted s (s.setChan a { s.chan a with settings := x, state := .unreferenced, position := 0 }) :=
    setChan_resting hs (.inr (.inl rfl))
  unfold axisFitted
  dsimp only
  split
  · exact hc.trans (writeDemand_delivery _ _ _).slotted
  · exact hc

theorem axisUnreferenced_slotted {a : Axis} {s : State} (hs : Resting (s.chan a).state) :
    Slotted s (axisUnreferenced a s) := by
  refine Slotted.trans ?_ (loseReference_slotted a .settings _)
  refine Slotted.trans ?_ (uncurrent_delivery a _).slotted
  refine setChan_resting hs ?_
  dsimp only
  split
  · exact .inr (.inl rfl)
  · exact hs

theorem axisRecentred_slotted (a : Axis) (s : State) : Slotted s (axisRecentred a s) := by
  unfold axisRecentred
  split <;> exact (writeDemand_delivery _ _ _).slotted

theorem axisKept_slotted {a : Axis} (x : Settings) {s : State} (hs : Resting (s.chan a).state) :
    Slotted s (axisKept a x s) := by
  have hc : Slotted s (s.setChan a { s.chan a with settings := x }) := setChan_slotted rfl fun _ => id
  have hs1 : Resting ((s.setChan a { s.chan a with settings := x }).chan a).state := by
    rw [State.setChan_chan, if_pos rfl]
    exact hs
  unfold axisKept
  dsimp only
  split
  · refine Slotted.trans ?_ (axisRecentred_slotted a _)
    split
    · exact hc.trans (axisUnreferenced_slotted hs1)
    · exact hc
  · split
    · exact hc.trans (axisUnreferenced_slotted hs1)
    · exact hc

theorem applySettings_slotted {a : Axis} (x : Settings) {s : State} (hs : settable (s.chan a).state = true) :
    Slotted s (applySettings a x s) := by
  have h := settable_resting hs
  unfold applySettings
  split
  · exact axisGone_slotted x h
  · exact axisFitted_slotted x h
  all_goals exact axisKept_slotted x h

/-! ### Recall and tracking -/

theorem recallAxis_slotted (r : Req) (n : Byte) (p : Picture) (s : State) (a : Axis) :
    Slotted s (recallAxis r n p s a) := by
  unfold recallAxis
  split
  · exact (joinOutstanding_delivery a s).slotted.trans (admission_slotted _ _)
  · exact (writeDemand_delivery _ _ _).slotted
  · exact .refl s

theorem startRecall_slotted (r : Req) (slot : Byte) (p : Picture) (s : State) : Slotted s (startRecall r slot p s) := by
  unfold startRecall
  have hopen : Slotted s (openRecall r slot p (supersedeRecall s)) :=
    (supersedeRecall_delivery s).slotted.trans (withRecall_delivery _ _).slotted
  exact ((hopen.trans (Slotted.foldl (recallAxis_slotted r _ p) allAxes _)).trans
    (endPlacing_delivery _).slotted).trans (grantPass_slotted _)

theorem placeCorrection_slotted (c : Int) (s : State) : Slotted s (placeCorrection c s) := by
  unfold placeCorrection
  dsimp only
  split
  · exact (withTrack_calm _ s).slotted
  · split
    · exact (withTrack_calm _ s).slotted
    · exact ((withTrack_calm _ s).slotted.trans (admission_slotted _ _)).trans (grantPass_slotted _)

theorem trackActive_slotted (tRef : Int) (s : State) : Slotted s (trackActive tRef s) := by
  unfold trackActive
  dsimp only
  split
  · exact (withTrack_calm _ s).slotted
  · refine Slotted.trans ?_ (placeCorrection_slotted _ _)
    exact (withTrack_calm _ s).slotted

theorem trackTick_slotted (s : State) : Slotted s (trackTick s) := by
  unfold trackTick
  dsimp only
  split
  · split
    · refine Slotted.trans ?_ (trackActive_slotted _ _)
      exact (withTrack_calm _ s).slotted
    · exact ((withTrack_calm _ s).slotted).trans (takeUpReference_delivery _).slotted
  · split
    · exact (withTrack_calm _ s).slotted
    · exact ((withTrack_calm _ s).slotted).trans (trackUnreferenced_delivery _).slotted

end Sys2Proof.Machine
end

section
/-! PROOFS. The slots through the phases, the resets and every other command, and the axes in motion counted. -/

namespace Sys2Proof.Machine

/-! ### Cooling and phases -/

theorem coolRefresh_slotted (s : State) : Slotted s (coolRefresh s) := .of_eq (coolRefresh_axes s) (coolRefresh_sched s)

theorem withCool_slotted (x : Cooling) (s : State) : Slotted s (s.withCool x) := .of_eq rfl rfl

theorem withPhase_slotted (x : PhaseRec) (s : State) : Slotted s (s.withPhase x) := .of_eq rfl rfl

theorem withMeas_slotted (x : Measure) (s : State) : Slotted s (s.withMeas x) := .of_eq rfl rfl

theorem raiseBoth_slotted (e : Event) (s : State) : Slotted s (raiseBoth e s) := (raiseBoth_calm e s).slotted

theorem setPhase_slotted (p : Phase) (why : Reason) (ramp : Option Nat) (s : State) :
    Slotted s (setPhase p why ramp s) := by
  have h0 : Slotted s (followLines (s.withPhase { s.phase with phase := p, reason := why, rampLevel := ramp })) :=
    .of_eq rfl rfl
  refine ((h0.trans (raiseBoth_slotted .phase _)).trans (coolRefresh_slotted _)).trans ?_
  refine Slotted.trans (t := handTracker p (phaseRefreshed p why ramp s)) ?_ (allowanceChanged_slotted _ _)
  unfold handTracker
  split
  · exact (takeUpReference_delivery _).slotted
  · exact .refl _

theorem placeParkOf_slotted (l : PerAxis (Option Nat)) (s : State) (a : Axis) : Slotted s (placeParkOf l s a) := by
  unfold placeParkOf
  split
  · exact admission_slotted _ s
  · exact .refl s

theorem startPark_slotted (s : State) : Slotted s (startPark s) := by
  unfold startPark
  dsimp only
  refine Slotted.trans ?_ (grantPass_slotted _)
  refine Slotted.trans ?_ (parkSettle_delivery _).slotted
  refine Slotted.trans ?_ (withPhase_slotted _ _)
  refine Slotted.trans ?_ (Slotted.foldl (placeParkOf_slotted _) allAxes _)
  exact withPhase_slotted _ s

theorem endPark_slotted (s : State) : Slotted s (endPark s) := by
  unfold endPark
  split
  · exact withPhase_slotted _ s
  · exact .refl s

theorem withdrawParkEntry_slotted (a : Axis) (s : State) : Slotted s (withdrawParkEntry a s) := by
  unfold withdrawParkEntry
  split
  · split
    · exact removeEntry_slotted _ _ s
    · exact .refl s
  · exact .refl s

theorem dropParkHeld_slotted (a : Axis) (s : State) : Slotted s (dropParkHeld a s) := by
  unfold dropParkHeld
  split
  · next h =>
    split
    · split
      · exact dropHeldMotion_slotted _ h
      · exact .refl s
    · exact .refl s
  · exact .refl s

theorem withdrawPark_slotted (s : State) (a : Axis) : Slotted s (withdrawPark s a) :=
  (withdrawParkEntry_slotted a s).trans (dropParkHeld_slotted a _)

theorem endParkForWarmup_slotted (s : State) : Slotted s (endParkForWarmup s) := by
  have hfold := (endPark_slotted s).trans (Slotted.foldl withdrawPark_slotted allAxes _)
  unfold endParkForWarmup
  dsimp only
  split
  · exact hfold.trans (grantPass_slotted _)
  · exact hfold

theorem enterCooldown_slotted (why : Reason) (s : State) : Slotted s (enterCooldown why s) := by
  have h := (withPhase_slotted { s.phase with coolTimer := 0, restrike := false } s).trans
    (setPhase_slotted .cooldown why none _)
  unfold enterCooldown
  dsimp only
  split
  · exact h.trans (startPark_slotted _)
  · exact h

theorem enterWarmup_slotted (s : State) : Slotted s (enterWarmup s) :=
  (withPhase_slotted _ s).trans (setPhase_slotted _ _ _ _)

theorem restrikeNow_slotted (s : State) : Slotted s (restrikeNow s) :=
  ((withPhase_slotted _ s).trans (endParkForWarmup_slotted _)).trans (enterWarmup_slotted _)

theorem enterFault_slotted (why : Reason) (s : State) : Slotted s (enterFault why s) := by
  unfold enterFault
  split
  · exact .refl s
  · exact ((withPhase_slotted _ s).trans (endPark_slotted _)).trans (setPhase_slotted _ _ _ _)

theorem coolTimers_slotted (s : State) : Slotted s (coolTimers s) := by
  unfold coolTimers
  dsimp only
  split
  · split
    · exact (withPhase_slotted _ s).trans (endPark_slotted _)
    · exact withPhase_slotted _ s
  · exact withPhase_slotted _ s

theorem coolDownTick_slotted (s : State) : Slotted s (coolDownTick s) := by
  refine (coolTimers_slotted s).trans ?_
  rcases coolDownTick_cases s with ⟨-, -, h⟩ | ⟨-, ⟨-, -, h⟩ | ⟨-, h⟩ | h⟩ <;> rw [h]
  · exact restrikeNow_slotted _
  · exact setPhase_slotted _ _ _ _
  · exact enterFault_slotted _ _
  · exact .refl _

theorem warmupTick_slotted (s : State) : Slotted s (warmupTick s) := by
  unfold warmupTick
  split
  · unfold rampRiseStep
    dsimp only
    split
    · exact (withPhase_slotted _ s).trans (setPhase_slotted _ _ _ _)
    · exact (withPhase_slotted _ s).trans (coolRefresh_slotted _)
  · exact withPhase_slotted _ s

theorem phaseTick_slotted (s : State) : Slotted s (phaseTick s) := by
  unfold phaseTick
  split
  · exact warmupTick_slotted s
  · exact coolDownTick_slotted s
  all_goals exact .refl s

theorem scanComplete_slotted (s : State) : Slotted s (scanComplete s) := by
  unfold scanComplete
  split
  · split
    · exact enterCooldown_slotted _ s
    · split
      · split
        · exact enterCooldown_slotted _ s
        · exact setPhase_slotted _ _ _ _
      · exact setPhase_slotted _ _ _ _
  · exact .refl s

theorem followLines_slotted (s : State) : Slotted s (followLines s) := withPhase_slotted _ s

theorem tripInPhase_slotted (s : State) : Slotted s (tripInPhase s) := by
  have h := followLines_slotted s
  unfold tripInPhase
  dsimp only
  split
  · exact h
  · exact h.trans (enterCooldown_slotted _ _)
  · exact h.trans (enterCooldown_slotted _ _)
  · exact h.trans (enterCooldown_slotted _ _)
  · exact h.trans (withPhase_slotted _ _)
  · exact h

theorem criticalHanded_slotted (s : State) : Slotted s (criticalHanded s) := by
  unfold criticalHanded
  split
  · exact enterCooldown_slotted _ s
  · exact enterCooldown_slotted _ s
  · exact withPhase_slotted _ s
  all_goals exact .refl s

theorem failedSetEffects_slotted (old : PerFan FanRec) (s : State) : Slotted s (failedSetEffects old s) := by
  unfold failedSetEffects
  split
  · refine Slotted.trans ?_ (coolRefresh_slotted _)
    unfold failedHanded
    dsimp only
    split
    · exact (withPhase_slotted _ s).trans (enterFault_slotted _ _)
    · exact withPhase_slotted _ s
  · exact .refl s

theorem writeFan_slotted (f : Fan) (b : Bool) (z : PerZone Bool) (p : FanParams) (s : State) :
    Slotted s (writeFan f b z p s) :=
  ((withCool_slotted _ s).trans (failedSetEffects_slotted _ _)).trans (coolRefresh_slotted _)

theorem changeOrientation_slotted (o : Orientation) (s : State) : Slotted s (changeOrientation o s) := by
  unfold changeOrientation
  split
  · exact .refl s
  · have h0 : Slotted s (writeInputs { s.geom.inputs with orientation := o } s) :=
      .of_eq (writeInputs_axes _ s) (writeInputs_sched _ s)
    exact ((h0.trans (uncurrent_delivery .sh _).slotted).trans (uncurrent_delivery .sv _).slotted).trans
      (coolRefresh_slotted _)

theorem writeCurve_slotted (o : Orientation) (z : Zone) (l : List CurvePoint) (s : State) :
    Slotted s (writeCurve o z l s) := by
  cases o <;> exact (withCool_slotted _ s).trans (coolRefresh_slotted _)

theorem quietRequest_slotted (on : Bool) (cap level : Nat) (s : State) : Slotted s (quietRequest on cap level s).1 := by
  unfold quietRequest
  split
  · exact (withCool_slotted _ s).trans (coolRefresh_slotted _)
  · exact .refl s

theorem changePanel_slotted (w h g : Nat) (s : State) : Slotted s (changePanel w h g s) :=
  .of_eq (recompute_axes _) (recompute_sched _)

theorem lightOnRequest_slotted (s : State) : Slotted s (lightOnRequest s).1 := by
  rcases lightOnRequest_cases s with h | ⟨-, ⟨-, h⟩ | ⟨-, h | h⟩⟩ <;> rw [h]
  · exact .refl s
  · exact enterWarmup_slotted s
  · exact restrikeNow_slotted s
  · exact withPhase_slotted _ s

theorem lightOffEffect_slotted (s : State) : Slotted s (lightOffEffect s) := by
  unfold lightOffEffect
  split
  · exact enterCooldown_slotted _ s
  · exact enterCooldown_slotted _ s
  · exact withPhase_slotted _ s
  all_goals exact .refl s

theorem clearFaultRequest_slotted (s : State) : Slotted s (clearFaultRequest s).1 := by
  unfold clearFaultRequest
  split
  · split
    · exact .refl s
    · exact enterCooldown_slotted _ s
  · exact .refl s

/-! ### Measurement and ticks -/

theorem deliverReading_slotted (ch : Chan) (r : Reading) (s : State) : Slotted s (deliverReading ch r s) := by
  have h : Slotted s (coolReading ch r s) := (withCool_slotted _ s).trans (coolRefresh_slotted _)
  unfold deliverReading
  dsimp only
  split
  · refine h.trans (Slotted.trans ?_ (allowanceChanged_slotted _ _))
    exact withSched_slotted rfl rfl rfl rfl
  · exact h.trans (withTrack_calm _ _).slotted
  all_goals exact h

theorem takeConverted_slotted (ch : Chan) (x : Converted) (s : State) : Slotted s (takeConverted ch x s) := by
  unfold takeConverted
  dsimp only
  split
  · exact (withMeas_slotted _ s).trans (deliverReading_slotted _ _ _)
  · exact withMeas_slotted _ s

theorem passEnd_slotted (s : State) : Slotted s (passEnd s) := by
  unfold passEnd
  split
  · exact (withMeas_slotted _ s).trans (scanComplete_slotted _)
  · exact .refl s

theorem ageChannel_slotted (s : State) (ch : Chan) : Slotted s (ageChannel s ch) := takeConverted_slotted _ _ s

theorem conversionComplete_slotted (code : Nat) (s : State) : Slotted s (conversionComplete code s) := by
  have h (x : Measure) (y : Converted) : Slotted s (takeConverted s.meas.scan y (s.withMeas x)) :=
    (withMeas_slotted _ s).trans (takeConverted_slotted _ _ _)
  unfold conversionComplete
  dsimp only
  split
  · exact Slotted.trans (h _ _) (passEnd_slotted _)
  · exact h _ _

theorem sensorSubstitution_slotted (ch : Chan) (s : State) : Slotted s (sensorSubstitution ch s) := by
  unfold sensorSubstitution
  split
  · exact ageChannel_slotted s ch
  · exact .refl s

theorem tripLatchSet_slotted (c : Comp) (s : State) : Slotted s (tripLatchSet c s) := by
  unfold tripLatchSet
  dsimp only
  split
  · exact (((withMeas_slotted _ s).trans (raiseBoth_slotted _ _)).trans (tripInPhase_slotted _)).trans
      (coolRefresh_slotted _)
  · exact .refl s

theorem clearTripRequest_slotted (l : List Comp) (s : State) : Slotted s (clearTripRequest l s).1 := by
  unfold clearTripRequest
  split
  · exact .refl s
  · split
    · exact ((withMeas_slotted _ s).trans (followLines_slotted _)).trans (coolRefresh_slotted _)
    · exact .refl s

theorem zonesWritten_slotted (s : State) : Slotted s (zonesWritten s) := by
  unfold zonesWritten
  dsimp only
  split
  · exact (withCool_slotted _ s).trans (raiseBoth_slotted _ _)
  · exact withCool_slotted _ s

theorem evaluateZones_slotted (s : State) : Slotted s (evaluateZones s) := by
  rw [evaluateZones_eq]
  refine Slotted.trans ?_ (coolRefresh_slotted _)
  refine Slotted.trans ?_ (Slotted.foldl (fun s z => ?_) allZones _)
  · refine (zonesWritten_slotted s).trans (Slotted.foldl (fun s z => ?_) allZones _)
    unfold handCritical
    split
    · exact criticalHanded_slotted s
    · exact .refl s
  · unfold handPersisted
    split
    · exact enterFault_slotted _ s
    · exact .refl s

theorem criticalPersisted_slotted (z : Zone) (s : State) : Slotted s (criticalPersisted z s) := by
  unfold criticalPersisted
  dsimp only
  split
  · exact (withCool_slotted _ s).trans (enterFault_slotted _ _)
  · exact .refl s

theorem superviseFans_slotted (s : State) : Slotted s (superviseFans s) := by
  rw [superviseFans_eq]
  exact ((withCool_slotted _ s).trans (fansJudged_calm s).slotted).trans (failedSetEffects_slotted _ _)

theorem takeTick_slotted (k : Taker) (s : State) : Slotted s (takeTick s k) := by
  cases k with
  | holdTimers => exact holdTicks_slotted s
  | keepCounts => exact keepTick_slotted s
  | tachAndSlew => exact .of_eq rfl rfl
  | failureAges => exact Slotted.foldl ageChannel_slotted allChans s
  | zones => exact evaluateZones_slotted s
  | supervision => exact superviseFans_slotted s
  | phaseTimers => exact phaseTick_slotted s
  | tracking => exact trackTick_slotted s

/-! ### Every command -/

theorem resetAxes_resting (q : PerAxis Channel) (a : Axis) : Resting ((axesAfterReset q).get a).state := by
  cases a
  · exact .inr (.inl rfl)
  · exact .inr (.inl rfl)
  · exact .inr (.inl rfl)
  · exact .inr (.inl rfl)

theorem deviceReset_slotted (cause : ResetCause) (addr : Bool) (s : State) : Slotted s (deviceReset cause addr s) :=
  fun _ =>
    (slotsAgree_iff _).mpr
      ⟨fun a => agrees_resting ⟨nofun, nofun⟩ List.not_mem_nil (by cases a <;> rfl) (resetAxes_resting s.axes a),
        List.nodup_nil⟩

/-- Every operation keeps the slots, the held list and the records on their axes. -/
theorem slotted_respected : Respected Slotted where
  refl := .refl
  trans := .trans
  pending _ _ := .of_eq rfl rfl
  respond _ _ _ _ := (setPort_calm _ _ _).slotted
  afterRead _ _ := (setPort_calm _ _ _).slotted
  mask _ _ _ := (setPort_calm _ _ _).slotted
  unit _ _ _ := (setPort_calm _ _ _).slotted
  read _ _ _ := (setPort_calm _ _ _).slotted
  deviceReset := deviceReset_slotted
  presence x s := (withPresence_calm x s).slotted
  picturePortReset c s := (picturePortReset_calm c s).slotted
  powerLost _ := .of_eq rfl rfl
  motionRequest := motionRequest_slotted
  demandAbsent _ _ _ := (writeDemand_delivery ..).slotted
  jogKeep := jogKeep_slotted
  stopAxes := stopAxes_slotted
  applySettings _ x _ h := applySettings_slotted x h
  table _ _ _ := setChan_slotted rfl fun _ => id
  startRecall := startRecall_slotted
  beginWrite _ _ _ _ _ _ := .of_eq rfl rfl
  writeDone s := (writeDone_calm s).slotted
  keystone kv kh s := (keystoneRequest_delivery kv kh s).slotted
  orientation := changeOrientation_slotted
  panel := changePanel_slotted
  mode m s := (changeMode_calm m s).slotted
  zone _ _ _ s := (withCool_slotted _ s).trans (coolRefresh_slotted _)
  curve := writeCurve_slotted
  fan := writeFan_slotted
  quiet := quietRequest_slotted
  thermTable b l s := (writeTable_calm b l s).slotted
  comparator _ _ s _ := withMeas_slotted _ s
  clearTrip := clearTripRequest_slotted
  lightOn := lightOnRequest_slotted
  lightOff := lightOffEffect_slotted
  clearFault := clearFaultRequest_slotted
  tracking p s := (writeTracking_calm p s).slotted
  switch _ _ _ := setChan_slotted rfl fun _ => id
  homeFilter := homeFilterDone_slotted
  axisStep := axisStep_slotted
  divider _ _ := .of_eq rfl rfl
  tick := takeTick_slotted
  coilRelease := coilRelease_slotted
  expireQueued := expireQueued_slotted
  expireRunning := expireRunning_slotted
  criticalPersisted := criticalPersisted_slotted
  substitution := sensorSubstitution_slotted
  coolDownTick s _ := coolDownTick_slotted s
  warmupTick s _ := warmupTick_slotted s
  conversion := conversionComplete_slotted
  tripLatch := tripLatchSet_slotted
  tach _ s := withMeas_slotted _ s
  frameStrobe s := (frameStrobe_calm s).slotted
  bandStrobe s := (bandStrobe_calm s).slotted
  wordSent s := (wordSent_calm s).slotted
  computeDone s := (computeDone_calm s).slotted

/-! ### Axes in motion -/

theorem inMotion_iff (st : AxisState) : inMotion st = true ↔ Driving st ∨ st = .stopping := by
  cases st <;> simp [inMotion, Driving]

/-- An axis is in motion when a slot is taken by it (R29). -/
theorem SlotsAgree.inMotion_iff_holder {s : State} (h : SlotsAgree s) (a : Axis) :
    inMotion (s.chan a).state = true ↔ s.sched.slot1.holder = some a ∨ s.sched.slot2.holder = some a := by
  rw [inMotion_iff, ← (h.axis a).granted, ← (h.axis a).rundown, holder_eq_some_iff, holder_eq_some_iff]
  exact or_or_or_comm

theorem filter_holder_length (x : Option Axis) :
    ([Axis.sh, .sv, .zm, .fc].filter fun a => decide (x = some a)).length = x.isSome.toNat := by
  cases x with
  | none => rfl
  | some b => cases b <;> rfl

/-- The axes two slots are taken by, when they are not one axis, are as many as the slots taken. -/
theorem filter_holders_length {x y : Option Axis} (h : ∀ a, ¬(x = some a ∧ y = some a)) :
    ([Axis.sh, .sv, .zm, .fc].filter fun a => decide (x = some a ∨ y = some a)).length =
      x.isSome.toNat + y.isSome.toNat := by
  rw [← filter_holder_length x, ← filter_holder_length y, ← List.countP_eq_length_filter,
    ← List.countP_eq_length_filter, ← List.countP_eq_length_filter]
  have hcount (l : List Axis) :
      l.countP (fun a => decide (x = some a ∨ y = some a)) =
        l.countP (fun a => decide (x = some a)) + l.countP (fun a => decide (y = some a)) := by
    induction l with
    | nil => rfl
    | cons a l ih =>
      have ha := h a
      simp only [List.countP_cons, ih, decide_eq_true_eq]
      by_cases hx : x = some a <;> by_cases hy : y = some a <;> simp_all <;> omega
  exact hcount _

theorem slotsTaken_eq (q : Scheduler) : slotsTaken q = q.slot1.holder.isSome.toNat + q.slot2.holder.isSome.toNat := by
  have h (sl : Slot) : decide (sl ≠ .free) = sl.holder.isSome := by cases sl <;> rfl
  rw [slotsTaken, h, h]

theorem SlotsAgree.motion_count {s : State} (h : SlotsAgree s) :
    ([Axis.sh, .sv, .zm, .fc].filter fun a => inMotion (s.chan a).state).length = slotsTaken s.sched := by
  have hp (a : Axis) : inMotion (s.chan a).state =
      decide (s.sched.slot1.holder = some a ∨ s.sched.slot2.holder = some a) := by
    rw [Bool.eq_iff_iff, decide_eq_true_eq]
    exact h.inMotion_iff_holder a
  simp only [hp]
  rw [filter_holders_length fun a => h.distinct a, slotsTaken_eq]

/-- Settles O7: every operation keeps the grants within the allowance and the shares of the axes, and an axis is in motion
exactly when one of the two slots is taken by it. -/
theorem grantsWithinKept : Obligations.GrantsWithinKept :=
  ⟨fun _ _ hs ht => (step_guards ht).grants hs, fun _ _ hs ht => slotted_respected.of_step ht hs,
    fun _ hs => ⟨hs.motion_count, Nat.add_le_add (Bool.toNat_le _) (Bool.toNat_le _)⟩⟩

end Sys2Proof.Machine
end

section
/-! PROOFS. The reset state, the gate of a request, and the codes of the parameters (R177, R178, R182, R188, R190). -/

namespace Sys2Proof.Machine

/-! ### The queue and the reset state -/

/-- Settles O1: both clauses are the two arms of a step. -/
theorem stepTakesFront : Obligations.StepTakesFront := ⟨fun _ _ _ => rfl, fun _ => rfl⟩

theorem reset_slotsAgree : SlotsAgree State.reset :=
  (slotsAgree_iff _).mpr
    ⟨fun a => agrees_resting ⟨nofun, nofun⟩ List.not_mem_nil (by cases a <;> rfl)
      (by cases a <;> exact .inr (.inl rfl)), List.nodup_nil⟩

theorem reset_lightSafe : LightSafe State.reset :=
  ⟨⟨rfl, rfl, rfl⟩, fun _ => rfl, (fun k => nomatch k), fun k => nomatch k⟩

/-- The engine fills bank A after a reset, and no bank is live (R84, R188). -/
theorem reset_engineSafe : EngineSafe State.reset :=
  ⟨.a, rfl, nofun, fun m hm => by cases m; rfl; cases hm⟩

/-- Settles O2: the values of the reset state, block by block. -/
theorem resetIsSafe : Obligations.ResetIsSafe :=
  ⟨reset_lightSafe, fun p => by cases p <;> exact resetPort_portSafe, reset_engineSafe, ⟨rfl, rfl⟩, Nat.zero_le _,
    reset_slotsAgree, List.nodup_nil, fun a => by cases a <;> exact resetChannel_follow _ false, ⟨rfl, rfl⟩,
    Nat.zero_le _, rfl⟩

/-! ### Every command goes on -/

theorem malformed_next (r : Req) (s : State) : ∃ t, malformed r s = .next t := by
  unfold malformed
  split <;> exact ⟨_, rfl⟩

/-- A request whose counts of values are those of its frame is its own rules behind the gate. -/
theorem exec_eq_request {i : Instr} {r : Req} {c : Privilege} (hi : requestOf i = some (r, c))
    (hw : wellCounted i = true) (hs : ∀ x, i ≠ .softReset x) (s : State) : ∃ f, exec i s = request r c s f := by
  cases i with
  | softReset x => exact absurd rfl (hs x)
  | setRamp x a l =>
    cases hi
    exact ⟨_, if_pos (of_decide_eq_true hw)⟩
  | setCurve x a b l =>
    cases hi
    exact ⟨_, if_pos (of_decide_eq_true hw)⟩
  | setThermTable x a l =>
    cases hi
    exact ⟨_, if_pos (of_decide_eq_true hw)⟩
  | _ =>
    cases hi <;> (dsimp only [exec, execGetIdent, execGetStatus, execReadEvents, execSetMask, execSetUnits, execResync,
      execMove, execShift, execHome, execJog, execJogKeep, execStop, execGetAxis, execGetQueue,
      execGetShift, execSetAxis, execRecall, execStore, execErase, execGetMemory, execSetKeystone,
      execSetOrientation, execSetPanel, execGetGeometry, execSetStream, execReadGrid, execGetStream,
      execSetZone, execSetFan, execSetQuiet, execSetTrip, execClearTrip, execGetSensors, execGetThermTable,
      execGetThermal, execGetCurve, execLightOn, execLightOff, execClearFault, execGetPhase,
      execSetTracking, execGetTracking, reading]; exact ⟨_, rfl⟩)

theorem malformed_ignored {r : Req} {s : State} (h : portTakes s r.port = false) : malformed r s = .next s := by
  simp [malformed, h]

/-- A port that takes no transaction ignores every request (R177). -/
theorem exec_ignored {i : Instr} {r : Req} {c : Privilege} (hi : requestOf i = some (r, c)) {s : State}
    (h : portTakes s r.port = false) : exec i s = .next s := by
  by_cases hw : wellCounted i = true
  · by_cases hs : ∃ x, i = .softReset x
    · obtain ⟨x, rfl⟩ := hs
      cases hi
      simp [exec, execSoftReset, h]
    · obtain ⟨f, hf⟩ := exec_eq_request hi hw (fun x hx => hs ⟨x, hx⟩) s
      rw [hf, request_ignored h]
  · cases i with
    | setRamp x a l =>
      cases hi
      exact (if_neg fun k => hw (decide_eq_true k)).trans (malformed_ignored h)
    | setCurve x a b l =>
      cases hi
      exact (if_neg fun k => hw (decide_eq_true k)).trans (malformed_ignored h)
    | setThermTable x a l =>
      cases hi
      exact (if_neg fun k => hw (decide_eq_true k)).trans (malformed_ignored h)
    | _ => exact absurd rfl hw

/-- Settles O11: requests answer, events go on, and the commands that are neither answer a state outright. -/
theorem noCommandStops : Obligations.NoCommandStops := by
  intro i s
  have hrequest {r : Req} {c : Privilege} (hi : requestOf i = some (r, c)) : ∃ t, exec i s = .next t := by
    cases htakes : portTakes s r.port with
    | false => exact ⟨s, exec_ignored hi htakes⟩
    | true =>
      by_cases hw : wellCounted i = true
      · by_cases hs : ∃ x, i = .softReset x
        · obtain ⟨x, rfl⟩ := hs
          show ∃ t, execSoftReset x s = .next t
          unfold execSoftReset
          split
          · split <;> exact ⟨_, rfl⟩
          · exact ⟨_, rfl⟩
        · obtain ⟨f, hf⟩ := exec_eq_request hi hw (fun x hx => hs ⟨x, hx⟩) s
          rw [hf]
          exact request_next r c s f
      · cases i with
        | setRamp x a l =>
          obtain ⟨t, ht⟩ := malformed_next x s
          exact ⟨t, (if_neg fun k => hw (decide_eq_true k)).trans ht⟩
        | setCurve x a b l =>
          obtain ⟨t, ht⟩ := malformed_next x s
          exact ⟨t, (if_neg fun k => hw (decide_eq_true k)).trans ht⟩
        | setThermTable x a l =>
          obtain ⟨t, ht⟩ := malformed_next x s
          exact ⟨t, (if_neg fun k => hw (decide_eq_true k)).trans ht⟩
        | _ => exact absurd rfl hw
  cases i with
  | badRequest p f =>
    show ∃ t, execBadRequest p f s = .next t
    unfold execBadRequest
    split <;> exact ⟨_, rfl⟩
  | readResponse p n =>
    show ∃ t, execReadResponse p n s = .next t
    unfold execReadResponse
    split <;> exact ⟨_, rfl⟩
  | picPresentChange l =>
    show ∃ t, execPicPresentChange l s = .next t
    unfold execPicPresentChange
    split <;> exact ⟨_, rfl⟩
  | frameCutShort _ | powerOn _ | homeSwitchChange _ _ | tripInputChange _ _ => exact ⟨_, rfl⟩
  | resetPin _ | presentFilterExpiry | homeFilterExpiry _ | stepEvent _ | dividerAdvance _ | coilRelease _
  | jogExpiry _ _ | criticalPersisted _ | sensorSubstitution _ | cooldownTimeout | parkTimeout | rampStep
  | conversionComplete _ | tripLatchSet _ | frameStrobe | bandStrobe | streamWordSent | computeComplete
  | writeComplete | powerFail => exact event_next s _
  | tachPulse f =>
    simp only [exec, execTachPulse]
    exact event_next s _
  | _ => exact hrequest rfl

/-- Settles O14: the gate answers a kind that the port's class shuts out, before the kind's own rules. -/
theorem privilegesHold : Obligations.PrivilegesHold := by
  intro i s r c hi hw htakes hno
  by_cases hs : ∃ x, i = .softReset x
  · obtain ⟨x, rfl⟩ := hs
    cases hi
    show execSoftReset r s = _
    simp [execSoftReset, htakes, hno, answered, refuse]
  · obtain ⟨f, hf⟩ := exec_eq_request hi hw (fun x hx => hs ⟨x, hx⟩) s
    rw [hf, request_denied htakes hno]
    rfl

theorem portTakes_absent {s : State} (h : s.presence.present = false) : portTakes s .picture = false := by
  simp [portTakes, h]

theorem portTakes_unpowered {s : State} (h : s.powered = false) (p : Port) : portTakes s p = false := by
  simp [portTakes, h]

theorem event_ignored {s : State} (h : s.powered = false) (f : State → State) : event s f = .next s := by
  simp [event, h]

theorem execBadRequest_ignored {p : Port} {s : State} (h : portTakes s p = false) (frame : List Byte) :
    exec (.badRequest p frame) s = .next s := by
  show execBadRequest p frame s = _
  simp [execBadRequest, h]

theorem execReadResponse_ignored {p : Port} {s : State} (h : portTakes s p = false) (n : Nat) :
    exec (.readResponse p n) s = .next s := by
  show execReadResponse p n s = _
  simp [execReadResponse, h]

/-- Settles O15: the gate of a request shuts an absent picture port and an unpowered part, and the gate of an event an
unpowered part. -/
theorem absentPortIgnores : Obligations.AbsentPortIgnores := by
  refine ⟨fun i s r c hi hp ha => exec_ignored hi (hp ▸ portTakes_absent ha),
    fun frame s ha => execBadRequest_ignored (portTakes_absent ha) frame,
    fun n s ha => execReadResponse_ignored (portTakes_absent ha) n, fun s hs => ?_⟩
  have he := event_ignored hs
  exact ⟨fun i r c hi => exec_ignored hi (portTakes_unpowered hs _),
    fun p frame => execBadRequest_ignored (portTakes_unpowered hs p) frame, fun _ => rfl,
    fun p n => execReadResponse_ignored (portTakes_unpowered hs p) n, fun _ => ⟨he _, he _, he _, fun _ => he _⟩,
    fun _ => he _, fun _ => he _, fun _ => he _, fun f => by simp only [exec, execTachPulse]; exact he _,
    fun _ => he _, fun _ => he _, fun _ => he _, he _, he _,
    he _, he _, he _, he _, he _, he _, he _, he _⟩

/-! ### Parameter codes -/

theorem axisOfCode_unlisted {c : Byte} (h : 4 ≤ c.toNat) : axisOfCode c = none := by
  unfold axisOfCode
  split <;> first | omega | rfl

theorem shiftAxisOfCode_unlisted {c : Byte} (h : 2 ≤ c.toNat) : shiftAxisOfCode c = none := by
  unfold shiftAxisOfCode
  split <;> first | omega | rfl

theorem dirOfCode_unlisted {c : Byte} (h : 2 ≤ c.toNat) : dirOfCode c = none := by
  unfold dirOfCode
  split <;> first | omega | rfl

theorem stopAxesOfCode_unlisted {c : Byte} (h : 4 ≤ c.toNat) (hc : c ≠ 255) : stopAxesOfCode c = none := by
  have hn : c.toNat ≠ 255 := fun k => hc (BitVec.eq_of_toNat_eq k)
  unfold stopAxesOfCode
  rw [if_neg hn, axisOfCode_unlisted h]
  rfl

theorem slotOfCode_unlisted {c : Byte} (h : 10 ≤ c.toNat) : slotOfCode c = none := if_neg (Nat.not_lt.mpr h)

theorem slotOfCode_listed {c : Byte} (h : c.toNat < 10) : slotOfCode c = some c.toNat := if_pos h

theorem unitOfCode_unlisted {c : Byte} (h1 : c ≠ 1) (h2 : c ≠ 2) : unitOfCode c = none := by
  unfold unitOfCode
  split
  · next h => exact absurd (BitVec.eq_of_toNat_eq h) h1
  · next h => exact absurd (BitVec.eq_of_toNat_eq h) h2
  · rfl

theorem yesNoOfCode_unlisted {c : Byte} (h : 2 ≤ c.toNat) : yesNoOfCode c = none := by
  unfold yesNoOfCode
  split <;> first | omega | rfl

theorem tableOfCode_unlisted {c : Byte} (h : 2 ≤ c.toNat) : tableOfCode c = none := by
  unfold tableOfCode
  split <;> first | omega | rfl

theorem orientationOfCode_unlisted {c : Byte} (h : 2 ≤ c.toNat) : orientationOfCode c = none := by
  unfold orientationOfCode
  split <;> first | omega | rfl

theorem zoneOfCode_unlisted {c : Byte} (h : 4 ≤ c.toNat) : zoneOfCode c = none := by
  unfold zoneOfCode
  split <;> first | omega | rfl

theorem fanOfCode_unlisted {c : Byte} (h : 4 ≤ c.toNat) : fanOfCode c = none := by
  unfold fanOfCode
  split <;> first | omega | rfl

theorem compOfCode_unlisted {c : Byte} (h : 2 ≤ c.toNat) : compOfCode c = none := by
  unfold compOfCode
  split <;> first | omega | rfl

theorem compsOfCode_unlisted {c : Byte} (h : 3 ≤ c.toNat) : compsOfCode c = none := by
  unfold compsOfCode
  split <;> first | omega | rfl

theorem modeOfCode_unlisted {c : Byte} (h : 3 ≤ c.toNat) : modeOfCode c = none := by
  unfold modeOfCode
  split <;> first | omega | rfl

theorem chanSetOfBits_unlisted {c : Half} (h : 512 ≤ c.toNat) : chanSetOfBits c = none := if_neg (Nat.not_lt.mpr h)

theorem zoneSetOfBits_unlisted {c : Byte} (h : 16 ≤ c.toNat) : zoneSetOfBits c = none := if_neg (Nat.not_lt.mpr h)

@[simp] theorem axisOfCode_axisByte (a : Axis) : axisOfCode (axisByte a) = some a := by cases a <;> rfl

@[simp] theorem dirOfCode_dirByte (d : Dir) : dirOfCode (dirByte d) = some d := by cases d <;> rfl

@[simp] theorem onAxis_axisByte (a : Axis) (s : State) (f : Axis → State × Reply) : onAxis (axisByte a) s f = f a := by
  simp [onAxis]

theorem onAxis_unlisted {c : Byte} (h : 4 ≤ c.toNat) (s : State) (f : Axis → State × Reply) :
    onAxis c s f = (s, refuse .range) := by
  simp [onAxis, axisOfCode_unlisted h]

/-- A request whose own rules refuse it. -/
theorem request_refused {r : Req} {c : Privilege} {s : State} {f : State → State × Reply} {x : Status}
    (h : Takes s r c) (hf : f s = (s, refuse x)) : request r c s f = .next (answered r { status := x } s) := by
  rw [request_taken h, hf]
  rfl

section
variable {r : Req} {s : State}

/-- The first family of O16: the requests that both ports may send. -/
theorem unlisted_both (h : Takes s r .bothPorts) (i : Instr)
    (hi : (∃ x t, i = .move r x t ∧ 4 ≤ x.toNat) ∨ (∃ x p, i = .shift r x p ∧ 2 ≤ x.toNat)
      ∨ (∃ x, i = .home r x ∧ 4 ≤ x.toNat) ∨ (∃ x d l, i = .jog r x d l ∧ (4 ≤ x.toNat ∨ 2 ≤ d.toNat))
      ∨ (∃ x, i = .jogKeep r x ∧ 4 ≤ x.toNat) ∨ (∃ x, i = .stop r x ∧ 4 ≤ x.toNat ∧ x ≠ 255)
      ∨ (∃ x, i = .getAxis r x ∧ 4 ≤ x.toNat) ∨ (∃ n, i = .recallMemory r n ∧ 10 ≤ n.toNat)
      ∨ (∃ n, i = .store r n ∧ 10 ≤ n.toNat) ∨ (∃ n, i = .erase r n ∧ 10 ≤ n.toNat)
      ∨ (∃ n, i = .getMemory r n ∧ 10 ≤ n.toNat) ∨ (∃ u, i = .setUnits r u ∧ u ≠ 1 ∧ u ≠ 2)
      ∨ (∃ b c l, i = .setQuiet r b c l ∧ 2 ≤ b.toNat) ∨ (∃ x, i = .getThermTable r x ∧ 2 ≤ x.toNat)
      ∨ ∃ o z, i = .getCurve r o z ∧ (2 ≤ o.toNat ∨ 4 ≤ z.toNat)) :
    exec i s = .next (answered r { status := .range } s) := by
  rcases hi with ⟨x, t, rfl, hx⟩ | ⟨x, p, rfl, hx⟩ | ⟨x, rfl, hx⟩ | ⟨x, d, l, rfl, hx⟩ | ⟨x, rfl, hx⟩ | ⟨x, rfl, hx, hn⟩
    | ⟨x, rfl, hx⟩ | ⟨n, rfl, hn⟩ | ⟨n, rfl, hn⟩ | ⟨n, rfl, hn⟩ | ⟨n, rfl, hn⟩ | ⟨u, rfl, h1, h2⟩ | ⟨b, c, l, rfl, hb⟩
    | ⟨x, rfl, hx⟩ | ⟨o, z, rfl, hx⟩
  · simp only [exec, execMove]
    exact request_refused h (onAxis_unlisted hx s _)
  · simp only [exec, execShift]
    exact request_refused h (by simp [shiftAxisOfCode_unlisted hx])
  · simp only [exec, execHome]
    exact request_refused h (onAxis_unlisted hx s _)
  · simp only [exec, execJog]
    refine request_refused h ?_
    rcases hx with hx | hd
    · exact onAxis_unlisted hx s _
    · simp only [dirOfCode_unlisted hd, onAxis]
      split <;> rfl
  · simp only [exec, execJogKeep]
    exact request_refused h (onAxis_unlisted hx s _)
  · simp only [exec, execStop]
    exact request_refused h (by simp [stopAxesOfCode_unlisted hx hn])
  · simp only [exec, execGetAxis]
    exact request_refused h (onAxis_unlisted hx s _)
  · simp only [exec, execRecall]
    exact request_refused h (by simp [recallRequest, slotOfCode_unlisted hn])
  · simp only [exec, execStore]
    exact request_refused h (by simp [storeRequest, slotOfCode_unlisted hn])
  · simp only [exec, execErase]
    exact request_refused h (by simp [eraseRequest, slotOfCode_unlisted hn])
  · simp only [exec, execGetMemory, reading]
    exact request_refused h (by simp [slotOfCode_unlisted hn])
  · simp only [exec, execSetUnits]
    exact request_refused h (by simp [unitOfCode_unlisted h1 h2])
  · simp only [exec, execSetQuiet]
    exact request_refused h (by simp [yesNoOfCode_unlisted hb])
  · simp only [exec, execGetThermTable, reading]
    exact request_refused h (by simp [tableOfCode_unlisted hx])
  · simp only [exec, execGetCurve, reading]
    refine request_refused h ?_
    rcases hx with ho | hz
    · simp only [orientationOfCode_unlisted ho]
      split <;> first | rfl | simp_all
    · simp only [zoneOfCode_unlisted hz]
      split <;> first | rfl | simp_all

theorem setCurve_exec {o z : Byte} {l : List PointParam} (hl : l.length = 6) :
    exec (.setCurve r o z l) s =
      request r .systemOnly s fun s =>
        match orientationOfCode o, zoneOfCode z with
        | some o, some z =>
          if curveInRange (pointsOf l) then (writeCurve o z (pointsOf l) s, okReply) else (s, refuse .range)
        | some _, none => (s, refuse .range)
        | none, some _ => (s, refuse .range)
        | none, none => (s, refuse .range) := if_pos hl

/-- The second family of O16: the requests of the system port alone. -/
theorem unlisted_system (h : Takes s r .systemOnly) (i : Instr) (hw : wellCounted i = true)
    (hi : (∃ x p, i = .setAxis r x p ∧ 4 ≤ x.toNat) ∨ (∃ x l, i = .setRamp r x l ∧ 4 ≤ x.toNat)
      ∨ (∃ o, i = .setOrientation r o ∧ 2 ≤ o.toNat) ∨ (∃ z p, i = .setZone r z p ∧ (4 ≤ z.toNat ∨ 512 ≤ p.members.toNat))
      ∨ (∃ o z l, i = .setCurve r o z l ∧ (2 ≤ o.toNat ∨ 4 ≤ z.toNat))
      ∨ (∃ f p, i = .setFan r f p ∧ (4 ≤ f.toNat ∨ 2 ≤ p.present.toNat ∨ 16 ≤ p.served.toNat))
      ∨ (∃ x l, i = .setThermTable r x l ∧ 2 ≤ x.toNat)
      ∨ (∃ x k, i = .setTrip r x k ∧ (2 ≤ x.toNat ∨ k = 0 ∨ 16 ≤ k.toNat)) ∨ ∃ x, i = .clearTrip r x ∧ 3 ≤ x.toNat) :
    exec i s = .next (answered r { status := .range } s) := by
  rcases hi with ⟨x, p, rfl, hx⟩ | ⟨x, l, rfl, hx⟩ | ⟨o, rfl, ho⟩ | ⟨z, p, rfl, hx⟩ | ⟨o, z, l, rfl, hx⟩ | ⟨f, p, rfl, hx⟩
    | ⟨x, l, rfl, hx⟩ | ⟨x, k, rfl, hx⟩ | ⟨x, rfl, hx⟩
  · simp only [exec, execSetAxis]
    exact request_refused h (onAxis_unlisted hx s _)
  · exact (if_pos (of_decide_eq_true hw)).trans (request_refused h (onAxis_unlisted hx s _))
  · simp only [exec, execSetOrientation]
    exact request_refused h (by simp [orientationOfCode_unlisted ho])
  · simp only [exec, execSetZone]
    refine request_refused h ?_
    rcases hx with hz | hm
    · simp only [zoneOfCode_unlisted hz]
      split <;> first | rfl | simp_all
    · simp only [chanSetOfBits_unlisted hm]
      split <;> first | rfl | simp_all
  · rw [setCurve_exec (of_decide_eq_true hw)]
    refine request_refused h ?_
    rcases hx with ho | hz
    · simp only [orientationOfCode_unlisted ho]
      split <;> first | rfl | simp_all
    · simp only [zoneOfCode_unlisted hz]
      split <;> first | rfl | simp_all
  · simp only [exec, execSetFan]
    refine request_refused h ?_
    rcases hx with hf | hx
    · simp [fanOfCode_unlisted hf]
    · split
      · unfold fanRequest
        rcases hx with hp | hv
        · simp only [yesNoOfCode_unlisted hp]
          split <;> first | rfl | simp_all
        · simp only [zoneSetOfBits_unlisted hv]
          split <;> first | rfl | simp_all
      · rfl
  · exact (if_pos (of_decide_eq_true hw)).trans (request_refused h (by simp [tableOfCode_unlisted hx]))
  · simp only [exec, execSetTrip]
    refine request_refused h ?_
    split
    · next c hc =>
      have hk : ¬(1 ≤ k.toNat ∧ k.toNat ≤ 15) := by
        rcases hx with hx | rfl | hx
        · rw [compOfCode_unlisted hx] at hc
          cases hc
        · exact fun hk => absurd hk.1 (by decide)
        · omega
      rw [if_neg (by simpa using hk)]
    · rfl
  · simp only [exec, execClearTrip]
    exact request_refused h (by simp [compsOfCode_unlisted hx])

end

/-- Settles O16: an unlisted code is no axis, direction, slot, unit, zone, fan, comparator, curve set, table or mode. -/
theorem unlistedCodesRefused : Obligations.UnlistedCodesRefused :=
  ⟨fun _ _ h i hi => unlisted_both h i hi, fun _ _ h i hw hi => unlisted_system h i hw hi, fun _ _ _ h hm => by
    simp only [exec, execSetStream]
    exact request_refused h (by simp [modeOfCode_unlisted hm])⟩

end Sys2Proof.Machine
end

section
/-! PROOFS. The reading requests, the port transactions and the buses (R107, R176 to R187, 11.1, 11.2). -/

namespace Sys2Proof.Machine

/-! ### Reading requests -/

/-- Settles O17: the data of GET_IDENT and the strap that a device reset takes. -/
theorem identAnswered : Obligations.IdentAnswered := by
  refine ⟨fun r s h => ?_, fun addr s => ⟨_, exec_powerOn addr s, rfl⟩,
    fun addr s h => ⟨_, exec_resetPin_taken h addr, rfl⟩, fun r s h => ⟨_, exec_softReset_taken h, rfl⟩⟩
  refine (reading_taken h fun s => dataReply (identData s r.port)).trans ?_
  cases r.port <;> rfl

/-- A slot code in range names its record. -/
theorem execGetMemory_taken {r : Req} {s : State} (h : portTakes s r.port = true) {n : Byte} (hn : n.toNat < 10) :
    exec (.getMemory r n) s = .next (answered r (dataReply (memoryData s.mem n.toNat)) s) := by
  simp only [exec, execGetMemory, reading_taken h, slotOfCode_listed hn]

/-- A curve is read by its set and its zone (R145). -/
theorem execGetCurve_taken {r : Req} {s : State} (h : portTakes s r.port = true) {b c : Byte} {o : Orientation} {z : Zone}
    (hb : orientationOfCode b = some o) (hz : zoneOfCode c = some z) :
    exec (.getCurve r b c) s = .next (answered r (dataReply (curveData ((s.cool.curveSet o).get z))) s) := by
  simp only [exec, execGetCurve, reading_taken h, hb, hz]

/-- Settles O18: each reading request is its data function behind the gate. -/
theorem readsAnswered : Obligations.ReadsAnswered := fun r s h =>
  have hread (f : State → Reply) : reading r s f = .next (answered r (f s) s) := reading_taken h f
  ⟨hread fun s => dataReply (statusData s r.port),
    fun a => by
      simp only [exec, execGetAxis, request_taken (c := .bothPorts) ⟨h, rfl⟩, onAxis_axisByte]
      rfl,
    hread fun s => dataReply (queueData s (unitOf (s.port r.port).unit r.qual)), hread fun s => dataReply (shiftData s),
    fun _ hn => execGetMemory_taken h hn, hread fun s => dataReply (geometryData s),
    hread fun s => dataReply (streamData s), hread fun s => dataReply (sensorsData s),
    hread fun s => dataReply (tableData s.meas.tableA), hread fun s => dataReply (tableData s.meas.tableB),
    hread fun s => dataReply (thermalData s),
    fun _ _ hz => ⟨execGetCurve_taken (o := .floor) h rfl hz, execGetCurve_taken (o := .ceiling) h rfl hz⟩, hread fun s => dataReply (phaseData s),
    hread fun s => dataReply (trackingData s)⟩

theorem gridReply_none {s : State} (h : s.banks.live = none) (row : Nat) : gridReply row s = refuse .empty := by
  simp [gridReply, h]

theorem gridReply_some {s : State} {n : BankName} (h : s.banks.live = some n) (row : Nat) :
    gridReply row s =
      if (s.banks.get n).state ≠ .valid then refuse .empty
      else if row < (s.banks.get n).g then dataReply (gridData n (s.banks.get n) row) else refuse .range := by
  simp [gridReply, h]

/-- Settles O19: the checks of R107 in their order. -/
theorem gridRowAnswered : Obligations.GridRowAnswered := by
  intro r row s h
  have hread : exec (.readGrid r row) s = .next (answered r (gridReply row.toNat s) s) := reading_taken h _
  refine ⟨fun hl => ?_, fun n hl => ⟨fun hv => ?_, fun hv hg => ?_, fun hv hg => ?_⟩⟩
  · rw [hread, gridReply_none hl]
    rfl
  · rw [hread, gridReply_some hl, if_pos hv]
    rfl
  · rw [hread, gridReply_some hl, if_neg (not_not_intro hv), if_neg (Nat.not_lt.mpr hg)]
    rfl
  · rw [hread, gridReply_some hl, if_neg (not_not_intro hv), if_pos hg]
    cases n <;> rfl

/-! ### Events and masks -/

theorem eventBit_injective : Function.Injective eventBit := by
  intro e f h
  cases e <;> cases f <;> first | rfl | cases h

theorem eventFlag_bit (e : Event) (b : Nat) : (eventFlag e).getLsbD b = decide (b = eventBit e) := by
  have hlt : eventBit e < 16 := by cases e <;> decide
  simp only [eventFlag, BitVec.getLsbD_shiftLeft, BitVec.ofNat_eq_ofNat, BitVec.getLsbD_one]
  grind

/-- The flags of a list, on top of those gathered before. -/
theorem foldl_flags_bit (l : List Notice) (acc : Half) (b : Nat) :
    (l.foldl (fun acc n => acc ||| eventFlag (noticeEvent n)) acc).getLsbD b =
      (acc.getLsbD b || l.any fun n => decide (b = eventBit (noticeEvent n))) := by
  induction l generalizing acc with
  | nil => simp
  | cons n l ih => rw [List.foldl_cons, ih, BitVec.getLsbD_or, eventFlag_bit, List.any_cons, Bool.or_assoc]

theorem noticeFlags_bit (l : List Notice) (b : Nat) :
    (noticeFlags l).getLsbD b = l.any fun n => decide (b = eventBit (noticeEvent n)) := by
  rw [noticeFlags, foldl_flags_bit]
  simp

theorem eventsData_eq (p : PortRec) :
    eventsData p =
      [.u 2 p.flags.toNat, .u 1 p.lost.toNat, .u 1 (p.notices.length - 4), .u 1 (min 4 p.notices.length)]
        ++ (p.notices.take 4).flatMap noticeData := by
  rw [← List.length_take, ← List.length_drop]
  rfl

/-- Settles O20: a flag of R185 is kept exactly when a notice of its event is left. -/
theorem eventsRead : Obligations.EventsRead := by
  intro r s h
  refine ⟨(s.port r.port).afterRead.flags, ?_, fun e => ?_, fun b hb => ?_⟩
  · simp only [exec, execReadEvents, request_taken (c := .bothPorts) ⟨h, rfl⟩]
    rw [← eventsData_eq]
    obtain ⟨p, tag, q⟩ := r
    cases p <;> rfl
  · show ((s.port r.port).flags &&& noticeFlags _).getLsbD _ = _
    rw [BitVec.getLsbD_and, noticeFlags_bit]
    simp only [eventBit_injective.eq_iff, eq_comm, Config.noticesRead]
  · show ((s.port r.port).flags &&& noticeFlags _).getLsbD _ = _
    rw [BitVec.getLsbD_and, noticeFlags_bit, List.any_eq_false.mpr (by simpa using fun n _ => (hb (noticeEvent n)).symm),
      Bool.and_false]

/-- Settles O21: the writes of SET_MASK and SET_UNITS. -/
theorem maskAndUnitWritten : Obligations.MaskAndUnitWritten := fun _ _ h =>
  have htakes := request_taken (c := .bothPorts) ⟨h, rfl⟩
  ⟨fun m => by simp only [exec, execSetMask, htakes]; rfl, by simp only [exec, execSetUnits, htakes]; rfl,
    by simp only [exec, execSetUnits, htakes]; rfl⟩

/-! ### Transactions -/

/-- The tag of a frame of three bytes or more. -/
theorem badTag_carried {p : Port} {b k tag : Byte} (rest : List Byte) (h : p = .picture ∨ 3 ≤ b.toNat) :
    badTag p (b :: k :: tag :: rest) = tag := by
  rcases h with rfl | h
  · rfl
  · cases p with
    | picture => rfl
    | system =>
      obtain ⟨n, hn⟩ : ∃ n, bytesAcked (b :: k :: tag :: rest) = n + 3 := by
        refine ⟨bytesAcked (b :: k :: tag :: rest) - 3, ?_⟩
        simp only [bytesAcked, List.length_cons]
        omega
      simp [badTag, takenBytes, hn]

/-- A frame of fewer than three bytes gives the tag 0. -/
theorem badTag_short (p : Port) {frame : List Byte} (h : frame.length < 3) : badTag p frame = 0 := by
  cases p <;> simp only [badTag, takenBytes] <;> rw [List.getElem?_eq_none] <;> first | rfl | skip
  · simp only [List.length_take]
    omega
  · omega

theorem getMsbD_toNat (b : Byte) {i : Nat} (h : i < 8) : (b.getMsbD i).toNat = b.toNat / 2 ^ (7 - i) % 2 := by
  rw [BitVec.getMsbD_eq_getLsbD, BitVec.getLsbD, Nat.testBit_eq_decide_div_mod_eq, decide_eq_true h, Bool.true_and]
  rcases Nat.mod_two_eq_zero_or_one (b.toNat / 2 ^ (8 - 1 - i)) with k | k <;> rw [k] <;> rfl

/-- The bits of a byte, the most significant first, give the byte back. -/
theorem byteOfBits_bits (b : Byte) : byteOfBits ((List.range 8).map b.getMsbD) = b := by
  have hfold : ((List.range 8).map b.getMsbD).foldl (fun n b => 2 * n + b.toNat) 0 = b.toNat := by
    show 2 * (2 * (2 * (2 * (2 * (2 * (2 * (2 * 0 + (b.getMsbD 0).toNat) + (b.getMsbD 1).toNat) + (b.getMsbD 2).toNat)
      + (b.getMsbD 3).toNat) + (b.getMsbD 4).toNat) + (b.getMsbD 5).toNat) + (b.getMsbD 6).toNat) + (b.getMsbD 7).toNat = _
    have hb := b.isLt
    simp only [getMsbD_toNat b (show 0 < 8 by decide), getMsbD_toNat b (show 1 < 8 by decide),
      getMsbD_toNat b (show 2 < 8 by decide), getMsbD_toNat b (show 3 < 8 by decide),
      getMsbD_toNat b (show 4 < 8 by decide), getMsbD_toNat b (show 5 < 8 by decide),
      getMsbD_toNat b (show 6 < 8 by decide), getMsbD_toNat b (show 7 < 8 by decide)]
    omega
  rw [byteOfBits, hfold, BitVec.ofNat_toNat, BitVec.setWidth_eq]

theorem bytesOfBits_byte (b : Byte) (l : List Bool) :
    bytesOfBits ((List.range 8).map b.getMsbD ++ l) = b :: bytesOfBits l := by
  conv => rhs; rw [← byteOfBits_bits b]
  rfl

theorem bytesOfBits_short {l : List Bool} (h : l.length < 8) : bytesOfBits l = [] := by
  match l, h with
  | [], _ | [_], _ | [_, _], _ | [_, _, _], _ | [_, _, _, _], _ | [_, _, _, _, _], _ | [_, _, _, _, _, _], _
  | [_, _, _, _, _, _, _], _ => rfl
  | _ :: _ :: _ :: _ :: _ :: _ :: _ :: _ :: _, h => exact absurd h (by simp)

theorem bytesOfBits_bytes (bytes : List Byte) {rest : List Bool} (h : rest.length < 8) :
    bytesOfBits ((bytes.flatMap fun b => (List.range 8).map b.getMsbD) ++ rest) = bytes := by
  induction bytes with
  | nil => exact bytesOfBits_short h
  | cons b bytes ih => rw [List.flatMap_cons, List.append_assoc, bytesOfBits_byte, ih]

/-- A byte that a read drives is the one that SDO carries after the first byte of the transaction. -/
theorem sdoByte_driven {p : PortRec} {n k : Nat} {b : Byte} (h : (p.read n).lastRead[k]? = some b) :
    sdoByte p 0 (k + 1) = b := by
  rw [PortRec.read_lastRead, List.getElem?_append] at h
  show p.response[k]?.getD 0 = b
  split at h
  · rw [List.getElem?_take_of_lt (by simp only [List.length_take] at *; omega)] at h
    rw [h]
    rfl
  · next hk =>
    have hout : p.response.length ≤ k := by
      refine Nat.not_lt.mp fun hin => ?_
      have hz := (List.getElem?_eq_some_iff.mp h).1
      simp only [List.length_take, List.length_replicate] at hk hz
      omega
    rw [List.getElem?_eq_none hout]
    obtain ⟨_, rfl⟩ := List.getElem?_eq_some_iff.mp h
    simp

theorem execBadRequest_taken {p : Port} {s : State} (h : portTakes s p = true) (frame : List Byte) :
    exec (.badRequest p frame) s = .next (respond p (badTag p frame) (refuse .badRequest) s) := if_pos h

theorem execReadResponse_taken {p : Port} {s : State} (h : portTakes s p = true) (n : Nat) :
    exec (.readResponse p n) s = .next (s.setPort p ((s.port p).read n)) := if_pos h

theorem PortRec.read_none {p : PortRec} (h : p.unread = none) (n : Nat) :
    p.read n = { p with lastRead := drivenBytes noneResponse n } := by
  simp only [PortRec.read, h]

theorem PortRec.read_some {p : PortRec} {x : Response} (h : p.unread = some x) (n : Nat) :
    p.read n =
      { p with lastRead := drivenBytes x n, unread := if (responseBytes x).length ≤ n then none else some x } := by
  simp only [PortRec.read, h]

theorem sdoBit_silent {s : State} (h : portTakes s .picture = true) {first : Byte} {n : Nat} (hq : first ≠ 0 ∨ n < 8) :
    sdoBit s first n = some false := by
  have hbyte : sdoByte s.picPort first (n / 8) = 0 := by
    rcases hq with hf | hn
    · cases n / 8 with
      | zero => rfl
      | succ k => exact if_neg hf
    · rw [Nat.div_eq_of_lt hn]
      rfl
  rw [sdoBit_taken h, hbyte]
  simp [BitVec.getMsbD]

/-- Settles O22: the tag of a malformed frame, the bits of the SPI bus, and what a read returns and keeps. -/
theorem transactionsTaken : Obligations.TransactionsTaken := by
  refine ⟨fun p frame s h => ⟨fun hf => ?_, fun b k tag rest hf hb => ?_⟩, fun _ _ => rfl,
    fun bytes rest hr => congrArg spiCommand (bytesOfBits_bytes bytes hr),
    fun s first n => ⟨fun h => sdoBit_idle h first n, fun h hq => sdoBit_silent h hq⟩,
    fun s t n k i b h hi ht hb => ?_, fun p n s h => ⟨fun hu => ?_, fun x hu => ?_⟩⟩
  · rw [execBadRequest_taken h, badTag_short p hf]
    rfl
  · rw [hf, execBadRequest_taken h, badTag_carried rest hb]
    rfl
  · rw [execReadResponse_taken h] at ht
    cases ht
    rw [sdoBit_taken h, show (8 * (k + 1) + i) / 8 = k + 1 by omega, show (8 * (k + 1) + i) % 8 = i by omega,
      show sdoByte s.picPort 0 (k + 1) = b from sdoByte_driven (n := n) hb]
  · rw [execReadResponse_taken h, PortRec.read_none hu]
    rfl
  · rw [execReadResponse_taken h, PortRec.read_some hu]
    rfl

/-! ### The buses -/

/-- Settles O13: the frames by evaluation, the address and the acknowledged bytes by their definitions. -/
theorem framesRead : Obligations.FramesRead := by
  refine ⟨by decide, by decide, by decide, by decide, by decide, by decide, fun strap x hx => ?_,
    fun strap bytes n => ?_, rfl, rfl, fun b rest => ?_, fun rest => rfl⟩
  · have hno : addressAcked strap x = false := decide_eq_false hx
    exact ⟨hno, if_neg (by simp [hno])⟩
  · cases strap <;> exact ⟨rfl, rfl, rfl⟩
  · show min (rest.length + 1) (max 1 b.toNat) = _
    split
    · next h =>
      subst h
      simp
    · next h =>
      have : b.toNat ≠ 0 := fun k => h (BitVec.eq_of_toNat_eq k)
      omega

end Sys2Proof.Machine
end

section
/-! PROOFS. A request frame read back (R178, R190, 11.2). -/

namespace Sys2Proof.Machine

/-! ### Fields and lists of fields -/

theorem halfOf_bytes (h : Half) : halfOf (h.extractLsb' 0 8) (h.extractLsb' 8 8) = h := by
  apply BitVec.eq_of_getLsbD_eq
  intro i hi
  simp only [halfOf, BitVec.getLsbD_append, BitVec.getLsbD_extractLsb']
  grind

theorem quadOf_bytes (q : Quadword) :
    quadOf (q.extractLsb' 0 8) (q.extractLsb' 8 8) (q.extractLsb' 16 8) (q.extractLsb' 24 8) = q := by
  apply BitVec.eq_of_getLsbD_eq
  intro i hi
  simp only [quadOf, BitVec.getLsbD_append, BitVec.getLsbD_extractLsb']
  grind

theorem qualOfCode_qualCode (q : Qualifier) : qualOfCode (qualCode q) = some q := by cases q <;> rfl

theorem levelsOf_bytes (l : List LevelParam) : levelsOf (l.flatMap levelBytes) = some l := by
  induction l with
  | nil => rfl
  | cons x l ih =>
    show (levelsOf (l.flatMap levelBytes)).map _ = _
    rw [ih, halfOf_bytes]
    rfl

theorem pointsOfBytes_bytes (l : List PointParam) : pointsOfBytes (l.flatMap pointBytes) = some l := by
  induction l with
  | nil => rfl
  | cons x l ih =>
    show (pointsOfBytes (l.flatMap pointBytes)).map _ = _
    rw [ih, halfOf_bytes]
    rfl

theorem valuesOf_bytes (l : List Half) : valuesOf (l.flatMap halfBytes) = some l := by
  induction l with
  | nil => rfl
  | cons x l ih =>
    show (valuesOf (l.flatMap halfBytes)).map _ = _
    rw [ih, halfOf_bytes]
    rfl

theorem length_flatMap_const {α : Type} (f : α → List Byte) (n : Nat) (hf : ∀ x, (f x).length = n) (l : List α) :
    (l.flatMap f).length = n * l.length := by
  rw [List.length_flatMap, List.map_congr_left (g := fun _ => n) fun x _ => hf x, List.map_const', List.sum_replicate_nat,
    Nat.mul_comm]

theorem levels_length (l : List LevelParam) : (l.flatMap levelBytes).length = 3 * l.length :=
  length_flatMap_const _ 3 (fun _ => rfl) l

theorem points_length (l : List PointParam) : (l.flatMap pointBytes).length = 3 * l.length :=
  length_flatMap_const _ 3 (fun _ => rfl) l

theorem values_length (l : List Half) : (l.flatMap halfBytes).length = 2 * l.length :=
  length_flatMap_const _ 2 (fun _ => rfl) l

/-! ### The kinds -/

/-- The parameters of a request fit its frame: 72 bytes with length, kind, tag and qualifier. -/
theorem bodyOf_fits {i : Instr} {b : Body} (hw : wellCounted i = true) (hb : bodyOf i = some b) :
    b.params.length ≤ 68 := by
  cases i with
  | setRamp r x l =>
    cases hb
    have := of_decide_eq_true hw
    simp only [List.length_cons, levels_length]
    omega
  | setCurve r x z l =>
    cases hb
    have := of_decide_eq_true hw
    simp only [List.length_cons, points_length]
    omega
  | setThermTable r x l =>
    cases hb
    have := of_decide_eq_true hw
    simp only [List.length_cons, values_length]
    omega
  | _ => cases hb <;> exact Nat.le_of_ble_eq_true rfl

theorem readSetRamp_bytes (r : Req) (x : Byte) {l : List LevelParam} (h : l.length ≤ 22) :
    readSetRamp r (x :: BitVec.ofNat 8 l.length :: l.flatMap levelBytes) = some (.setRamp r x l) := by
  have hn : (BitVec.ofNat 8 l.length).toNat = l.length := by
    rw [BitVec.toNat_ofNat]
    omega
  simp only [readSetRamp, levels_length, levelsOf_bytes, hn, if_true, Option.map_some]

theorem readSetCurve_bytes (r : Req) (x z : Byte) {l : List PointParam} (h : l.length = 6) :
    readSetCurve r (x :: z :: l.flatMap pointBytes) = some (.setCurve r x z l) := by
  simp only [readSetCurve, points_length, pointsOfBytes_bytes, h, Nat.reduceMul, if_true, Option.map_some]

theorem readSetThermTable_bytes (r : Req) (x : Byte) {l : List Half} (h : l.length = 17) :
    readSetThermTable r (x :: l.flatMap halfBytes) = some (.setThermTable r x l) := by
  simp only [readSetThermTable, values_length, valuesOf_bytes, h, Nat.reduceMul, if_true, Option.map_some]

/-- The kind code and the parameters of a request name the request. -/
theorem readKind_body {i : Instr} {b : Body} (hw : wellCounted i = true) (hb : bodyOf i = some b) :
    readKind b.req b.kind.toNat b.params = some i := by
  cases i with
  | setRamp r x l =>
    cases hb
    exact readSetRamp_bytes r x (of_decide_eq_true hw)
  | setCurve r x z l =>
    cases hb
    exact readSetCurve_bytes r x z (of_decide_eq_true hw)
  | setThermTable r x l =>
    cases hb
    exact readSetThermTable_bytes r x (of_decide_eq_true hw)
  | setMask r f =>
    cases hb
    exact congrArg (fun f => some (Instr.setMask r f)) (halfOf_bytes f)
  | move r x t =>
    cases hb
    exact congrArg (fun t => some (Instr.move r x t)) (quadOf_bytes t)
  | shift r x d =>
    cases hb
    exact congrArg (fun d => some (Instr.shift r x d)) (halfOf_bytes d)
  | setAxis r x p =>
    cases hb
    show readSetAxis r (x :: axisParamBytes p) = _
    simp [readSetAxis, axisParamBytes, halfBytes, halfOf_bytes]
  | setKeystone r kv kh =>
    cases hb
    show readSetKeystone r (halfBytes kv ++ halfBytes kh) = _
    simp [readSetKeystone, halfBytes, halfOf_bytes]
  | setPanel r w h g =>
    cases hb
    show readSetPanel r (halfBytes w ++ halfBytes h ++ [g]) = _
    simp [readSetPanel, halfBytes, halfOf_bytes]
  | setZone r z p =>
    cases hb
    show readSetZone r (z :: zoneParamBytes p) = _
    simp [readSetZone, zoneParamBytes, halfBytes, halfOf_bytes]
  | setFan r f p =>
    cases hb
    show readSetFan r (f :: fanParamBytes p) = _
    simp [readSetFan, fanParamBytes, halfBytes, halfOf_bytes]
  | setTracking r p =>
    cases hb
    show readSetTracking r (trackParamBytes p) = _
    simp [readSetTracking, trackParamBytes, halfBytes, halfOf_bytes]
  | _ => cases hb <;> rfl

/-- A frame of at most 72 bytes with its length first is read as its kind says (R178). -/
theorem decodeFrame_encodeBody {b : Body} {i : Instr} (h : b.params.length ≤ 68)
    (hk : readKind b.req b.kind.toNat b.params = some i) : decodeFrame b.req.port (encodeBody b) = i := by
  have hlen : (BitVec.ofNat 8 (4 + b.params.length)).toNat = 4 + b.params.length := by
    rw [BitVec.toNat_ofNat]
    omega
  have hzero : BitVec.ofNat 8 (4 + b.params.length) ≠ 0 := fun k => by
    rw [k] at hlen
    simp at hlen
    omega
  have hbody : readBody b.req.port (b.kind :: b.req.tag :: qualCode b.req.qual :: b.params) = some i := by
    rw [readBody, qualOfCode_qualCode]
    exact hk
  unfold decodeFrame encodeBody
  simp only [hzero, hlen, hbody, List.length_cons, Config.frameMin, Config.frameMax]
  rw [if_neg (by simp), if_neg (by omega), if_neg (by simp; omega)]
  rfl

/-- Settles O12: what fits a frame is written with its length and read back by its kind. -/
theorem framesRoundTrip : Obligations.FramesRoundTrip := by
  intro i b hw hb
  have hcount : wellCounted i = true := by
    simp only [Instr.wellFormed, Bool.and_eq_true] at hw
    exact hw.1.1.1
  exact decodeFrame_encodeBody (bodyOf_fits hcount hb) (readKind_body hcount hb)

end Sys2Proof.Machine
end

section
/-! PROOFS. The resets, the presence filter and the home switch at rest (R11, R19, R62, R88, R105, R177, R188, R189). -/

namespace Sys2Proof.Machine

/-! ### Device resets -/

theorem cutWrite_keeps {m : Memories} {n : Nat} (h : ∀ j, m.job = some j → j.slot ≠ n) :
    (cutWrite m).records[n]? = m.records[n]? := by
  unfold cutWrite
  split
  · next j hj => exact List.getElem?_set_ne (h j hj)
  · rfl

theorem cutWrite_empties {m : Memories} {j : WriteJob} (h : m.job = some j) :
    ((cutWrite m).records[j.slot]?).join = none := by
  simp only [cutWrite, h, List.getElem?_set_self']
  cases m.records[j.slot]? <;> rfl

theorem cutWrite_job (m : Memories) : (cutWrite m).job = none := by
  unfold cutWrite
  split
  · rfl
  · next h => exact h

/-- A device reset gives each block its reset values (R188). -/
theorem deviceReset_after (cause : ResetCause) (addr : Bool) (s : State) :
    AfterReset cause addr s (deviceReset cause addr s) where
  pending := rfl
  powered := rfl
  resetCause := rfl
  addrPin := rfl
  addrStrap := rfl
  chan a := by
    rw [deviceReset_chan]
    cases a <;> rfl
  sched := rfl
  shift := rfl
  job := cutWrite_job s.mem
  kept _ h := cutWrite_keeps h
  cut _ h := cutWrite_empties h
  recallUnit := rfl
  geom := rfl
  banks := rfl
  stream := rfl
  divider := rfl
  chans c := by cases c <;> rfl
  scan := ⟨rfl, rfl⟩
  tables := ⟨rfl, rfl⟩
  comparators c := by cases c <;> rfl
  tach f := by cases f <;> rfl
  cool := rfl
  phase := rfl
  track := rfl
  ports p := by cases p <;> rfl
  presence := rfl
  lines := ⟨rfl, fun _ => rfl, rfl⟩

/-- Settles O23: the three commands are the device reset with their causes. -/
theorem deviceResets : Obligations.DeviceResets :=
  ⟨fun addr s => ⟨_, exec_powerOn addr s, deviceReset_after _ _ s⟩,
    fun addr s h => ⟨_, exec_resetPin_taken h addr, deviceReset_after _ _ s⟩,
    fun _ s h => ⟨_, exec_softReset_taken h, deviceReset_after _ _ s⟩⟩

/-! ### Picture-port resets -/

theorem resetStreamContext_still {s : State} (h : s.stream.activity = .idle) :
    resetStreamContext s =
      s.withStream
        { s.stream with
          mode := .off, frameBank := none, wordCount := 0, rowPtr := 0, bandPending := false, lastOverrun := .never
          finishing := none } := by
  unfold resetStreamContext Stream.sending
  rw [if_neg (by simp [h])]
  simp only [Stream.cleared, h]

theorem resetStreamContext_sending {s : State} (h : s.stream.activity ≠ .idle) :
    resetStreamContext s =
      s.withStream
        { s.stream with
          mode := .off, lastOverrun := .never
          finishing := some { word := wordOut s, strobe := false, begins := none, bands := 0, reset := true } } := by
  have hword : (finishingWord s).word = wordOut s := by
    unfold finishingWord wordOut
    cases s.stream.finishing <;> rfl
  unfold resetStreamContext Stream.sending
  rw [if_pos (decide_eq_true h), ← hword]

theorem exchangePending_swap {s : State} {n : BankName} (told : LiveTo) (h : s.geom.engine = .swapPending)
    (hn : s.geom.bank = some n) : exchangePending told s = exchange n told s := by
  simp [exchangePending, h, hn]

theorem exchangePending_idle {s : State} (told : LiveTo) (h : s.geom.engine ≠ .swapPending) :
    exchangePending told s = s := by
  unfold exchangePending
  split
  · next k => exact absurd k h
  · rfl
  · rfl

/-- A pending result made live on the system port alone writes the engine, the banks and that port (R88). -/
theorem exchangePending_writes (s : State) :
    ∃ g b p, exchangePending .systemAlone s = ((s.withBanks b).withGeom g).withSysPort p := by
  unfold exchangePending
  split <;> exact ⟨_, _, _, rfl⟩

theorem exchange_alone (n : BankName) (s : State) :
    exchange n .systemAlone s =
      ((s.withBanks { s.banks.set n { s.banks.get n with generation := nextGeneration s.banks } with live := some n }).withGeom
        { s.geom with engine := .idle, restart := false, bank := none, snapshot := none }).withSysPort
        (s.sysPort.raise .geometryLive) := rfl

/-- The state of a picture-port reset before the exchange of R88. -/
def portReset (cause : PicResetCause) (s : State) : State :=
  (s.withPicPort s.picPort.cleared).withPresence
    { s.presence with resetCount := s.presence.resetCount + 1, lastCause := cause }

theorem picturePortReset_eq (cause : PicResetCause) (s : State) :
    picturePortReset cause s = exchangePending .systemAlone (resetStreamContext (portReset cause s)) := rfl

/-- A picture-port reset writes its port, presence and the stream, and what the exchange of R88 writes. -/
theorem picturePortReset_writes (cause : PicResetCause) (s : State) :
    ∃ g b p,
      picturePortReset cause s =
        ((((portReset cause s).withStream (resetStreamContext (portReset cause s)).stream).withBanks b).withGeom
          g).withSysPort p := by
  obtain ⟨x, hx⟩ := resetStreamContext_writes (portReset cause s)
  rw [picturePortReset_eq, hx]
  exact exchangePending_writes _

theorem PortRec.cleared_eq (p : PortRec) :
    p.cleared =
      { unread := none, flags := 0, mask := 0, notices := [], lost := false, unit := .steps, attn := false
        lastRead := p.lastRead } := by
  have hquiet : attnOf 0 0 = false := by decide
  show ({ unread := none, flags := 0, mask := 0, notices := [], lost := false, unit := .steps, attn := attnOf 0 0, .. }
    : PortRec) = _
  rw [hquiet]

/-- The banks after the exchange of a bank (R94). -/
theorem Banks.liveNext_facts {b c : Banks} {n m : BankName}
    (hc : c = { b.set n { b.get n with generation := nextGeneration b } with live := some n }) (hm : m ≠ n) :
    c.live = some n ∧ c.shadow = m ∧ c.get n = { b.get n with generation := generationNext b } ∧ c.get m = b.get m := by
  subst hc
  cases n <;> cases m <;> first | exact absurd rfl hm | exact ⟨rfl, rfl, rfl, rfl⟩

/-- The blocks a picture-port reset leaves alone (R189). -/
theorem picturePortReset_untouched (cause : PicResetCause) (s : State) :
    let t := picturePortReset cause s
    t.pending = s.pending ∧ t.powered = s.powered ∧ t.resetCause = s.resetCause ∧ t.addrPin = s.addrPin
      ∧ t.addrStrap = s.addrStrap ∧ t.axes = s.axes ∧ t.sched = s.sched ∧ t.shift = s.shift ∧ t.mem = s.mem
      ∧ t.recallUnit = s.recallUnit ∧ t.divider = s.divider ∧ t.meas = s.meas ∧ t.cool = s.cool ∧ t.phase = s.phase
      ∧ t.track = s.track := by
  obtain ⟨g, b, p, hw⟩ := picturePortReset_writes cause s
  simp [hw, portReset]

/-- What a picture-port reset leaves (R189). -/
theorem picturePortReset_after (cause : PicResetCause) (s : State) :
    AfterPictureReset cause s (picturePortReset cause s) := by
  obtain ⟨g, b, p, hw⟩ := picturePortReset_writes cause s
  obtain ⟨x, hx⟩ := resetStreamContext_writes (portReset cause s)
  have hstream : (picturePortReset cause s).stream = (resetStreamContext (portReset cause s)).stream := by rw [hw]; rfl
  constructor
  case port =>
    rw [hw]
    exact PortRec.cleared_eq s.picPort
  case count => rw [hw]; rfl
  case cause => rw [hw]; rfl
  case pin => rw [hw]; rfl
  case still =>
    intro h
    rw [hstream, resetStreamContext_still (s := portReset cause s) h]
    rfl
  case sending =>
    intro h
    rw [hstream, resetStreamContext_sending (s := portReset cause s) h]
    rfl
  case noExchange =>
    intro h
    rw [picturePortReset_eq, hx, exchangePending_idle .systemAlone (s := (portReset cause s).withStream x) h]
    exact ⟨rfl, rfl, rfl⟩
  case exchange =>
    intro n m h hn hm
    have hswap : picturePortReset cause s = exchange n .systemAlone ((portReset cause s).withStream x) := by
      rw [picturePortReset_eq, hx, exchangePending_swap .systemAlone (s := (portReset cause s).withStream x) h hn]
    rw [exchange_alone] at hswap
    have hgeom : (picturePortReset cause s).geom = _ := congrArg State.geom hswap
    have hbanks : (picturePortReset cause s).banks = _ := congrArg State.banks hswap
    have hport : (picturePortReset cause s).sysPort = _ := congrArg State.sysPort hswap
    obtain ⟨hlive, hshadow, hnew, hold⟩ := Banks.liveNext_facts (b := s.banks) hbanks hm
    exact ⟨hgeom, hlive, hshadow, hnew, hold, hport⟩
  case untouched => exact picturePortReset_untouched cause s

/-- Presence and the port after a picture-port reset, as far as `AfterPictureReset` leaves them open. -/
theorem picturePortReset_presence (cause : PicResetCause) (s : State) :
    (picturePortReset cause s).presence.present = s.presence.present
      ∧ (picturePortReset cause s).presence.filtering = s.presence.filtering
      ∧ (picturePortReset cause s).picPort = s.picPort.cleared := by
  obtain ⟨g, b, p, hw⟩ := picturePortReset_writes cause s
  rw [hw]
  exact ⟨rfl, rfl, rfl⟩

/-- An unread response takes no part in what a picture-port reset leaves. -/
theorem AfterPictureReset.unread {cause : PicResetCause} {s t : State} (h : AfterPictureReset cause s t)
    (x : Option Response) : AfterPictureReset cause s (t.withPicPort { t.picPort with unread := x }) := by
  obtain ⟨hport, hcount, hcause, hpin, hstill, hsending, hno, hex, hun⟩ := h
  refine ⟨?_, hcount, hcause, hpin, hstill, hsending, hno, hex, hun⟩
  show ({ t.picPort with unread := x } : PortRec) = _
  rw [hport]
  rfl

/-- Settles O25: RESYNC and the fall of PIC_PRESENT are the one picture-port reset. -/
theorem picturePortResets : Obligations.PicturePortResets := by
  refine ⟨fun r s hp h => ?_, fun s hp hf hl => ?_⟩
  · have htakes : Takes s r .pictureOnly := by
      rw [← hp] at h
      exact ⟨h, by rw [hp]; rfl⟩
    obtain ⟨hpresent, hfiltering, hport⟩ := picturePortReset_presence .resync s
    refine ⟨_, request_taken htakes fun s => (picturePortReset .resync s, okReply), ?_⟩
    simp only [answered, respond, hp]
    refine ⟨(picturePortReset_after .resync s).unread _, hpresent, hfiltering, ?_⟩
    show some ({ events := decide ((picturePortReset .resync s).picPort.flags ≠ 0), .. } : Response) = _
    rw [hport]
    rfl
  · refine ⟨_, event_taken hp presentFilterDone, ?_⟩
    have hdone : presentFilterDone s =
        picturePortReset .presentLow (s.withPresence { s.presence with present := s.presence.pin, filtering := false }) := by
      simp [presentFilterDone, hf, hl]
    obtain ⟨hpresent, hfiltering, hport⟩ :=
      picturePortReset_presence .presentLow (s.withPresence { s.presence with present := s.presence.pin, filtering := false })
    rw [hdone]
    obtain ⟨h1, h2, h3, h4, h5, h6, h7, h8, h9⟩ :=
      picturePortReset_after .presentLow (s.withPresence { s.presence with present := s.presence.pin, filtering := false })
    exact ⟨⟨h1, h2, h3, h4, h5, h6, h7, h8, h9⟩, hpresent.trans hl, hfiltering, by rw [hport]; rfl⟩

/-! ### Presence -/

/-- Settles O26: the filter starts on a level that differs from present, and its end takes the level over. -/
theorem presenceFiltered : Obligations.PresenceFiltered := by
  refine ⟨fun level s hp hl => ?_, fun s hp hf hl => ?_, fun s hf => ?_⟩
  · simp only [exec, execPicPresentChange, Presence.pinChange, if_pos hp, if_neg hl]
    rfl
  · refine (event_taken hp _).trans ?_
    simp [presentFilterDone, hf, hl, State.withPresence]
  · have hdone : presentFilterDone s = s := by simp [presentFilterDone, hf]
    show event s presentFilterDone = _
    unfold event
    rw [hdone, ite_self]

/-! ### The home switch of an axis at rest, and the coils -/

theorem checksEdge_rest {c : Channel} (h : inMotion c.state = false) : c.checksEdge = false := by
  unfold Channel.checksEdge
  cases hst : c.state <;> simp [hst, inMotion] at h ⊢

/-- The end of the stability time on an axis at rest takes the level over and does nothing else (R19). -/
theorem homeFilterDone_rest {s : State} {a : Axis} (hs : (s.chan a).switch.stable = true)
    (hr : inMotion (s.chan a).state = false) :
    homeFilterDone a s =
      s.setChan a
        { s.chan a with switch := { (s.chan a).switch with filtered := (s.chan a).switch.pin, stable := false } } := by
  have hhoming : (s.chan a).state ≠ .homing := fun k => by
    rw [k] at hr
    cases hr
  have hcheck : (s.chan a).switchTaken.checksEdge = false := checksEdge_rest hr
  have hstate : (s.chan a).switchTaken.state ≠ .homing := hhoming
  have hassert : switchAsserted a (s.setChan a (s.chan a).switchTaken) = s.setChan a (s.chan a).switchTaken := by
    simp only [switchAsserted, State.setChan_chan_same, if_neg hstate]
  have hrelease : switchReleased a (s.setChan a (s.chan a).switchTaken) = s.setChan a (s.chan a).switchTaken := by
    simp only [switchReleased, State.setChan_chan_same, if_neg hstate, hcheck]
    rfl
  unfold homeFilterDone
  simp only [if_pos hs, hassert, hrelease, ite_self]
  rfl

/-- Settles O45: the arms of a switch change, the end of its filter at rest and the last tick of a hold timer. -/
theorem switchAndCoils : Obligations.SwitchAndCoils := by
  refine fun s a hp => ⟨fun level hpin hf => ?_, fun level hpin hf => ?_, fun hs hr => ?_, fun hr ht => ?_⟩
  · show execHomeSwitchChange a level s = _
    simp only [execHomeSwitchChange, if_pos hp, Channel.switchChange, if_neg hpin, if_neg hf]
  · show execHomeSwitchChange a level s = _
    simp only [execHomeSwitchChange, if_pos hp, Channel.switchChange, if_neg hpin, if_pos hf]
  · exact (event_taken hp _).trans (congrArg _ (homeFilterDone_rest hs hr))
  · refine (event_taken hp _).trans (congrArg _ ?_)
    simp only [coilRelease, Channel.holdTick, hr, ht]
    rfl

end Sys2Proof.Machine
end

section
/-! PROOFS. Profiles, stops and the last segment of a move (R7 to R9, R13 to R15), ramp tables and the shift excess (R7,
R52). -/

namespace Sys2Proof.Machine

/-! ### The distance of a ramp table -/

theorem rampDistance_succ {table : List RampLevel} {l : Nat} (h : l < table.length) :
    rampDistance table (l + 1) = rampDistance table l + levelLength table l := by
  simp only [rampDistance, levelLength, List.take_add_one, List.getElem?_eq_getElem h, List.map_append, List.sum_append,
    Option.toList_some, List.map_cons, List.map_nil, List.sum_cons, List.sum_nil, Nat.add_zero]

theorem levelLength_pos {table : List RampLevel} (ht : LengthsPositive table) {l : Nat} (h : l < table.length) :
    1 ≤ levelLength table l := by
  simp only [levelLength, List.getElem?_eq_getElem h]
  exact ht.2 _ (List.getElem_mem h)

theorem topLevel_lt {table : List RampLevel} (ht : LengthsPositive table) {l : Nat} (h : l ≤ topLevel table) :
    l < table.length := by
  have := List.length_pos_iff.mpr ht.1
  unfold topLevel at h
  omega

theorem highestLevel_le (ok : Nat → Bool) (n : Nat) : highestLevel ok n ≤ n := by
  induction n with
  | zero => exact Nat.le_refl 0
  | succ n ih =>
    unfold highestLevel
    split <;> omega

theorem peakLevel_le (table : List RampLevel) (distance : Nat) : peakLevel table distance ≤ topLevel table :=
  highestLevel_le _ _

/-! ### A run with `r` microsteps left -/

/-- The ramp position of a run over a table with `r` microsteps left: a deceleration ends exactly with them, and above a
deceleration more are left than it takes (R8, R15). -/
inductive Runs (table : List RampLevel) : Nat → RampPos → Prop where
  | ended : Runs table 0 rampOver
  | slowing {r : Nat} {l left : Nat} (hl : l < table.length) (hleft : 1 ≤ left)
      (hr : left + rampDistance table l = r) : Runs table r ⟨l, left, .decel⟩
  | climbing {r : Nat} {l left : Nat} (hl : l < table.length) (hr : rampDistance table l < r) :
    Runs table r ⟨l, left, .accel⟩
  | cruising {r : Nat} {l left : Nat} (hl : l < table.length) (hr : rampDistance table l < r) :
    Runs table r ⟨l, left, .cruise⟩

/-- A run shows its end exactly when nothing is left of it. -/
theorem Runs.over_iff {table : List RampLevel} {r : Nat} {rp : RampPos} (h : Runs table r rp) :
    rp = rampOver ↔ r = 0 := by
  cases h with
  | ended => exact ⟨fun _ => rfl, fun _ => rfl⟩
  | slowing hl hleft hr =>
    constructor
    · intro k
      cases k
      omega
    · omega
  | climbing hl hr => exact ⟨fun k => (nomatch k), fun k => by omega⟩
  | cruising hl hr => exact ⟨fun k => (nomatch k), fun k => by omega⟩

section
variable {table : List RampLevel} (ht : LengthsPositive table)
include ht

/-- A deceleration from a level takes A of the level. -/
theorem decelFrom_runs {l : Nat} (h : l < table.length) : Runs table (rampDistance table l) (decelFrom table l) := by
  cases l with
  | zero => exact .ended
  | succ l =>
    have hl : l < table.length := by omega
    exact .slowing hl (levelLength_pos ht hl) (by rw [rampDistance_succ hl, Nat.add_comm])

theorem decelStep_runs {r : Nat} {rp : RampPos} (h : Runs table r rp) (hd : rp.part = .decel) :
    Runs table (r - 1) (decelStep table rp) := by
  cases h with
  | ended => exact .ended
  | @slowing _ l left hl hleft hr =>
    unfold decelStep
    split
    · next hlt => exact .slowing hl (Nat.le_sub_one_of_lt hlt) (by simp only at hlt ⊢; omega)
    · next hlt =>
      have hone : left = 1 := Nat.le_antisymm (Nat.le_of_not_lt hlt) hleft
      rw [← hr, hone, Nat.add_sub_cancel_left]
      exact decelFrom_runs ht hl
  | climbing => cases hd
  | cruising => cases hd

theorem cruiseAt_runs {l r : Nat} (hl : l < table.length) (hr : rampDistance table l ≤ r) :
    Runs table r (cruiseAt table l r) := by
  unfold cruiseAt
  split
  · next h =>
    rw [Nat.le_antisymm h hr]
    exact decelFrom_runs ht hl
  · next h => exact .cruising hl (Nat.lt_of_not_le h)

theorem climbTo_runs {peak l r : Nat} (hl : l < table.length) (hr : rampDistance table l ≤ r) :
    Runs table r (climbTo table peak l r) := by
  unfold climbTo
  split
  · next h =>
    rw [Nat.le_antisymm h hr]
    exact decelFrom_runs ht hl
  · next h =>
    split
    · exact .climbing hl (Nat.lt_of_not_le h)
    · exact .cruising hl (Nat.lt_of_not_le h)

/-- A microstep of a move takes one off what is left (R8). -/
theorem rampStep_runs {peak r : Nat} (hp : peak < table.length) {rp : RampPos} (h : Runs table r rp) :
    Runs table (r - 1) (rampStep table peak (moveMayClimb table (r - 1)) (r - 1) rp) := by
  cases h with
  | ended => exact .ended
  | slowing hl hleft hr => exact decelStep_runs ht (.slowing hl hleft hr) rfl
  | cruising hl hr => exact cruiseAt_runs ht hl (Nat.le_sub_one_of_lt hr)
  | climbing hl hr =>
    unfold rampStep
    dsimp only
    split
    · next h =>
      rw [Nat.le_antisymm h (Nat.le_sub_one_of_lt hr)]
      exact decelFrom_runs ht hl
    · next h =>
      split
      · exact .climbing hl (Nat.lt_of_not_le h)
      · split
        · next hclimb =>
          simp only [moveMayClimb, Bool.and_eq_true, decide_eq_true_eq] at hclimb
          exact climbTo_runs ht (by omega) hclimb.2
        · exact cruiseAt_runs ht hl (Nat.le_sub_one_of_lt hr)

theorem rampBegin_runs {peak distance : Nat} (hd : 1 ≤ distance) : Runs table distance (rampBegin table peak distance) := by
  have hl : 0 < table.length := List.length_pos_iff.mpr ht.1
  unfold rampBegin
  split
  · exact .cruising hl hd
  · exact .climbing hl hd

theorem ride_runs {peak : Nat} (hp : peak < table.length) (n left : Nat) {rp : RampPos} (h : Runs table left rp) :
    Runs table (left - n) (ride table peak n left rp) := by
  induction n generalizing left rp with
  | zero => exact h
  | succ n ih =>
    rw [show left - (n + 1) = left - 1 - n by omega]
    exact ih (left - 1) (rampStep_runs ht hp h)

theorem coast_runs (n : Nat) {r : Nat} {rp : RampPos} (h : Runs table r rp) (hd : rp.part = .decel) :
    Runs table (r - n) (coast table n rp) := by
  induction n generalizing r rp with
  | zero => exact h
  | succ n ih =>
    rw [show r - (n + 1) = r - 1 - n by omega]
    refine ih (decelStep_runs ht h hd) ?_
    unfold decelStep decelFrom
    split
    · exact hd
    · split <;> rfl

end

/-- Settles O42: the ramp position of a segment runs with the microsteps left, and shows its end with none left alone. -/
theorem segmentEndsExactly : Obligations.SegmentEndsExactly := by
  intro table distance ht hd
  have hp : peakLevel table distance < table.length := topLevel_lt ht (peakLevel_le table distance)
  have hrun (n : Nat) := ride_runs ht hp n distance (rampBegin_runs ht (peak := peakLevel table distance) hd)
  refine ⟨(hrun distance).over_iff.mpr (Nat.sub_self _), fun n hn h => ?_⟩
  have := (hrun n).over_iff.mp h
  omega

/-- Settles O43: a deceleration runs with the microsteps left. -/
theorem stopDistanceExact : Obligations.StopDistanceExact := by
  intro table level ht hl
  have hdecel : (decelFrom table level).part = .decel := by cases level <;> rfl
  have hrun (n : Nat) := coast_runs ht n (decelFrom_runs ht (topLevel_lt ht hl)) hdecel
  refine ⟨(hrun _).over_iff.mpr (Nat.sub_self _), fun n hn h => ?_⟩
  have := (hrun n).over_iff.mp h
  omega

/-! ### The last segment of a move, event by event -/

theorem runAll_append (l k : List Instr) {s t : State} (h : runAll l s = .next t) :
    runAll (l ++ k) s = runAll k t := by
  induction l generalizing s with
  | nil =>
    cases h
    rfl
  | cons i l ih =>
    rw [List.cons_append, runAll]
    rw [runAll] at h
    cases hi : exec i s with
    | next u => rw [hi] at h; exact ih h
    | fault r => rw [hi] at h; cases h
    | refused r => rw [hi] at h; cases h

/-- One more command after those that are taken. -/
theorem runAll_replicate_succ {i : Instr} {n : Nat} {s t u : State} (h : runAll (List.replicate n i) s = .next t)
    (hi : exec i t = .next u) : runAll (List.replicate (n + 1) i) s = .next u := by
  rw [List.replicate_succ', runAll_append _ _ h, runAll, hi]
  rfl

/-- What the step events of the last segment of a move leave as it was, and the place of the channel with `r` microsteps
left (R8, R9). -/
structure LastSegment (c0 : Channel) (goal : Int) (r : Nat) (c : Channel) : Prop where
  state : c.state = .moving
  target : c.target = some goal
  segEnd : c.segEnd = goal
  dir : c.dir = c0.dir
  table : c.table = c0.table
  peak : c.peak = c0.peak
  energized : c.energized = c0.energized
  holdTimer : c.holdTimer = c0.holdTimer
  runs : Runs c0.table r c.ramp
  left : distanceTo c0.dir c.position goal = r

theorem microstep_left (c : Channel) (goal : Int) :
    distanceTo c.dir c.microstep.position goal = distanceTo c.dir c.position goal - 1 := by
  unfold Channel.microstep distanceTo
  cases c.dir <;> simp only <;> omega

/-- The channel after a microstep of a move, its ramp position with it. -/
def Channel.moveStepped (c : Channel) : Channel :=
  { c.microstep with
    ramp :=
      rampStep c.table c.peak (moveMayClimb c.table (distanceTo c.dir c.microstep.position c.segEnd).toNat)
        (distanceTo c.dir c.microstep.position c.segEnd).toNat c.ramp }

theorem moveStep_eq (c : Channel) :
    c.moveStep = if c.moveStepped.ramp = rampOver then c.moveStepped.segmentOver else .running c.moveStepped := rfl

theorem LastSegment.stepped {c0 c : Channel} {goal : Int} {r : Nat} (h : LastSegment c0 goal (r + 1) c)
    (ht : LengthsPositive c0.table) (hp : c0.peak < c0.table.length) : LastSegment c0 goal r c.moveStepped := by
  have hleft : distanceTo c.dir c.microstep.position c.segEnd = r := by
    rw [microstep_left, h.dir, h.segEnd, h.left]
    omega
  refine ⟨h.state, h.target, h.segEnd, h.dir, h.table, h.peak, h.energized, h.holdTimer, ?_, ?_⟩
  · show Runs c0.table r (rampStep c.table c.peak (moveMayClimb c.table _) _ c.ramp)
    rw [hleft, h.table, h.peak, Int.toNat_natCast]
    exact rampStep_runs ht hp h.runs
  · show distanceTo c0.dir c.microstep.position goal = r
    rw [← h.dir, ← h.segEnd]
    exact hleft

/-- With microsteps left the move goes on. -/
theorem LastSegment.moveStep_running {c0 c : Channel} {goal : Int} {r : Nat} (h : LastSegment c0 goal (r + 2) c)
    (ht : LengthsPositive c0.table) (hp : c0.peak < c0.table.length) : c.moveStep = .running c.moveStepped := by
  have hs := h.stepped ht hp
  rw [moveStep_eq, if_neg fun k => nomatch hs.runs.over_iff.mp k]

/-- With its last microstep the move ends at its target (R13). -/
theorem LastSegment.moveStep_ended {c0 c : Channel} {goal : Int} (h : LastSegment c0 goal 1 c)
    (ht : LengthsPositive c0.table) (hp : c0.peak < c0.table.length) :
    c.moveStep = .ended c.moveStepped.moveDone .done := by
  have hs := h.stepped ht hp
  have hat : c.moveStepped.target = some c.moveStepped.position := by
    have := hs.left
    rw [hs.target]
    unfold distanceTo at this
    split at this <;> congr 1 <;> omega
  rw [moveStep_eq, if_pos (hs.runs.over_iff.mpr rfl), Channel.segmentOver, hat]
  exact if_pos rfl

theorem exec_stepEvent {s : State} (h : s.powered = true) (a : Axis) : exec (.stepEvent a) s = .next (axisStep a s) :=
  event_taken h _

theorem axisStep_moving {s : State} {a : Axis} (h : (s.chan a).state = .moving) :
    axisStep a s = settleAndGrant a (s.chan a).moveStep s := by
  simp only [axisStep, h]

/-- Nothing queued and nothing held: a grant pass grants nothing (R37). -/
theorem grantPass_empty {s : State} (hq : s.sched.queue = []) (hh : s.sched.held = []) : grantPass s = s := by
  simp [grantPass, grantPassN, hq, hh]

theorem State.setChan_self (s : State) (a : Axis) : s.setChan a (s.chan a) = s := by cases a <;> rfl

theorem State.setChan_twice (s : State) (a : Axis) (c d : Channel) : (s.setChan a c).setChan a d = s.setChan a d := by
  cases a <;> rfl

theorem endMotion_chan (a b : Axis) (c : Channel) (e : Ending) (s : State) :
    (endMotion a c e s).chan b = (s.setChan a c).chan b := by
  unfold endMotion
  rw [deliverRecord_chan]
  rfl

theorem endMotion_queue (a : Axis) (c : Channel) (e : Ending) (s : State) :
    (endMotion a c e s).sched.queue = s.sched.queue ∧ (endMotion a c e s).sched.held = s.sched.held := by
  unfold endMotion
  rw [deliverRecord_sched_eq]
  exact ⟨rfl, rfl⟩

/-- The start of the last segment, with all of it left. -/
theorem lastSegment_begin {c : Channel} {goal : Int} {dist : Nat} (hs : c.state = .moving) (ht : c.target = some goal)
    (he : c.segEnd = goal) (hd : dist = (goal - c.position).natAbs) (h1 : 1 ≤ dist)
    (hdir : c.dir = if c.position < goal then .pos else .neg) (hl : LengthsPositive c.table)
    (hr : c.ramp = rampBegin c.table c.peak dist) : LastSegment c goal dist c := by
  refine ⟨hs, ht, he, rfl, rfl, rfl, rfl, rfl, hr ▸ rampBegin_runs hl h1, ?_⟩
  rw [hdir]
  split <;> simp only [distanceTo] <;> omega

/-- The events before the last leave the axis alone in motion, `dist - n` microsteps before its target. -/
theorem run_lastSegment {s : State} {a : Axis} {goal : Int} {dist : Nat} (hp : s.powered = true)
    (hbegin : LastSegment (s.chan a) goal dist (s.chan a)) (ht : LengthsPositive (s.chan a).table)
    (hpeak : (s.chan a).peak < (s.chan a).table.length) (n : Nat) (hn : n < dist) :
    ∃ c, runAll (List.replicate n (.stepEvent a)) s = .next (s.setChan a c)
      ∧ LastSegment (s.chan a) goal (dist - n) c := by
  induction n with
  | zero => exact ⟨s.chan a, by rw [State.setChan_self]; rfl, hbegin⟩
  | succ n ih =>
    obtain ⟨c, hrun, hc⟩ := ih (by omega)
    obtain ⟨k, hk⟩ : ∃ k, dist - n = k + 2 := ⟨dist - n - 2, by omega⟩
    rw [hk] at hc
    refine ⟨c.moveStepped, runAll_replicate_succ hrun ?_, ?_⟩
    · rw [exec_stepEvent (s := s.setChan a c) hp, axisStep_moving (by rw [State.setChan_chan_same]; exact hc.state), State.setChan_chan_same,
        hc.moveStep_running ht hpeak]
      exact congrArg _ (State.setChan_twice ..)
    · rw [show dist - (n + 1) = k + 1 by omega]
      exact hc.stepped ht hpeak

/-- Settles O44: the profile counts the microsteps down, and its end is the end of the move. -/
theorem moveReachesTarget : Obligations.MoveReachesTarget := by
  intro s a goal dist hp hstate htarget hend hdist h1 hdir ht hpeak hramp hqueue hheld n hn
  have hbegin := lastSegment_begin hstate htarget hend hdist h1 hdir ht hramp
  have hlt : (s.chan a).peak < (s.chan a).table.length := hpeak ▸ topLevel_lt ht (peakLevel_le _ _)
  have hplace {r : Nat} {c : Channel} (hc : LastSegment (s.chan a) goal r c) (hr : r = dist - n) :
      c.position = if (s.chan a).position < goal then (s.chan a).position + n else (s.chan a).position - n := by
    have hleft := hc.left
    rw [hdir] at hleft
    split at hleft
    · next h =>
      rw [if_pos h]
      simp only [distanceTo] at hleft
      omega
    · next h =>
      rw [if_neg h]
      simp only [distanceTo] at hleft
      omega
  rcases Nat.lt_or_eq_of_le hn with hlast | rfl
  · obtain ⟨c, hrun, hc⟩ := run_lastSegment hp hbegin ht hlt n hlast
    refine ⟨_, hrun, ?_, fun _ => ?_, fun k => absurd k (Nat.ne_of_lt hlast)⟩
    · rw [State.setChan_chan_same]
      exact hplace hc rfl
    · rw [State.setChan_chan_same]
      exact hc.state
  · obtain ⟨k, rfl⟩ : ∃ k, n = k + 1 := ⟨n - 1, by omega⟩
    obtain ⟨c, hrun, hc⟩ := run_lastSegment hp hbegin ht hlt k (Nat.lt_succ_self k)
    rw [Nat.add_sub_cancel_left] at hc
    obtain ⟨hq, hh⟩ := endMotion_queue a c.moveStepped.moveDone .done (s.setChan a c)
    have hexec : exec (.stepEvent a) (s.setChan a c) =
        .next (endMotion a c.moveStepped.moveDone .done (s.setChan a c)) := by
      rw [exec_stepEvent (s := s.setChan a c) hp, axisStep_moving (by rw [State.setChan_chan_same]; exact hc.state), State.setChan_chan_same,
        hc.moveStep_ended ht hlt]
      exact congrArg _ (grantPass_empty (hq.trans hqueue) (hh.trans hheld))
    have hstepped := hc.stepped ht hlt
    have hpos : c.moveStepped.position = goal := by
      have := hstepped.left
      unfold distanceTo at this
      split at this <;> omega
    refine ⟨_, runAll_replicate_succ hrun hexec, ?_, fun k => absurd k (Nat.lt_irrefl _), fun _ => ?_⟩
    · rw [endMotion_chan, State.setChan_chan_same]
      show c.moveStepped.position = _
      exact hplace hstepped (Nat.sub_self _).symm
    · rw [endMotion_chan, State.setChan_chan_same]
      refine ⟨hpos, rfl, rfl, rfl, ?_⟩
      rw [← hstepped.energized, ← hstepped.holdTimer]
      rfl

/-! ### The excess of a demand -/

theorem roundHalfAway_neg (n : Int) (d : Nat) : roundHalfAway (-n) d = -roundHalfAway n d := by
  rcases Int.lt_trichotomy n 0 with h | rfl | h
  · rw [roundHalfAway, roundHalfAway, if_neg (by omega), if_pos h, Int.natAbs_neg, Int.neg_neg]
  · have hz : roundHalfAway 0 d = 0 := by
      rcases Nat.eq_zero_or_pos d with rfl | hd
      · rfl
      · rw [roundHalfAway, if_neg (by decide)]
        exact_mod_cast Nat.div_eq_of_lt (show 2 * 0 + d < 2 * d by omega)
    rw [Int.neg_zero, hz]
    rfl
  · rw [roundHalfAway, roundHalfAway, if_pos (by omega), if_neg (by omega), Int.natAbs_neg]

theorem roundHalfAway_nonneg {n : Int} (h : 0 ≤ n) (d : Nat) : 0 ≤ roundHalfAway n d := by
  rw [roundHalfAway, if_neg (by omega)]
  exact Int.natCast_nonneg _

/-- A carriage distance below that of a demand is worth no more than the demand (R51, R52). -/
theorem roundHalfAway_within {p x : Int} {k : Nat} (hk : 256 ≤ k) (hx : 0 ≤ x) (hp : 0 ≤ p)
    (h : x < roundHalfAway (p * k) 256) : roundHalfAway (x * 256) k ≤ p := by
  obtain ⟨p, rfl⟩ := Int.eq_ofNat_of_zero_le hp
  obtain ⟨x, rfl⟩ := Int.eq_ofNat_of_zero_le hx
  have hpk : ¬((p : Int) * k < 0) := Int.not_lt.mpr (Int.mul_nonneg hp (Int.natCast_nonneg k))
  have hx256 : ¬((x : Int) * 256 < 0) := by omega
  rw [roundHalfAway, if_neg hpk, show ((p : Int) * k).natAbs = p * k by rw [← Int.natCast_mul, Int.natAbs_natCast]] at h
  rw [roundHalfAway, if_neg hx256, show ((x : Int) * 256).natAbs = x * 256 by omega]
  have hle : (2 * (x * 256) + k) / (2 * k) < p + 1 := by
    rw [Nat.div_lt_iff_lt_mul (by omega)]
    have hnum : x < (2 * (p * k) + 256) / (2 * 256) := by exact_mod_cast h
    have : (p + 1) * (2 * k) = 2 * (p * k) + 2 * k := by rw [Nat.succ_mul, Nat.mul_left_comm]
    omega
  exact_mod_cast Nat.le_of_lt_succ hle

theorem shiftExcess_within {st : Settings} {o : Orientation} {p : Int} (h1 : (st.softMin : Int) ≤ shiftRaw st o p)
    (h2 : shiftRaw st o p ≤ st.softMax) : shiftExcess st o p = 0 := by
  have hclamp : softClamp st (shiftRaw st o p) = shiftRaw st o p := by
    rw [softClamp, clampInt, if_neg (by omega), if_neg (by omega)]
  rw [shiftExcess, if_pos hclamp]

/-- A raw target above the soft limits is moved onto softMax (R52). -/
theorem shiftExcess_above {st : Settings} {o : Orientation} {p : Int} (hs : st.softMin ≤ st.softMax)
    (h : st.softMax < shiftRaw st o p) :
    shiftExcess st o p = p - orientationSign o * roundHalfAway ((st.softMax - st.centre) * 256) st.k := by
  have hclamp : softClamp st (shiftRaw st o p) = st.softMax := by
    rw [softClamp, clampInt, if_neg (by omega), if_pos h]
  rw [shiftExcess, hclamp, if_neg (Int.ne_of_lt h), shiftPermilleRaw]

/-- A raw target below the soft limits is moved onto softMin (R52). -/
theorem shiftExcess_below {st : Settings} {o : Orientation} {p : Int} (h : shiftRaw st o p < st.softMin) :
    shiftExcess st o p = p + orientationSign o * roundHalfAway ((st.centre - st.softMin) * 256) st.k := by
  have hclamp : softClamp st (shiftRaw st o p) = st.softMin := by
    rw [softClamp, clampInt, if_pos h]
  rw [shiftExcess, hclamp, if_neg (Int.ne_of_gt h), shiftPermilleRaw,
    show ((st.softMin : Int) - st.centre) * 256 = -((st.centre - st.softMin) * 256) by omega, roundHalfAway_neg, Int.mul_neg,
    Int.sub_neg]

/-- Settles O34: a limit that the raw target passes is worth between 0 and the demand. -/
theorem excessWithinDemand : Obligations.ExcessWithinDemand := by
  intro st o p hmin hmax hk _ _
  have hpart {q y : Int} (hq : 0 ≤ q) (hy : 0 ≤ y) (h : y < roundHalfAway (q * st.k) 256) :
      0 ≤ roundHalfAway (y * 256) st.k ∧ roundHalfAway (y * 256) st.k ≤ q :=
    ⟨roundHalfAway_nonneg (by omega) _, roundHalfAway_within hk hy hq h⟩
  have hraw : shiftRaw st o p = st.centre + orientationSign o * roundHalfAway (p * st.k) 256 := rfl
  have hneg : roundHalfAway (p * st.k) 256 = -roundHalfAway (-p * st.k) 256 := by
    rw [Int.neg_mul, roundHalfAway_neg, Int.neg_neg]
  have hpos (h : 0 ≤ p) : 0 ≤ roundHalfAway (p * st.k) 256 := roundHalfAway_nonneg (Int.mul_nonneg h (Int.natCast_nonneg _)) _
  have hposn (h : 0 ≤ -p) : 0 ≤ roundHalfAway (-p * st.k) 256 := roundHalfAway_nonneg (Int.mul_nonneg h (Int.natCast_nonneg _)) _
  by_cases hlow : shiftRaw st o p < st.softMin
  · rw [shiftExcess_below hlow]
    refine ⟨fun h => absurd hlow (Int.not_lt.mpr h), fun h => ?_, fun h => ?_⟩
    · cases o with
      | floor =>
        simp only [orientationSign] at hraw
        have := hpos h
        omega
      | ceiling =>
        simp only [orientationSign] at hraw ⊢
        have := hpart h (y := st.centre - st.softMin) (by omega) (by omega)
        omega
    · cases o with
      | floor =>
        simp only [orientationSign] at hraw ⊢
        have := hpart (q := -p) (y := st.centre - st.softMin) (by omega) (by omega) (by omega)
        omega
      | ceiling =>
        simp only [orientationSign] at hraw
        have := hposn (by omega)
        omega
  · by_cases hhigh : (st.softMax : Int) < shiftRaw st o p
    · rw [shiftExcess_above (by omega) hhigh]
      refine ⟨fun _ h => absurd hhigh (Int.not_lt.mpr h), fun h => ?_, fun h => ?_⟩
      · cases o with
        | floor =>
          simp only [orientationSign] at hraw ⊢
          have := hpart h (y := st.softMax - st.centre) (by omega) (by omega)
          omega
        | ceiling =>
          simp only [orientationSign] at hraw
          have := hpos h
          omega
      · cases o with
        | floor =>
          simp only [orientationSign] at hraw
          have := hposn (by omega)
          omega
        | ceiling =>
          simp only [orientationSign] at hraw ⊢
          have := hpart (q := -p) (y := st.softMax - st.centre) (by omega) (by omega) (by omega)
          omega
    · rw [shiftExcess_within (by omega) (by omega)]
      exact ⟨fun _ _ => rfl, fun h => ⟨Int.le_refl 0, h⟩, fun h => ⟨h, Int.le_refl 0⟩⟩

/-! ### Ramp tables -/

theorem intervalsFall_iff (t : List RampLevel) :
    intervalsFall t = true ↔ ∀ n x y, t[n]? = some x → t[n + 1]? = some y → y.interval ≤ x.interval := by
  induction t with
  | nil => simp [intervalsFall]
  | cons a t ih =>
    cases t with
    | nil => simp [intervalsFall]
    | cons b t =>
      rw [intervalsFall, Bool.and_eq_true, decide_eq_true_eq, ih]
      constructor
      · rintro ⟨hab, h⟩ (_ | n) x y hx hy
        · cases hx
          cases hy
          exact hab
        · exact h n x y hx hy
      · exact fun h => ⟨h 0 a b rfl rfl, fun n x y hx hy => h (n + 1) x y hx hy⟩

/-- The checks of R7 on a table of parameters. -/
theorem tableInRange_iff (l : List LevelParam) :
    tableInRange (tableOfParams l) = true ↔
      1 ≤ l.length ∧ l.length ≤ 12
        ∧ (∀ x ∈ l, 50 ≤ x.interval.toNat ∧ x.interval.toNat ≤ 5000 ∧ 1 ≤ x.length.toNat)
        ∧ ∀ (n : Nat) (x y : LevelParam), l[n]? = some x → l[n + 1]? = some y → y.interval.toNat ≤ x.interval.toNat := by
  have hbyte (x : LevelParam) : x.length.toNat ≤ 255 := by
    have := x.length.isLt
    omega
  simp only [tableInRange, tableOfParams, List.length_map, Bool.and_eq_true, decide_eq_true_eq, List.all_eq_true,
    List.mem_map, forall_exists_index, and_imp, forall_apply_eq_imp_iff₂, intervalsFall_iff, List.getElem?_map,
    Option.map_eq_some_iff, hbyte, and_true, and_assoc]
  refine and_congr_right fun _ => and_congr_right fun _ => and_congr_right fun _ => ?_
  constructor
  · exact fun h n x y hx hy => h n _ _ x hx rfl y hy rfl
  · rintro h n _ _ x hx rfl y hy rfl
    exact h n x y hx hy

theorem setRamp_exec {r : Req} {s : State} (h : Takes s r .systemOnly) (a : Axis) {l : List LevelParam}
    (hl : l.length ≤ 22) :
    exec (.setRamp r (axisByte a) l) s =
      .next
        (if settable (s.chan a).state then
          if tableInRange (tableOfParams l) then
            answered r okReply (s.setChan a { s.chan a with table := tableOfParams l })
          else answered r (refuse .range) s
        else answered r (refuse .busy) s) := by
  simp only [exec, execSetRamp, if_pos hl, request_taken h, onAxis_axisByte]
  split
  · split <;> rfl
  · rfl

/-- Settles O40: the checks of SET_RAMP in their order. -/
theorem rampTableWritten : Obligations.RampTableWritten := by
  intro s r a l h hl
  rw [setRamp_exec h a hl]
  refine ⟨fun hm => ?_, fun hr => ?_⟩
  · have hno : settable (s.chan a).state = false := by
      rcases hm with hm | hm <;> cases hst : (s.chan a).state <;> rw [hst] at hm <;> first | rfl | cases hm
    rw [hno]
    rfl
  · have hyes : settable (s.chan a).state = true := by
      rcases hr with hr | hr | hr <;> rw [hr] <;> rfl
    rw [hyes]
    refine ⟨fun hin => ?_, fun hout => ?_⟩
    · rw [(tableInRange_iff l).mpr hin]
      rfl
    · have hno : tableInRange (tableOfParams l) = false := by
        rw [← Bool.not_eq_true, tableInRange_iff]
        rintro ⟨h1, h12, hall, hfall⟩
        rcases hout with hz | hm | ⟨x, hx, hbad⟩ | ⟨n, x, y, hx, hy, hlt⟩
        · omega
        · omega
        · have := hall x hx
          omega
        · exact absurd (hfall n x y hx hy) (Nat.not_le.mpr hlt)
      rw [hno]
      rfl

end Sys2Proof.Machine
end

section
/-! PROOFS. Rules for the endings of motions and for the requests that place them (R30 to R34, R37, R50 to R56, R172). -/

namespace Sys2Proof.Machine

/-! ### Grant passes that grant nothing -/

theorem grantPassN_none {s : State} (h : NoGrant s) (n : Nat) : grantPassN n s = s := by
  cases n with
  | zero => rfl
  | succ n =>
    unfold grantPassN
    rw [if_neg]
    rcases h with h | h
    · simp [h]
    · simp [Nat.not_lt.mpr h]

/-- With no FREE slot or no allowance left a grant pass grants nothing (R37). -/
theorem grantPass_none {s : State} (h : NoGrant s) : grantPass s = s := grantPassN_none h _

/-- Whether a grant is possible depends on the slots, the die allowance and the phase alone. -/
theorem NoGrant.of_eq {s t : State} (h : NoGrant s) (h1 : t.sched.slot1 = s.sched.slot1)
    (h2 : t.sched.slot2 = s.sched.slot2) (hd : t.sched.dieAllow = s.sched.dieAllow) (hp : t.phase = s.phase) :
    NoGrant t := by
  unfold NoGrant allowance Scheduler.hasFree Scheduler.grantedCount at *
  rw [h1, h2, hd, hp]
  exact h

/-! ### Demand records -/

theorem recompute_recomputed (s : State) : Recomputed s (recompute s) := by
  unfold Recomputed recompute
  split
  · next h => rw [h]; rfl
  · next h => rw [h]; rfl
  · next h =>
    intro n hn
    simp only [h, hn, startCompute, Option.getD_some]
    rfl

theorem writeInputs_to (x : Inputs) (s : State) : InputsTo x s (writeInputs x s) := by
  unfold writeInputs
  refine ⟨fun h => by rw [if_pos h], fun h => ?_⟩
  rw [if_neg h]
  exact recompute_recomputed _

theorem writeDemand_written {a : Axis} (h : isShift a = true) (d : DemandRec) (s : State) :
    DemandWritten a d s (writeDemand a d s) := by
  cases a with
  | sh => exact writeInputs_to _ _
  | sv => exact writeInputs_to _ _
  | zm => cases h
  | fc => cases h

theorem recompute_port (s : State) (p : Port) : (recompute s).port p = s.port p := by
  unfold recompute
  cases p <;> split <;> rfl

theorem writeInputs_port (x : Inputs) (s : State) (p : Port) : (writeInputs x s).port p = s.port p := by
  unfold writeInputs
  split
  · rfl
  · rw [recompute_port]
    cases p <;> rfl

theorem writeDemand_port (a : Axis) (d : DemandRec) (s : State) (p : Port) : (writeDemand a d s).port p = s.port p := by
  unfold writeDemand
  rw [writeInputs_port]
  cases p <;> rfl

theorem shiftEnding_port (a : Axis) (m : MotionRec) (e : Ending) (s : State) (p : Port) :
    (shiftEnding a m e s).port p = s.port p := by
  unfold shiftEnding
  split
  · split
    · exact writeDemand_port _ _ _ _
    · rfl
  · rfl

theorem deliverFocus_port (a : Axis) (m : MotionRec) (e : Ending) (s : State) (p : Port) :
    (deliverFocus a m e s).port p = s.port p := by
  unfold deliverFocus
  split
  · cases p <;> rfl
  · rfl

/-! ### Endings told to a port -/

/-- An ending with no recall link goes to the port of its origin as a notice with its flag (R34). -/
theorem deliverTo_port {m : MotionRec} {p : Port} (hl : m.link = none) (ho : originPort m.origin = some p) (a : Axis)
    (e : Ending) (s : State) :
    deliverTo .byNotice a m e s = s.setPort p ((s.port p).told a m.tag e (endingEvent e)) := by
  unfold deliverTo
  rw [hl]
  cases hm : m.origin <;> rw [hm] at ho <;> cases ho <;> simp only [notifyMove, hm] <;> rfl

/-- An ending of a port's motion: what it brings to the shift unit and the tracker, then its notice. -/
theorem deliver_port {m : MotionRec} {p : Port} (hl : m.link = none) (ho : originPort m.origin = some p) (a : Axis)
    (e : Ending) (s : State) :
    deliver .byNotice a m e s =
      (deliverFocus a m e (shiftEnding a m e s)).setPort p ((s.port p).told a m.tag e (endingEvent e)) := by
  unfold deliver
  rw [deliverTo_port hl ho, deliverFocus_port, shiftEnding_port]

/-- An ending that neither unit takes up: REPLACED, or one of a motion that never ran (R54, R172; log 20). -/
def Unfelt (m : MotionRec) (e : Ending) : Prop := e = .replaced ∨ m.ran = false ∧ e ≠ .done

theorem shiftEnding_unfelt {m : MotionRec} {e : Ending} (h : Unfelt m e) (a : Axis) (s : State) :
    shiftEnding a m e s = s := by
  have hnone : demandAfter s a m e = none := by
    rcases h with rfl | ⟨hr, hd⟩
    · rfl
    · cases e <;> simp_all [demandAfter]
  simp [shiftEnding, hnone]

theorem userFocusEnding_unfelt {m : MotionRec} {e : Ending} (h : Unfelt m e) (x : Int) (t : Tracker) :
    userFocusEnding m e x t = t := by
  unfold userFocusEnding
  rcases h with rfl | ⟨hr, hd⟩
  · split <;> rfl
  · cases e <;> split <;> simp_all

theorem deliverFocus_unfelt {m : MotionRec} {e : Ending} (h : Unfelt m e) (a : Axis) (s : State) :
    deliverFocus a m e s = s := by
  simp only [deliverFocus, userFocusEnding_unfelt h]
  split <;> rfl

theorem deliver_unfelt {m : MotionRec} {p : Port} {e : Ending} (h : Unfelt m e) (hl : m.link = none)
    (ho : originPort m.origin = some p) (a : Axis) (s : State) :
    deliver .byNotice a m e s = s.setPort p ((s.port p).told a m.tag e (endingEvent e)) := by
  rw [deliver_port hl ho, shiftEnding_unfelt h, deliverFocus_unfelt h]

/-- An entry of a port that ends before it ran is told to its port, and nothing else follows (R34, R54). -/
theorem deliverEntry_told {en : Entry} {p : Port} {e : Ending} (hl : en.link = none) (ho : originPort en.origin = some p)
    (he : e ≠ .done) (s : State) :
    deliverEntry .byNotice en e s = s.setPort p ((s.port p).told en.axis en.tag e (endingEvent e)) :=
  deliver_unfelt (.inr ⟨rfl, he⟩) hl ho en.axis s

theorem deliverRecord_some {s : State} {a : Axis} {m : MotionRec} (h : s.sched.records.get a = some m) (e : Ending) :
    deliverRecord a e s = deliver .byNotice a m e (s.withSched (s.sched.setRecord a none)) := by
  simp only [deliverRecord, h]

/-- The queue without the entry of an axis, and the ending told to its port. -/
theorem removeEntry_told {en : Entry} {p : Port} {e : Ending} (hl : en.link = none) (ho : originPort en.origin = some p)
    (he : e ≠ .done) (s : State) :
    removeEntry en e s =
      (s.withSched (s.sched.without en.axis)).setPort p ((s.port p).told en.axis en.tag e (endingEvent e)) := by
  unfold removeEntry
  rw [deliverEntry_told hl ho he]
  cases p <;> rfl

theorem entryOf_axis {q : Scheduler} {a : Axis} {en : Entry} (h : q.entryOf a = some en) : en.axis = a := by
  simpa using List.find?_some h

/-! ### Admission of a port's request -/

theorem admissionCheck_admits {s : State} {a : Axis} {m m0 : Motion} (h : Admits s a m) (hm : m0 = .home ↔ m = .home)
    (o : Origin) : admissionCheck s a m0 o = none := by
  obtain ⟨hpresent, hphase, href⟩ := h
  unfold admissionCheck
  rw [if_neg hpresent, if_neg, if_neg]
  · rcases href with href | href
    · simp [hm.mpr href]
    · simp [href]
  · simp only [phaseRefuses] at hphase
    simp [hphase]

/-- A motion request of a port that passes the checks and is queued (R30, R31). -/
theorem motionRequest_queued {r : Req} {a : Axis} {m : Motion} {shift : Option ShiftPart} {s u : State}
    (hcheck : admissionCheck s a m (portOrigin r.port) = none)
    (hplace : placeEntry (portEntry r a (placedMotion s a m) shift) s = (u, .queued)) (c : Bool) :
    motionRequest r a m shift c s = (grantPass u, { status := .queued, clamped := c || placingClamps s a m }) := by
  have hadmit : admission (portEntry r a m shift) s = (u, .queued) := hplace
  unfold portEntry at hadmit
  simp only [motionRequest, hcheck, hadmit, admittedReply]

/-- A motion request of a port that ends at once (R33). -/
theorem motionRequest_atOnce {r : Req} {a : Axis} {m : Motion} {shift : Option ShiftPart} {s u : State}
    (hcheck : admissionCheck s a m (portOrigin r.port) = none)
    (hplace : placeEntry (portEntry r a (placedMotion s a m) shift) s = (u, .atOnce)) (c : Bool) :
    motionRequest r a m shift c s =
      (u, { status := .ok, clamped := c || placingClamps s a m, result := true, data := [.u 1 1] }) := by
  have hadmit : admission (portEntry r a m shift) s = (u, .atOnce) := hplace
  unfold portEntry at hadmit
  simp only [motionRequest, hcheck, hadmit, admittedReply]

theorem motionRequest_refused {r : Req} {a : Axis} {m : Motion} {s : State} {x : Status}
    (hcheck : admissionCheck s a m (portOrigin r.port) = some x) (shift : Option ShiftPart) (c : Bool) :
    motionRequest r a m shift c s = (s, refuse x) := by
  simp only [motionRequest, hcheck]

theorem clampInt_ne_iff (lo hi x : Int) : clampInt lo hi x ≠ x ↔ x < lo ∨ hi < x := by
  unfold clampInt
  split
  · omega
  · split <;> omega

theorem isShift_iff (a : Axis) : isShift a = true ↔ a = .sh ∨ a = .sv := by cases a <;> decide

theorem originPort_portOrigin (p : Port) : originPort (portOrigin p) = some p := by cases p <;> rfl

/-- The motion that the request of a `MotionAsk` carries, before R31 places it. -/
theorem MotionAsk.carried {s : State} {r : Req} {a : Axis} {i : Instr} {m : Motion} {k : Bool}
    (h : MotionAsk s r a i m k) (ht : portTakes s r.port = true) :
    ∃ m0,
      exec i s = .next (answered r (motionRequest r a m0 none false s).2 (motionRequest r a m0 none false s).1)
        ∧ placedMotion s a m0 = m ∧ placingClamps s a m0 = k ∧ (m0 = .home ↔ m = .home) := by
  have htakes := request_taken (c := .bothPorts) ⟨ht, rfl⟩
  cases h with
  | move t hu =>
    refine ⟨.move t.toInt, ?_, rfl, ?_, by simp⟩
    · simp only [exec, execMove, htakes, onAxis_axisByte, moveRequest, hu]
    · simp only [placingClamps, softClamp, clampInt_ne_iff]
  | home =>
    refine ⟨.home, ?_, rfl, rfl, .rfl⟩
    simp only [exec, execHome, htakes, onAxis_axisByte]
  | jog d l ho =>
    refine ⟨.jog d l.toNat Config.keepCount, ?_, ?_, rfl, by simp⟩
    · simp only [exec, execJog, htakes, onAxis_axisByte, dirOfCode_dirByte]
    · have hno : (isShift a && decide (s.geom.inputs.orientation = .ceiling)) = false := by
        rw [← Bool.not_eq_true, Bool.and_eq_true, decide_eq_true_eq, isShift_iff]
        exact fun k => ho ⟨k.2, k.1⟩
      simp only [placedMotion, hno]
      rfl
  | jogTurned d e l hd ho =>
    refine ⟨.jog d l.toNat Config.keepCount, ?_, ?_, rfl, by simp⟩
    · simp only [exec, execJog, htakes, onAxis_axisByte, dirOfCode_dirByte]
    · have hyes : (isShift a && decide (s.geom.inputs.orientation = .ceiling)) = true := by
        rw [Bool.and_eq_true, decide_eq_true_eq, isShift_iff]
        exact ⟨ho.2, ho.1⟩
      simp only [placedMotion, hyes]
      cases d <;> cases e <;> first | rfl | exact absurd rfl hd

/-- An admitted request that is placed: QUEUED after the grant pass (R31). -/
theorem MotionAsk.queued {s u : State} {r : Req} {a : Axis} {i : Instr} {m : Motion} {k : Bool}
    (h : MotionAsk s r a i m k) (ht : portTakes s r.port = true) (ha : Admits s a m)
    (hplace : placeEntry (portEntry r a m none) s = (u, .queued)) :
    exec i s = .next (answered r { status := .queued, clamped := k } (grantPass u)) := by
  obtain ⟨m0, hexec, hm, hk, hhome⟩ := h.carried ht
  rw [hexec, motionRequest_queued (admissionCheck_admits ha hhome _) (hm ▸ hplace), hk, Bool.false_or]

/-- An admitted request that ends at once (R33). -/
theorem MotionAsk.atOnce {s u : State} {r : Req} {a : Axis} {i : Instr} {m : Motion} {k : Bool}
    (h : MotionAsk s r a i m k) (ht : portTakes s r.port = true) (ha : Admits s a m)
    (hplace : placeEntry (portEntry r a m none) s = (u, .atOnce)) :
    exec i s = .next (answered r { status := .ok, clamped := k, result := true, data := [.u 1 1] } u) := by
  obtain ⟨m0, hexec, hm, hk, hhome⟩ := h.carried ht
  rw [hexec, motionRequest_atOnce (admissionCheck_admits ha hhome _) (hm ▸ hplace), hk, Bool.false_or]

/-! ### Placing -/

theorem completesAtOnce_iff (s : State) (en : Entry) :
    completesAtOnce s en = true ↔
      (s.chan en.axis).state = .idle ∧ s.sched.entryOf en.axis = none
        ∧ en.motion = .move (s.chan en.axis).position := by
  simp [completesAtOnce, Bool.and_eq_true, and_assoc]

/-- An entry that joins the tail (R31). -/
theorem placeEntry_tail {s : State} {en : Entry} (h : JoinsTail s en.axis en.motion) :
    placeEntry en s = (s.withSched (s.sched.append en), .queued) := by
  obtain ⟨hnone, hheld, hdone⟩ := h
  have hno : completesAtOnce s en = false := by
    rw [← Bool.not_eq_true, completesAtOnce_iff]
    exact fun k => hdone ⟨k.1, k.2.2⟩
  simp only [placeEntry, hnone, if_neg hheld, hno]
  rfl

/-- Settles O28: the entry joins the tail and no grant follows. -/
theorem motionQueued : Obligations.MotionQueued := by
  intro s r a i m k h ht ha hj hn
  rw [h.queued ht ha (placeEntry_tail (en := portEntry r a m none) hj), grantPass_none]
  · rfl
  · exact hn.of_eq rfl rfl rfl rfl

theorem shiftAxisOfCode_axisByte {a : Axis} (h : isShift a = true) : shiftAxisOfCode (axisByte a) = some a := by
  cases a with
  | sh => rfl
  | sv => rfl
  | zm => cases h
  | fc => cases h

/-- A demand of a shift axis that is present is a motion request to its carriage target (R52). -/
theorem shiftRequest_present {s : State} {a : Axis} (h : (s.chan a).state ≠ .absent) (r : Req) (p : Int) :
    shiftRequest r a p s =
      motionRequest r a
        (.move
          (softClamp (s.chan a).settings (shiftRaw (s.chan a).settings s.geom.inputs.orientation (demandClamp p))))
        (some ⟨demandClamp p, shiftExcess (s.chan a).settings s.geom.inputs.orientation (demandClamp p)⟩)
        (decide (demandClamp p ≠ p)) s := by
  simp only [shiftRequest, if_neg h]

theorem execShift_taken {s : State} {r : Req} {a : Axis} (h : isShift a = true) (ht : portTakes s r.port = true) (p : Half) :
    exec (.shift r (axisByte a) p) s =
      .next (answered r (shiftRequest r a p.toInt s).2 (shiftRequest r a p.toInt s).1) := by
  simp only [exec, execShift, request_taken (c := .bothPorts) ⟨ht, rfl⟩, shiftAxisOfCode_axisByte h]

theorem execMove_taken {s : State} {r : Req} (ht : portTakes s r.port = true) (a : Axis) (t : Quadword) :
    exec (.move r (axisByte a) t) s =
      .next (answered r (moveRequest r a t.toInt s).2 (moveRequest r a t.toInt s).1) := by
  simp only [exec, execMove, request_taken (c := .bothPorts) ⟨ht, rfl⟩, onAxis_axisByte]

theorem moveRequest_shift {s : State} {r : Req} {a : Axis} (hu : unitOf (s.port r.port).unit r.qual = .permille)
    (h : isShift a = true) (t : Int) : moveRequest r a t s = shiftRequest r a t s := by
  simp only [moveRequest, hu, h, if_true]

theorem moveRequest_travel {s : State} {r : Req} {a : Axis} (hu : unitOf (s.port r.port).unit r.qual = .permille)
    (h : isShift a = false) (t : Int) : moveRequest r a t s = travelRequest r a t s := by
  simp only [moveRequest, hu, h]
  rfl

/-- Each motion request carries a motion, but for a demand of an absent axis (R53). -/
theorem MotionRequest.carried {s : State} {r : Req} {a : Axis} {i : Instr} {home demand : Bool}
    (h : MotionRequest s r a i home demand) (ht : portTakes s r.port = true)
    (hd : (s.chan a).state = .absent → demand = false) :
    ∃ m shift c,
      exec i s = .next (answered r (motionRequest r a m shift c s).2 (motionRequest r a m shift c s).1)
        ∧ (m = .home ↔ home = true) := by
  have htakes := request_taken (c := .bothPorts) ⟨ht, rfl⟩
  cases h with
  | move t hu =>
    refine ⟨.move t.toInt, none, false, ?_, by simp⟩
    rw [execMove_taken ht, moveRequest, hu]
  | permille t hu =>
    cases hs : isShift a with
    | true =>
      have hpresent : (s.chan a).state ≠ .absent := fun k => by
        have := of_decide_eq_false (hd k)
        exact this ((isShift_iff a).mp hs)
      rw [execMove_taken ht, moveRequest_shift hu hs, shiftRequest_present hpresent]
      exact ⟨_, _, _, rfl, by simp⟩
    | false =>
      rw [execMove_taken ht, moveRequest_travel hu hs]
      exact ⟨_, _, _, rfl, by simp⟩
  | shift p hs =>
    have hpresent : (s.chan a).state ≠ .absent := fun k => nomatch hd k
    rw [execShift_taken ((isShift_iff a).mpr hs) ht, shiftRequest_present hpresent]
    exact ⟨_, _, _, rfl, by simp⟩
  | home =>
    refine ⟨.home, none, false, ?_, by simp⟩
    simp only [exec, execHome, htakes, onAxis_axisByte]
  | jog d l =>
    refine ⟨.jog d l.toNat Config.keepCount, none, false, ?_, by simp⟩
    simp only [exec, execJog, htakes, onAxis_axisByte, dirOfCode_dirByte]

/-- A motion request of a port is shut out in START, COOLDOWN and FAULT (R30). -/
theorem admissionCheck_phase {s : State} {a : Axis} (hs : (s.chan a).state ≠ .absent)
    (hp : phaseRefuses s.phase.phase = true) (m : Motion) (p : Port) :
    admissionCheck s a m (portOrigin p) = some .wrongPhase := by
  unfold phaseRefuses at hp
  rw [admissionCheck, if_neg hs, if_pos (by rw [originPort_portOrigin]; exact hp)]

theorem admissionCheck_reference {s : State} {a : Axis} {m : Motion} (hs : (s.chan a).state ≠ .absent)
    (hp : phaseRefuses s.phase.phase = false) (hm : m ≠ .home) (hr : (s.chan a).referenced = false) (p : Port) :
    admissionCheck s a m (portOrigin p) = some .notReferenced := by
  unfold phaseRefuses at hp
  rw [admissionCheck, if_neg hs, if_neg (by rw [originPort_portOrigin]; simpa using hp), if_pos (by simp [hm, hr])]

/-- Settles O27: the checks of R30 in their order, for each request that carries a motion. -/
theorem motionRefused : Obligations.MotionRefused := by
  intro s r a i home demand h ht
  refine ⟨fun ha hd => ?_, fun ha hp => ?_, fun ha hp hh hr => ?_⟩
  · obtain ⟨m, shift, c, hexec, _⟩ := h.carried ht fun _ => hd
    rw [hexec, motionRequest_refused (if_pos ha)]
    rfl
  · obtain ⟨m, shift, c, hexec, _⟩ := h.carried ht fun k => absurd k ha
    rw [hexec, motionRequest_refused (admissionCheck_phase ha hp m r.port)]
    rfl
  · obtain ⟨m, shift, c, hexec, hm⟩ := h.carried ht fun k => absurd k ha
    have hne : m ≠ .home := fun k => by
      rw [hm.mp k] at hh
      cases hh
    rw [hexec, motionRequest_refused (admissionCheck_reference ha hp hne hr r.port)]
    rfl

/-! ### Shift demands -/

/-- Settles O33: the demand of an absent axis is written whole as excess, in either unit. -/
theorem shiftOfAbsentAxis : Obligations.ShiftOfAbsentAxis := by
  intro s r a hs ht habsent
  have hshift : isShift a = true := (isShift_iff a).mpr hs
  have hreq (p q : Int) (hq : q = clampInt (-1000) 1000 p) :
      shiftRequest r a p s =
        (writeDemand a { demand := q, excess := q, current := true } s,
          { status := .ok, clamped := decide (p < -1000 ∨ 1000 < p) }) := by
    have hc : decide (demandClamp p ≠ p) = decide (p < -1000 ∨ 1000 < p) := decide_eq_decide.mpr (clampInt_ne_iff _ _ _)
    simp only [shiftRequest, if_pos habsent, hc]
    rw [hq]
    rfl
  refine ⟨fun p q hq => ⟨_, ?_, writeDemand_written hshift _ s⟩, fun p q hu hq => ⟨_, ?_, writeDemand_written hshift _ s⟩⟩
  · rw [execShift_taken hshift ht, hreq _ q hq]
  · rw [execMove_taken ht, moveRequest_shift hu hshift, hreq _ q hq]

end Sys2Proof.Machine
end

section
/-! PROOFS. Motion requests taken: shift demands, replacement, endings at once and grants (R10, R12, R14, R17, R20, R31 to
R34, R37, R38, R52, R54, R56, R172). -/

namespace Sys2Proof.Machine

/-! ### Demands in permille -/

theorem softClamp_idem {st : Settings} (h : st.softMin ≤ st.softMax) (x : Int) :
    softClamp st (softClamp st x) = softClamp st x := by
  simp only [softClamp, clampInt]
  split
  · split <;> omega
  · split
    · split <;> omega
    · rfl

theorem toInt_signExtend_half (p : Half) : (p.signExtend 32 : Quadword).toInt = p.toInt :=
  BitVec.toInt_signExtend_of_le (by decide)

/-- A motion request of a port that joins the tail with no grant (R31). -/
theorem motionRequest_tail {s : State} {r : Req} {a : Axis} {m m0 : Motion} (ha : Admits s a m)
    (hhome : m0 = .home ↔ m = .home) (hplaced : placedMotion s a m0 = m) (hj : JoinsTail s a m) (hn : NoGrant s)
    (shift : Option ShiftPart) (c : Bool) :
    motionRequest r a m0 shift c s =
      (s.withSched (s.sched.append (portEntry r a m shift)),
        { status := .queued, clamped := c || placingClamps s a m0 }) := by
  rw [motionRequest_queued (admissionCheck_admits ha hhome _)
    (u := s.withSched (s.sched.append (portEntry r a m shift)))
    (by rw [hplaced]; exact placeEntry_tail (en := portEntry r a m shift) hj), grantPass_none]
  exact hn.of_eq rfl rfl rfl rfl

/-- A demand of a shift axis that joins the tail (R52). -/
theorem shiftRequest_queued {s : State} {r : Req} {a : Axis} {p target : Int}
    (htarget : target = softClamp (s.chan a).settings (shiftRaw (s.chan a).settings s.geom.inputs.orientation (demandClamp p)))
    (hsoft : (s.chan a).settings.softMin ≤ (s.chan a).settings.softMax) (ha : Admits s a (.move target))
    (hj : JoinsTail s a (.move target)) (hn : NoGrant s) :
    shiftRequest r a p s =
      (s.withSched
          (s.sched.append
            (portEntry r a (.move target)
              (some ⟨demandClamp p, shiftExcess (s.chan a).settings s.geom.inputs.orientation (demandClamp p)⟩))),
        { status := .queued, clamped := decide (p < -1000 ∨ 1000 < p) }) := by
  have hidem : softClamp (s.chan a).settings target = target := by rw [htarget, softClamp_idem hsoft]
  have hplaced : placedMotion s a (.move target) = .move target := congrArg Motion.move hidem
  have hkeep : placingClamps s a (.move target) = false := by simp [placingClamps, hidem]
  have hc : decide (demandClamp p ≠ p) = decide (p < -1000 ∨ 1000 < p) := decide_eq_decide.mpr (clampInt_ne_iff _ _ _)
  rw [shiftRequest_present ha.1, ← htarget, motionRequest_tail ha .rfl hplaced hj hn, hkeep, hc, Bool.or_false]

/-- A demand of ZM or FC that joins the tail (R56). -/
theorem travelRequest_queued {s : State} {r : Req} {a : Axis} {p raw target : Int}
    (hraw : travelTarget (s.chan a).settings p = raw) (htarget : target = softClamp (s.chan a).settings raw)
    (ha : Admits s a (.move target)) (hj : JoinsTail s a (.move target)) (hn : NoGrant s) :
    travelRequest r a p s =
      (s.withSched (s.sched.append (portEntry r a (.move target) none)),
        { status := .queued, clamped := decide (p < 0 ∨ 1000 < p ∨ target ≠ raw) }) := by
  have hplaced : placedMotion s a (.move raw) = .move target := by rw [htarget]; rfl
  have hclamps : placingClamps s a (.move raw) = decide (target ≠ raw) := by rw [htarget]; rfl
  have hc : (decide (clampInt 0 1000 p ≠ p) || decide (target ≠ raw)) = decide (p < 0 ∨ 1000 < p ∨ target ≠ raw) := by
    rw [← Bool.decide_or, decide_eq_decide, clampInt_ne_iff, or_assoc]
  rw [travelRequest, hraw, motionRequest_tail ha (by simp) hplaced hj hn, hclamps, hc]

/-- Settles O32: the carriage target and the share of travel are placed as any motion is. -/
theorem shiftQueued : Obligations.ShiftQueued := by
  refine ⟨fun s r a p q target hs ht hq htarget hsoft ha hj hn => ⟨?_, fun hu => ?_⟩,
    fun s r a p q raw target hz ht hu hq hraw htarget ha hj hn => ?_⟩
  · subst hq
    rw [execShift_taken ((isShift_iff a).mpr hs) ht, shiftRequest_queued htarget hsoft ha hj hn]
    rfl
  · have hshift := (isShift_iff a).mpr hs
    rw [execShift_taken hshift ht, execMove_taken ht, moveRequest_shift hu hshift, toInt_signExtend_half]
  · have hno : isShift a = false := by rcases hz with rfl | rfl <;> rfl
    have htravel : travelTarget (s.chan a).settings p.toInt = raw := by rw [hraw, hq]; rfl
    rw [execMove_taken ht, moveRequest_travel hu hno, travelRequest_queued htravel htarget ha hj hn]
    rfl

/-! ### Replacement -/

theorem told_replaced {m : MotionRec} {p : Port} (hl : m.link = none) (ho : originPort m.origin = some p) (a : Axis)
    (s : State) :
    deliver .byNotice a m .replaced s = s.setPort p ((s.port p).told a m.tag .replaced .moveReplaced) :=
  deliver_unfelt (.inl rfl) hl ho a s

/-- The held motion of a port ends REPLACED: its record goes, and the port is told (R34). -/
theorem deliverRecord_replaced {s : State} {a : Axis} {x : MotionRec} {p : Port} (hx : s.sched.records.get a = some x)
    (hl : x.link = none) (ho : originPort x.origin = some p) :
    deliverRecord a .replaced s =
      (s.withSched (s.sched.setRecord a none)).setPort p ((s.port p).told a x.tag .replaced .moveReplaced) := by
  rw [deliverRecord_some hx, told_replaced hl ho]
  cases p <;> rfl

theorem placeEntry_held {s : State} {en : Entry} (hs : (s.chan en.axis).state = .held)
    (hn : s.sched.entryOf en.axis = none) : placeEntry en s = (placeHeld en s, .queued) := by
  simp only [placeEntry, hn, if_pos hs]

theorem Scheduler.setRecord_twice (q : Scheduler) (a : Axis) (x y : Option MotionRec) :
    (q.setRecord a x).setRecord a y = q.setRecord a y := by simp [Scheduler.setRecord]

/-- A held motion of a port replaced in place, and the port told (R32, R34). -/
theorem replaceHeld_eq {s : State} {a : Axis} {x : MotionRec} {p : Port} {c : Channel} (y : Option MotionRec)
    (hx : s.sched.records.get a = some x) (hl : x.link = none) (ho : originPort x.origin = some p) :
    (deliverRecord a .replaced (s.setChan a c)).withSched
        ((deliverRecord a .replaced (s.setChan a c)).sched.setRecord a y) =
      ((s.setChan a c).withSched (s.sched.setRecord a y)).setPort p ((s.port p).told a x.tag .replaced .moveReplaced) := by
  rw [deliverRecord_replaced (s := s.setChan a c) hx hl ho]
  cases p <;>
    exact congrArg (fun q => State.withSched _ q) (Scheduler.setRecord_twice s.sched a none y)

/-- A held motion of a port dropped and a new entry queued, and the port told (R32, R34). -/
theorem dropAndQueue_eq {s : State} {en : Entry} {a : Axis} {x : MotionRec} {p : Port}
    (hx : s.sched.records.get a = some x) (hl : x.link = none) (ho : originPort x.origin = some p) :
    (dropHeldMotion a .replaced s).withSched ((dropHeldMotion a .replaced s).sched.append en) =
      ((s.setChan a ((s.chan a).dropHeld.heldEnded .replaced (some x))).withSched
          (((s.sched.unheld a).setRecord a none).append en)).setPort p
        ((s.port p).told a x.tag .replaced .moveReplaced) := by
  unfold dropHeldMotion
  rw [deliverRecord_replaced (s := (s.setChan a _).withSched (s.sched.unheld a)) hx hl ho, hx]
  cases p <;> rfl

/-- A request for a HELD axis is answered QUEUED (R32). -/
theorem MotionAsk.held {s u : State} {r : Req} {a : Axis} {i : Instr} {m : Motion} {k : Bool} (h : MotionAsk s r a i m k)
    (ht : portTakes s r.port = true) (ha : Admits s a m) (hs : (s.chan a).state = .held)
    (hn : s.sched.entryOf a = none) (hu : placeHeld (portEntry r a m none) s = u) (hg : NoGrant u) :
    exec i s = .next (answered r { status := .queued, clamped := k } u) := by
  subst hu
  rw [h.queued ht ha (placeEntry_held (en := portEntry r a m none) hs hn), grantPass_none hg]

theorem NoGrant.setPort {s t : State} (h : NoGrant s) (p : Port) (x : PortRec) (h1 : t.sched.slot1 = s.sched.slot1)
    (h2 : t.sched.slot2 = s.sched.slot2) (hd : t.sched.dieAllow = s.sched.dieAllow) (hp : t.phase = s.phase) :
    NoGrant (t.setPort p x) := by
  cases p <;> exact h.of_eq h1 h2 hd hp

/-- Settles O29: each way of R31 and R32 to replace, with the ending told to the port of what is replaced. -/
theorem motionReplaced : Obligations.MotionReplaced := by
  refine ⟨fun s r a i m k old p h ht ha hn hold hl ho => ?_, fun s r a i m k x p c h ht ha hn hheld hnone hx hl ho hc => ?_⟩
  · have hplace : placeEntry (portEntry r a m none) s =
        (deliverEntry .byNotice old .replaced (s.withSched (s.sched.rewrite (portEntry r a m none))), .queued) := by
      have : s.sched.entryOf (portEntry r a m none).axis = some old := hold
      simp only [placeEntry, this]
    rw [h.queued ht ha hplace, deliverEntry_told hl ho (by simp), entryOf_axis hold, grantPass_none]
    · cases p <;> rfl
    · exact hn.setPort p _ rfl rfl rfl rfl
  · have hended (d : Channel) :
        d.heldEnded .replaced (some x) = { d with lastResult := some .replaced, lastOrigin := some x.origin } := rfl
    subst hc
    refine ⟨fun t hm htarget => ?_, fun hm hhome => ?_, fun hdrop => ?_⟩
    · subst hm
      refine h.held ht ha hheld hnone ?_ (hn.setPort p _ rfl rfl rfl rfl)
      show (if (s.chan a).target.isSome then _ else _) = _
      rw [if_pos htarget]
      refine (replaceHeld_eq (a := a) _ hx hl ho).trans ?_
      simp only [portEntry, hx]
      rfl
    · subst hm
      refine h.held ht ha hheld hnone ?_ (hn.setPort p _ rfl rfl rfl rfl)
      show (if (s.chan a).heldHome then _ else _) = _
      rw [if_pos hhome]
      refine (replaceHeld_eq (a := a) _ hx hl ho).trans ?_
      simp only [portEntry, hx]
      rfl
    · refine h.held ht ha hheld hnone ?_ (hn.setPort p _ rfl rfl rfl rfl)
      have hplace : placeHeld (portEntry r a m none) s =
          (dropHeldMotion a .replaced s).withSched
            ((dropHeldMotion a .replaced s).sched.append (portEntry r a m none)) := by
        rcases hdrop with ⟨t, rfl, htarget⟩ | ⟨rfl, hhome⟩ | ⟨d, l, n, rfl⟩
        · exact if_neg (by simp [portEntry, htarget])
        · exact if_neg (by simp [portEntry, hhome])
        · rfl
      rw [hplace, dropAndQueue_eq hx hl ho, hended]
      rfl

/-! ### Endings that bring something to the shift unit or the tracker -/

theorem deliverFocus_other {a : Axis} (h : a ≠ .fc) (m : MotionRec) (e : Ending) (s : State) :
    deliverFocus a m e s = s := by
  simp [deliverFocus, h]

theorem shiftEnding_other {a : Axis} (h : isShift a = false) (m : MotionRec) (e : Ending) (s : State) :
    shiftEnding a m e s = s := by
  simp [shiftEnding, h]

theorem shiftEnding_some {a : Axis} (h : isShift a = true) {m : MotionRec} {e : Ending} {s : State} {d : DemandRec}
    (hd : demandAfter s a m e = some d) : shiftEnding a m e s = writeDemand a d s := by
  simp [shiftEnding, h, hd]

/-- An ending after which the demand record of a shift axis is `d`, and which the tracker does not take up (R54). -/
theorem ending_demand {a : Axis} {m : MotionRec} {e : Ending} {s : State} {d : DemandRec}
    (hd : demandAfter s a m e = some d) (hf : ∀ x t, userFocusEnding m e x t = t) :
    DemandWritten a d s (deliverFocus a m e (shiftEnding a m e s)) := by
  have hfocus (s : State) : deliverFocus a m e s = s := by
    simp only [deliverFocus, hf]
    split <;> rfl
  rw [hfocus]
  cases a with
  | sh => rw [shiftEnding_some rfl hd]; exact writeDemand_written rfl d s
  | sv => rw [shiftEnding_some rfl hd]; exact writeDemand_written rfl d s
  | zm => rfl
  | fc => rfl

/-- An ending after which the demand record of a shift axis is `d` and FC anchors the tracker (R54, R172). -/
theorem ending_taken {a : Axis} {m : MotionRec} {e : Ending} {s : State} {d : DemandRec} {p : Port}
    (hd : demandAfter s a m e = some d) (hf : ∀ x t, userFocusEnding m e x t = t.anchor (some x))
    (ho : originPort m.origin = some p) : DoneTaken a d s (deliverFocus a m e (shiftEnding a m e s)) := by
  cases a with
  | sh =>
    rw [deliverFocus_other (by decide), shiftEnding_some rfl hd]
    exact writeDemand_written (a := .sh) rfl d s
  | sv =>
    rw [deliverFocus_other (by decide), shiftEnding_some rfl hd]
    exact writeDemand_written (a := .sv) rfl d s
  | zm => rfl
  | fc =>
    rw [shiftEnding_other rfl]
    simp only [deliverFocus, ho, hf, Tracker.anchor, tLensUsable, lensUsable, DoneTaken]
    simp [State.withTrack]

/-! ### A move that ends at once -/

theorem placeEntry_atOnce {s : State} {r : Req} {a : Axis} (hs : (s.chan a).state = .idle) (hn : s.sched.entryOf a = none) :
    placeEntry (portEntry r a (.move (s.chan a).position) none) s =
      (completeNow (portEntry r a (.move (s.chan a).position) none) s, .atOnce) := by
  have hne : (s.chan a).state ≠ .held := by rw [hs]; decide
  have hyes := (completesAtOnce_iff s (portEntry r a (.move (s.chan a).position) none)).mpr ⟨hs, hn, rfl⟩
  have hnone : s.sched.entryOf (portEntry r a (.move (s.chan a).position) none).axis = none := hn
  simp only [placeEntry, hnone, hyes, if_true]
  exact if_neg hne

/-- A result at once of a port's request is told by its response alone (R33). -/
theorem deliverEntry_byResponse {en : Entry} {p : Port} (hl : en.link = none) (ho : en.origin = portOrigin p) (e : Ending)
    (s : State) :
    deliverEntry .byResponse en e s =
      deliverFocus en.axis (recordOf en false (s.chan en.axis).position) e
        (shiftEnding en.axis (recordOf en false (s.chan en.axis).position) e s) := by
  unfold deliverEntry deliver deliverTo recordOf
  dsimp only
  rw [hl, ho]
  cases p <;> rfl

/-- Settles O30: the ending DONE at once, told by the response alone. -/
theorem moveDoneAtOnce : Obligations.MoveDoneAtOnce := by
  intro s r a i k h ht ha hs hn
  refine ⟨_, h.atOnce ht ha (placeEntry_atOnce hs hn), ?_⟩
  unfold completeNow
  rw [deliverEntry_byResponse (p := r.port) rfl rfl]
  exact ending_taken (p := r.port) (by simp [demandAfter, recordOf, portEntry, positionPermille]) (fun _ _ => rfl)
    (originPort_portOrigin _)

/-! ### Grants -/

/-- The first segment of a move to another target (R12). -/
theorem runMove_eq (c : Channel) (t : Int) :
    c.runMove t =
      c.beginSegment (firstSegment c.settings c.position t).1 (firstSegment c.settings c.position t).2 := by
  unfold Channel.runMove approachPoint firstSegment
  by_cases hb : c.settings.backlash = 0
  · simp [hb]
  · cases hap : c.settings.approach with
    | pos =>
      by_cases hlt : t < c.position
      · by_cases he : max (t - c.settings.backlash) 0 = c.position <;> simp [hb, hlt, he]
      · simp [hb, hlt]
    | neg =>
      by_cases hlt : c.position < t
      · by_cases he : min (t + c.settings.backlash) c.settings.travel = c.position <;> simp [hb, hlt, he]
      · simp [hb, hlt]
    | unset => simp [hb]

/-- What a grant leaves of a channel that its motion does not set (R10). -/
structure Granted (c d : Channel) : Prop where
  position : d.position = c.position
  phaseIndex : d.phaseIndex = c.phaseIndex
  energized : d.energized = true
  holdTimer : d.holdTimer = 0
  lastOrigin : d.lastOrigin = c.lastOrigin
  settings : d.settings = c.settings
  table : d.table = c.table
  coils : c.energized = false → (d.coilA, d.coilB) = coilPattern c.phaseIndex

theorem energize_granted (c : Channel) : Granted c c.energize := by
  unfold Channel.energize
  split
  · next h => exact ⟨rfl, rfl, h, rfl, rfl, rfl, rfl, fun k => by rw [h] at k; cases k⟩
  · exact ⟨rfl, rfl, rfl, rfl, rfl, rfl, rfl, fun _ => rfl⟩

/-- The channel a grant of a motion starts, one that does not end at once (R12, R17, R20). -/
structure Starts (c : Channel) (m : Motion) (d : Channel) : Prop where
  granted : Granted c d
  move : ∀ t, m = .move t →
    d.state = .moving ∧ d.target = some t ∧ d.referenced = c.referenced ∧
      ∀ (seg : Segment) (e : Int), firstSegment c.settings c.position t = (seg, e) →
        d.segment = some seg ∧ d.segEnd = e ∧ d.dir = (if c.position < e then .pos else .neg) ∧
          d.peak = peakLevel d.table (e - c.position).natAbs ∧
          d.ramp = rampBegin d.table d.peak (e - c.position).natAbs
  home : m = .home →
    d.state = .homing ∧ d.referenced = false ∧
      (c.switch.filtered = false → d.homing = some ⟨.fast, 0, .running⟩ ∧ d.dir = .neg) ∧
      (c.switch.filtered = true → d.homing = some ⟨.backoff, 0, .running⟩ ∧ d.dir = .pos ∧ d.ramp.level = 0)
  jog : ∀ d' l n, m = .jog d' l n → d.state = .jogging ∧ d.dir = d' ∧ d.jog = some ⟨d', min l (topLevel d.table)⟩

theorem energize_fields (c : Channel) :
    c.energize.state = c.state ∧ c.energize.target = c.target ∧ c.energize.referenced = c.referenced
      ∧ c.energize.jog = c.jog ∧ c.energize.switch = c.switch := by
  unfold Channel.energize
  split <;> exact ⟨rfl, rfl, rfl, rfl, rfl⟩

/-- A move to a target that the soft limits do not bring to the position (R12). -/
theorem startMove_clamped {c : Channel} {goal t : Int} (hs : softClamp c.settings goal = t) (ht : t ≠ c.position) :
    ∃ d, c.startMove goal = .running d ∧ Starts c (.move t) d := by
  refine ⟨_, by rw [Channel.startMove, hs, if_neg ht], ?_⟩
  have hg : Granted c ({ c with state := .moving, target := some t } : Channel).energize :=
    let h := energize_granted { c with state := .moving, target := some t }
    ⟨h.position, h.phaseIndex, h.energized, h.holdTimer, h.lastOrigin, h.settings, h.table, h.coils⟩
  obtain ⟨hstate, htarget, href, -, -⟩ := energize_fields { c with state := .moving, target := some t }
  generalize ({ c with state := .moving, target := some t } : Channel).energize = c1 at *
  rw [runMove_eq, hg.settings, hg.position]
  refine ⟨⟨hg.position, hg.phaseIndex, hg.energized, hg.holdTimer, hg.lastOrigin, hg.settings, hg.table, hg.coils⟩, ?_,
    (fun k => nomatch k), fun _ _ _ k => nomatch k⟩
  intro t' ht'
  cases ht'
  refine ⟨hstate, htarget, href, fun seg e he => ?_⟩
  rw [he, ← hg.position]
  exact ⟨rfl, rfl, rfl, rfl, rfl⟩

theorem startMove_starts {c : Channel} {t : Int} (hs : softClamp c.settings t = t) (ht : t ≠ c.position) :
    ∃ d, c.startMove t = .running d ∧ Starts c (.move t) d := startMove_clamped hs ht

theorem startHome_starts (c : Channel) : Starts c .home c.startHome := by
  have hg : Granted c ({ c with state := .homing, referenced := false, heldHome := false } : Channel).energize :=
    let h := energize_granted { c with state := .homing, referenced := false, heldHome := false }
    ⟨h.position, h.phaseIndex, h.energized, h.holdTimer, h.lastOrigin, h.settings, h.table, h.coils⟩
  obtain ⟨hstate, -, href, -, -⟩ := energize_fields { c with state := .homing, referenced := false, heldHome := false }
  unfold Channel.startHome
  generalize ({ c with state := .homing, referenced := false, heldHome := false } : Channel).energize = c1 at *
  cases hf : c.switch.filtered with
  | true =>
    refine ⟨⟨hg.position, hg.phaseIndex, hg.energized, hg.holdTimer, hg.lastOrigin, hg.settings, hg.table, hg.coils⟩,
      (fun _ k => nomatch k), fun _ => ⟨hstate, href, fun k => ?_, fun _ => ⟨rfl, rfl, rfl⟩⟩, fun _ _ _ k => nomatch k⟩
    rw [hf] at k
    cases k
  | false =>
    refine ⟨⟨hg.position, hg.phaseIndex, hg.energized, hg.holdTimer, hg.lastOrigin, hg.settings, hg.table, hg.coils⟩,
      (fun _ k => nomatch k), fun _ => ⟨hstate, href, fun _ => ⟨rfl, rfl⟩, fun k => ?_⟩, fun _ _ _ k => nomatch k⟩
    rw [hf] at k
    cases k

theorem startJog_starts {c : Channel} {d : Dir} {l n : Nat}
    (hd : 0 < distanceTo d c.position (softAhead c.settings d)) :
    ∃ x, c.startJog d l = .running x ∧ Starts c (.jog d l n) x := by
  refine ⟨_, if_neg (Int.not_le.mpr hd), ?_⟩
  have hg : Granted c ({ c with state := .jogging, jog := some ⟨d, min l (topLevel c.table)⟩ } : Channel).energize :=
    let h := energize_granted { c with state := .jogging, jog := some ⟨d, min l (topLevel c.table)⟩ }
    ⟨h.position, h.phaseIndex, h.energized, h.holdTimer, h.lastOrigin, h.settings, h.table, h.coils⟩
  obtain ⟨hstate, -, -, hjog, -⟩ := energize_fields { c with state := .jogging, jog := some ⟨d, min l (topLevel c.table)⟩ }
  generalize ({ c with state := .jogging, jog := some ⟨d, min l (topLevel c.table)⟩ } : Channel).energize = c1 at *
  refine ⟨⟨hg.position, hg.phaseIndex, hg.energized, hg.holdTimer, hg.lastOrigin, hg.settings, hg.table, hg.coils⟩,
    (fun _ k => nomatch k), (fun k => nomatch k), fun d' l' n' k => ?_⟩
  cases k
  refine ⟨hstate, rfl, ?_⟩
  show c1.jog = some ⟨d, min l (topLevel c1.table)⟩
  rw [hg.table]
  exact hjog

/-- With both slots FREE and nothing before it a queued entry is granted at once, in the first slot (R37; log 17). -/
theorem grantPass_first {s : State} {en : Entry} (h1 : s.sched.slot1 = .free) (h2 : s.sched.slot2 = .free)
    (hh : s.sched.held = []) (hq : s.sched.queue = []) (ha : 1 ≤ allowance s)
    (hc : (s.chan en.axis).state = .idle ∨ (s.chan en.axis).state = .unreferenced) :
    grantPass (s.withSched (s.sched.append en)) = grantEntry en (s.withSched (s.sched.append en)) := by
  have hqueue : (s.withSched (s.sched.append en)).sched.queue = [en] := by simp [Scheduler.append, hq]
  have hheld : (s.withSched (s.sched.append en)).sched.held = [] := hh
  have hfree : (s.withSched (s.sched.append en)).sched.hasFree = true := by simp [Scheduler.append, Scheduler.hasFree, h1]
  have hcount : (s.withSched (s.sched.append en)).sched.grantedCount < allowance (s.withSched (s.sched.append en)) := by
    show s.sched.grantedCount < allowance s
    rw [Scheduler.grantedCount, h1, h2]
    exact ha
  have hcand : isCandidate (s.withSched (s.sched.append en)) en = true := by
    rcases hc with hc | hc <;> simp [isCandidate, hc]
  rw [grantPass, hheld, hqueue]
  show grantPassN 1 _ = _
  rw [grantPassN, hfree, decide_eq_true hcount]
  simp only [hheld, hqueue, List.find?_cons, hcand]
  rfl

/-- A motion started on a channel does not end at once, and leaves the channel `d` (R38). -/
def RunsAs (c : Channel) (m : Motion) (d : Channel) : Prop :=
  match m with
  | .move t => c.startMove t = .running d
  | .home => c.startHome = d
  | .jog x l _ => c.startJog x l = .running d

/-- The grant of an entry whose motion starts. -/
theorem grantEntry_starts {s : State} {en : Entry} {d : Channel} {m : Motion} (hm : en.motion = m)
    (hd : RunsAs ((s.chan en.axis).from en.origin) m d) :
    grantEntry en s =
      (s.withSched
        (((s.sched.without en.axis).setRecord en.axis (some (recordOf en true (s.chan en.axis).position))).takeSlot
          en.axis)).setChan en.axis d := by
  unfold grantEntry
  simp only [hm]
  cases m with
  | move t =>
    simp only [RunsAs] at hd
    simp only [hd]
    rfl
  | home =>
    simp only [RunsAs] at hd
    simp only [hd]
    rfl
  | jog x l n =>
    simp only [RunsAs] at hd
    simp only [hd]
    rfl

/-- What a grant of a port's request that joined an empty queue leaves (R29, R38). -/
theorem grantEntry_first {s : State} {r : Req} {a : Axis} {m : Motion} {d : Channel} (h1 : s.sched.slot1 = .free)
    (hq : s.sched.queue = [])
    (hd : RunsAs ((s.chan a).from (portOrigin r.port)) m d) :
    grantEntry (portEntry r a m none) (s.withSched (s.sched.append (portEntry r a m none))) =
      (s.withSched
        { s.sched with
          queue := [], slot1 := .granted a, later := some .one
          records := s.sched.records.set a (some (recordOf (portEntry r a m none) true (s.chan a).position)) }).setChan
        a d := by
  rw [grantEntry_starts (s := s.withSched (s.sched.append (portEntry r a m none))) (en := portEntry r a m none) (m := m)
    rfl hd]
  have hempty : (s.sched.append (portEntry r a m none)).without a = { s.sched with queue := [] } := by
    simp [Scheduler.append, Scheduler.without, hq, portEntry]
  show (s.withSched ((((s.sched.append (portEntry r a m none)).without a).setRecord a _).takeSlot a)).setChan a d = _
  rw [hempty]
  have hslot : ({ s.sched with queue := [] } : Scheduler).slot1 = .free := h1
  unfold Scheduler.takeSlot Scheduler.setRecord
  rw [if_pos hslot]
  rfl

/-- A motion as R31 places it is a target within the soft limits. -/
theorem MotionAsk.clamped {s : State} {r : Req} {a : Axis} {i : Instr} {t : Int} {k : Bool}
    (h : MotionAsk s r a i (.move t) k) (hs : (s.chan a).settings.softMin ≤ (s.chan a).settings.softMax) :
    softClamp (s.chan a).settings t = t := by
  cases h with
  | move t h => exact softClamp_idem hs _

/-- Settles O31: the entry that joins the empty queue is granted in the first slot, and its motion starts. -/
theorem motionGranted : Obligations.MotionGranted := by
  intro s r a i m k h ht ha hj h1 h2 hh hq hallow hsoft hc hjog hmove
  have hstart : ∃ d, RunsAs ((s.chan a).from (portOrigin r.port)) m d
      ∧ Starts ((s.chan a).from (portOrigin r.port)) m d := by
    cases m with
    | move t => exact startMove_starts (h.clamped hsoft) (hmove t rfl)
    | home => exact ⟨_, rfl, startHome_starts _⟩
    | jog d l n =>
      refine startJog_starts ?_
      have := hjog d l n rfl
      cases d <;> exact Int.sub_pos.mpr this
  obtain ⟨d, hd, hstarts⟩ := hstart
  have hgrant := (grantPass_first (en := portEntry r a m none) h1 h2 hh hq hallow hc).trans (grantEntry_first h1 hq hd)
  obtain ⟨hposition, hphase, henergized, hhold, horigin, hsettings, htable, hcoils⟩ := hstarts.granted
  refine ⟨d, ?_, hposition, hphase, henergized, hhold, horigin, hsettings, htable, hcoils, hstarts.move, hstarts.home,
    hstarts.jog⟩
  rw [h.queued ht ha (placeEntry_tail (en := portEntry r a m none) hj), hgrant]
  cases m <;> rfl

end Sys2Proof.Machine
end

section
/-! PROOFS. Jogs kept and expired, and STOP (R15, R16, R29, R43 to R45, R54, R172). -/

namespace Sys2Proof.Machine

/-! ### JOG_KEEP -/

theorem keepsQueued_iff (s : State) (r : Req) (a : Axis) :
    keepsQueued s a (portOrigin r.port) = true ↔ ∃ en d l, QueuesJog s r a en d l := by
  unfold keepsQueued QueuesJog
  cases h : s.sched.entryOf a with
  | none => simp
  | some en =>
    unfold isJogOf
    cases hm : en.motion <;> simp [hm]

theorem keepsRunning_iff (s : State) (r : Req) (a : Axis) :
    keepsRunning s a (portOrigin r.port) = true ↔ ∃ x, RunsJog s r a x := by
  unfold keepsRunning RunsJog
  cases h : s.sched.records.get a with
  | none => simp
  | some x =>
    unfold isJogRecOf
    cases hm : x.kind <;> simp [hm]

theorem restartQueued_eq {s : State} {r : Req} {a : Axis} {en : Entry} {d : Dir} {l : Nat} (h : QueuesJog s r a en d l) :
    restartQueued a s =
      s.withSched
        { s.sched with queue := s.sched.queue.map fun e => if e.axis = a then { en with motion := .jog d l 13 } else e } := by
  obtain ⟨hen, ⟨n, hm⟩, -⟩ := h
  have haxis := entryOf_axis hen
  simp only [restartQueued, hen, restartEntry, hm, Scheduler.rewrite, haxis]

theorem restartRunning_eq {s : State} {a : Axis} {x : MotionRec} (hx : s.sched.records.get a = some x) :
    restartRunning a s = s.withSched (s.sched.setRecord a (some { x with kind := .jog 13 })) := by
  simp only [restartRunning, hx]

theorem jogKeep_exec {s : State} {r : Req} (ht : portTakes s r.port = true) (a : Axis) :
    exec (.jogKeep r (axisByte a)) s =
      .next (answered r (jogKeep a (portOrigin r.port) s).2 (jogKeep a (portOrigin r.port) s).1) := by
  simp only [exec, execJogKeep, request_taken (c := .bothPorts) ⟨ht, rfl⟩, onAxis_axisByte]

/-- Settles O35: the jogs that a JOG_KEEP is taken for, queued and running. -/
theorem jogKept : Obligations.JogKept := by
  intro s r a ht
  rw [jogKeep_exec ht]
  refine ⟨fun ha => ?_, fun ha => ⟨fun en d l hq hr => ?_, fun x hr hq => ?_, fun en d l x hq hr => ?_, fun hq hr => ?_⟩⟩
  · simp only [jogKeep, if_pos ha]
    rfl
  · have h1 := (keepsQueued_iff s r a).mpr ⟨en, d, l, hq⟩
    have h2 : keepsRunning s a (portOrigin r.port) = false := by
      rw [← Bool.not_eq_true, keepsRunning_iff]
      exact fun ⟨x, hx⟩ => hr x hx
    simp only [jogKeep, if_neg ha, h1, h2, restartQueued_eq hq]
    rfl
  · have h1 : keepsQueued s a (portOrigin r.port) = false := by
      rw [← Bool.not_eq_true, keepsQueued_iff]
      exact fun ⟨en, d, l, h⟩ => hq en d l h
    have h2 := (keepsRunning_iff s r a).mpr ⟨x, hr⟩
    simp only [jogKeep, if_neg ha, h1, h2, Bool.false_or, if_true, Bool.false_eq_true, if_false, restartRunning_eq hr.2.1]
    rfl
  · have h1 := (keepsQueued_iff s r a).mpr ⟨en, d, l, hq⟩
    have h2 := (keepsRunning_iff s r a).mpr ⟨x, hr⟩
    simp only [jogKeep, if_neg ha, h1, h2, Bool.or_self, if_true, restartQueued_eq hq]
    exact congrArg (fun t => Host.Outcome.next (answered r okReply t)) (restartRunning_eq (x := x) hr.2.1)
  · have h1 : keepsQueued s a (portOrigin r.port) = false := by
      rw [← Bool.not_eq_true, keepsQueued_iff]
      exact fun ⟨en, d, l, h⟩ => hq en d l h
    have h2 : keepsRunning s a (portOrigin r.port) = false := by
      rw [← Bool.not_eq_true, keepsRunning_iff]
      exact fun ⟨x, hx⟩ => hr x hx
    simp only [jogKeep, if_neg ha, h1, h2]
    rfl

/-! ### Stops -/

theorem runDown_eq (a : Axis) (sl : Slot) : sl.runDown a = if sl = .granted a then .rundown a else sl := by
  cases sl <;> simp [Slot.runDown, Slot.grantee]

/-- A slot run down and then freed is freed (R29). -/
theorem freed_runDown (a : Axis) (sl : Slot) : (sl.runDown a).freed a = sl.freed a := by
  unfold Slot.runDown
  split
  · next h => cases sl <;> simp_all [Slot.freed, Slot.holder, Slot.grantee]
  · rfl

theorem freeSlot_runDownSlot (q : Scheduler) (a : Axis) : (q.runDownSlot a).freeSlot a = q.freeSlot a := by
  simp only [Scheduler.freeSlot, Scheduler.runDownSlot, freed_runDown]

/-- A stop above level 0 enters STOPPING and runs the levels below (R15, R29). -/
theorem orderStop_above {s : State} {a : Axis} (k : StopCause) (h : (s.chan a).ramp.level ≠ 0) :
    orderStop a k s = (s.setChan a ((s.chan a).stopping k)).withSched (s.sched.runDownSlot a) := by
  simp only [orderStop, if_neg h]

theorem decelFrom_pos {table : List RampLevel} {l : Nat} (h : 1 ≤ l) :
    decelFrom table l = ⟨l - 1, levelLength table (l - 1), .decel⟩ := by
  cases l with
  | zero => cases h
  | succ l => rfl

/-- The state in which the ending of a motion is delivered: the axis at rest, its slot FREE and its record gone. -/
def cameToRest (s : State) (a : Axis) (c : Channel) : State :=
  (s.setChan a c).withSched ((s.sched.freeSlot a).setRecord a none)

/-- The end of a port's motion: what it brings to the shift unit and the tracker, and its notice. -/
theorem endMotion_told {s : State} {a : Axis} {x : MotionRec} {p : Port} (hx : s.sched.records.get a = some x)
    (hl : x.link = none) (ho : originPort x.origin = some p) (c : Channel) (e : Ending) :
    endMotion a c e s =
      (deliverFocus a x e (shiftEnding a x e (cameToRest s a c))).setPort p
        ((s.port p).told a x.tag e (endingEvent e)) := by
  unfold endMotion
  dsimp only
  rw [deliverRecord_some (s := (s.setChan a c).withSched ((s.setChan a c).sched.freeSlot a)) hx, deliver_port hl ho]
  cases p <;> rfl

/-- The end of a port's motion with nothing queued or held. -/
theorem grantPass_endMotion {s : State} {a : Axis} {x : MotionRec} {p : Port} (hx : s.sched.records.get a = some x)
    (hl : x.link = none) (ho : originPort x.origin = some p) (hq : s.sched.queue = []) (hh : s.sched.held = [])
    (c : Channel) (e : Ending) :
    grantPass (endMotion a c e s) =
      (deliverFocus a x e (shiftEnding a x e (cameToRest s a c))).setPort p
        ((s.port p).told a x.tag e (endingEvent e)) := by
  obtain ⟨hqueue, hheld⟩ := endMotion_queue a c e s
  rw [grantPass_empty (hqueue.trans hq) (hheld.trans hh), endMotion_told hx hl ho]

/-- A stop at level 0 is at rest at once (R15, R16). -/
theorem orderStop_rest {s : State} {a : Axis} {k : StopCause} {x : MotionRec} {p : Port} {c : Channel} {e : Ending}
    (h : (s.chan a).ramp.level = 0) (he : ((s.chan a).stopping k).stopEnd = .result c e)
    (hx : s.sched.records.get a = some x) (hl : x.link = none) (ho : originPort x.origin = some p)
    (hq : s.sched.queue = []) (hh : s.sched.held = []) :
    orderStop a k s =
      (deliverFocus a x e (shiftEnding a x e (cameToRest s a c))).setPort p
        ((s.port p).told a x.tag e (endingEvent e)) := by
  have hrest : orderStop a k s =
      grantPass (endMotion a c e ((s.setChan a ((s.chan a).stopping k)).withSched (s.sched.runDownSlot a))) := by
    simp only [orderStop, if_pos h, finishStop, State.withSched_chan, State.setChan_chan_same, he]
  rw [hrest, grantPass_endMotion (s := (s.setChan a ((s.chan a).stopping k)).withSched (s.sched.runDownSlot a)) hx hl ho hq hh]
  have hsame : cameToRest ((s.setChan a ((s.chan a).stopping k)).withSched (s.sched.runDownSlot a)) a c = cameToRest s a c := by
    have htwice := State.setChan_twice s a ((s.chan a).stopping k) c
    show ((s.setChan a ((s.chan a).stopping k)).setChan a c).withSched
      (((s.sched.runDownSlot a).freeSlot a).setRecord a none) = _
    rw [htwice, freeSlot_runDownSlot]
    rfl
  rw [hsame]
  cases p <;> rfl

/-! ### The expiry of a jog -/

theorem entryExpires_jog {en : Entry} {d : Dir} {l n : Nat} (hm : en.motion = .jog d l n) (hn : n ≤ 1) :
    entryExpires 1 en = true := by
  simp only [entryExpires, hm, decide_eq_true hn]

theorem recordExpires_jog {s : State} {a : Axis} {x : MotionRec} {n : Nat} (hs : (s.chan a).state = .jogging)
    (hx : s.sched.records.get a = some x) (hk : x.kind = .jog n) (hn : n ≤ 1) : recordExpires 1 s a = true := by
  simp [recordExpires, hs, hx, hk, hn]

theorem expireRunning_jog {s : State} {a : Axis} {x : MotionRec} {n : Nat} (hs : (s.chan a).state = .jogging)
    (hx : s.sched.records.get a = some x) (hk : x.kind = .jog n) (hn : n ≤ 1) :
    expireRunning 1 a s = orderStop a .expiry s := if_pos (recordExpires_jog hs hx hk hn)

/-- A STOP and an expiry end in a result STOPPED, whatever was stopped (R16). -/
theorem stopEnd_ordered {k : StopCause} (h : k = .stop ∨ k = .expiry) (c : Channel) :
    (c.stopping k).stopEnd = (c.stopping k).stopped := by rcases h with rfl | rfl <;> rfl

theorem stopped_jog {c : Channel} (hj : c.jog.isSome = true) (k : StopCause) :
    (c.stopping k).stopped = .result { rested c .idle with target := none, lastResult := some .stopped } .stopped := by
  have hkind : (c.stopping k).stoppedKind = .jog 0 := if_pos hj
  simp only [Channel.stopped, hkind]
  rfl

theorem stopped_move {c : Channel} (hj : c.jog = none) (ht : c.target.isSome = true) (k : StopCause) :
    (c.stopping k).stopped = .result { rested c .idle with target := none, lastResult := some .stopped } .stopped := by
  have hkind : (c.stopping k).stoppedKind = .move := (if_neg (by simp [Channel.stopping, hj])).trans (if_pos ht)
  simp only [Channel.stopped, hkind]
  rfl

theorem stopped_home {c : Channel} (hj : c.jog = none) (ht : c.target = none) (k : StopCause) :
    (c.stopping k).stopped =
      .result { rested c .unreferenced with target := none, lastResult := some .stopped } .stopped := by
  have hkind : (c.stopping k).stoppedKind = .home :=
    (if_neg (by simp [Channel.stopping, hj])).trans (if_neg (by simp [Channel.stopping, ht]))
  simp only [Channel.stopped, hkind]
  rfl

theorem exec_jogExpiry {s : State} (h : s.powered = true) (a : Axis) (j : JogPlace) :
    exec (.jogExpiry a j) s = .next (jogExpiry a j s) := event_taken h _

/-- The demand record after a stop of a motion other than a HOME (R54). -/
theorem demandAfter_stopped {s : State} {a : Axis} {x : MotionRec} (hr : x.ran = true) (hk : x.kind ≠ .home) :
    demandAfter s a x .stopped = some { demand := positionPermille s a, excess := 0, current := true } := by
  unfold demandAfter
  cases hx : x.kind with
  | home => exact absurd hx hk
  | move => simp [hr]
  | jog n => simp [hr]

theorem demandAfter_stopped_home {s : State} {a : Axis} {x : MotionRec} (hr : x.ran = true) (hk : x.kind = .home) :
    demandAfter s a x .stopped = some { demand := 0, excess := 0, current := false } := by
  simp [demandAfter, hr, hk]

theorem positionPermille_cameToRest {s : State} {a : Axis} {c : Channel} (hp : c.position = (s.chan a).position)
    (hs : c.settings = (s.chan a).settings) :
    positionPermille (cameToRest s a c) a =
      permilleOf a (s.chan a).settings s.geom.inputs.orientation (s.chan a).position := by
  simp [positionPermille, cameToRest, hp, hs]

theorem userFocusEnding_jog {x : MotionRec} {n : Nat} (hk : x.kind = .jog n) (e : Ending) (y : Int) (t : Tracker) :
    userFocusEnding x e y t = t := by
  simp [userFocusEnding, hk]

/-- Settles O36: the queued jog is removed, the running one stopped as R15 has it. -/
theorem jogExpires : Obligations.JogExpires := by
  intro s a hp
  refine ⟨fun en d l n p hen hm hn hl ho => ?_, fun x n l hs hx hk hn hr => ?_,
    fun x n p u hs hj ht hk hn hr hq hh hu => ?_⟩
  · rw [exec_jogExpiry hp]
    simp only [jogExpiry, expireQueued, hen, entryExpires_jog hm hn, if_true]
    rw [removeEntry_told hl ho (by simp), entryOf_axis hen]
    rfl
  · rw [exec_jogExpiry hp]
    simp only [jogExpiry, expireRunning_jog hs hx hk hn]
    rw [orderStop_above _ (by omega)]
    simp only [Scheduler.runDownSlot, runDown_eq, Channel.stopping, hr]
    rfl
  · obtain ⟨hx, hl, ho, hran⟩ := ht
    subst hu
    have hend := (stopEnd_ordered (.inr rfl) (s.chan a)).trans (stopped_jog (c := s.chan a) hj .expiry)
    refine ⟨_, ?_, ending_demand (m := x) (e := .stopped) ?_ (userFocusEnding_jog hk .stopped)⟩
    · rw [exec_jogExpiry hp]
      simp only [jogExpiry, expireRunning_jog hs hx hk hn]
      exact congrArg _ (orderStop_rest hr hend hx hl ho hq hh)
    · rw [demandAfter_stopped hran (by simp [hk])]
      exact congrArg (fun d => some ({ demand := d, excess := 0, current := true } : DemandRec))
        (positionPermille_cameToRest (s := s) (c := { rested (s.chan a) .idle with target := none, lastResult := some .stopped })
          rfl rfl)

/-! ### STOP of one axis -/

theorem stopAxesOfCode_axisByte (a : Axis) : stopAxesOfCode (axisByte a) = some [a] := by cases a <;> rfl

theorem stop_exec {s : State} {r : Req} (ht : portTakes s r.port = true) (a : Axis) :
    exec (.stop r (axisByte a)) s =
      .next (answered r (stopRequest [a] s).2 (stopRequest [a] s).1) := by
  simp only [exec, execStop, request_taken (c := .bothPorts) ⟨ht, rfl⟩, stopAxesOfCode_axisByte]

theorem stop_present {s u : State} {r : Req} (ht : portTakes s r.port = true) {a : Axis} (hs : (s.chan a).state ≠ .absent)
    (hu : stopAxes [a] s = u) : exec (.stop r (axisByte a)) s = .next (answered r { status := .ok } u) := by
  rw [stop_exec ht, stopRequest, if_neg hs, hu]
  rfl

/-- STOP of one axis: its entry, its held motion, its motion, and a grant pass when it took one of the first two off
(R45). -/
theorem stopAxes_one (a : Axis) (s : State) :
    stopAxes [a] s =
      if (s.sched.entryOf a).isSome || decide ((s.chan a).state = .held) then
        grantPass (stopMotion a (stopHeld a (stopEntry a s)))
      else stopMotion a (stopHeld a (stopEntry a s)) := by
  simp [stopAxes, stopTakes]

theorem stopEntry_none {s : State} {a : Axis} (h : s.sched.entryOf a = none) : stopEntry a s = s := by
  simp only [stopEntry, h]

theorem stopHeld_other {s : State} {a : Axis} (h : (s.chan a).state ≠ .held) : stopHeld a s = s := if_neg h

theorem stopMotion_rest {s : State} {a : Axis} (h : (s.chan a).state = .idle ∨ (s.chan a).state = .unreferenced) :
    stopMotion a s = s := by
  rcases h with h | h <;> simp only [stopMotion, h]

theorem stopMotion_driving {s : State} {a : Axis} (h : Driving (s.chan a).state) : stopMotion a s = orderStop a .stop s := by
  rcases h with h | h | h <;> simp only [stopMotion, h]

/-- Without a queued entry and not HELD, a STOP acts on the motion alone. -/
theorem stopAxes_motion {s : State} {a : Axis} (hn : s.sched.entryOf a = none) (hs : (s.chan a).state ≠ .held) :
    stopAxes [a] s = stopMotion a s := by
  rw [stopAxes_one, hn, decide_eq_false hs, stopEntry_none hn, stopHeld_other hs]
  rfl

theorem entryOf_nil {s : State} (h : s.sched.queue = []) (a : Axis) : s.sched.entryOf a = none := by
  simp [Scheduler.entryOf, h]

/-- The entry of a port, removed by a STOP, ends STOPPED there (R34, R45). -/
theorem stopEntry_told {s : State} {a : Axis} {en : Entry} {p : Port} (h : s.sched.entryOf a = some en)
    (hl : en.link = none) (ho : originPort en.origin = some p) :
    stopEntry a s =
      (s.withSched (s.sched.without a)).setPort p ((s.port p).told a en.tag .stopped .moveDone) := by
  simp only [stopEntry, h]
  rw [removeEntry_told hl ho (by simp), entryOf_axis h]
  rfl

theorem setPort_chan (s : State) (p : Port) (x : PortRec) (a : Axis) : (s.setPort p x).chan a = s.chan a := by
  cases p <;> rfl

theorem setPort_sched (s : State) (p : Port) (x : PortRec) : (s.setPort p x).sched = s.sched := by cases p <;> rfl

/-- A stop above level 0 does not look at the ports. -/
theorem orderStop_above_setPort {s : State} {a : Axis} (k : StopCause) (h : (s.chan a).ramp.level ≠ 0) (p : Port)
    (x : PortRec) : orderStop a k (s.setPort p x) = (orderStop a k s).setPort p x := by
  rw [orderStop_above k h, orderStop_above k (by rw [setPort_chan]; exact h)]
  cases p <;> rfl

/-- The channel of a held motion that a STOP drops (R41, R45; log 41). -/
def heldStopped (c : Channel) (x : MotionRec) : Channel :=
  { c with
    target := none, heldHome := false, state := if c.referenced then .idle else .unreferenced
    lastResult := some .stopped, lastOrigin := some x.origin }

/-- The state in which the ending of a dropped held motion is delivered. -/
def heldDropped (s : State) (a : Axis) (x : MotionRec) : State :=
  (s.setChan a (heldStopped (s.chan a) x)).withSched ((s.sched.unheld a).setRecord a none)

theorem NoGrant.delivered {s t : State} (h : NoGrant s) (k : DeliveryFrame s t) : NoGrant t := by
  unfold NoGrant Scheduler.hasFree Scheduler.grantedCount at *
  rw [k.frame.allowance, k.sched]
  exact h

/-- A STOP of a HELD axis drops its motion and grants nothing where no grant is possible. -/
theorem stopAxes_held {s : State} {a : Axis} {x : MotionRec} (hs : (s.chan a).state = .held)
    (hn : s.sched.entryOf a = none) (hg : NoGrant s) (hx : s.sched.records.get a = some x) :
    stopAxes [a] s = deliver .byNotice a x .stopped (heldDropped s a x) := by
  have hdrop : stopHeld a s = deliver .byNotice a x .stopped (heldDropped s a x) := by
    have hpos : stopHeld a s = dropHeldMotion a .stopped s := if_pos hs
    rw [hpos, dropHeldMotion, hx]
    exact deliverRecord_some (s := (s.setChan a (heldStopped (s.chan a) x)).withSched (s.sched.unheld a)) hx .stopped
  have hframe := deliver_delivery .byNotice a x .stopped (heldDropped s a x)
  have hrest : ((deliver .byNotice a x .stopped (heldDropped s a x)).chan a).state = .idle
      ∨ ((deliver .byNotice a x .stopped (heldDropped s a x)).chan a).state = .unreferenced := by
    rw [hframe.chan, heldDropped, State.withSched_chan, State.setChan_chan_same, heldStopped]
    dsimp only
    split <;> simp
  rw [stopAxes_one, hn, decide_eq_true hs, stopEntry_none hn, hdrop, stopMotion_rest hrest]
  refine grantPass_none (NoGrant.delivered ?_ hframe)
  exact hg.of_eq rfl rfl rfl rfl

/-- A STOP of an axis at rest removes its entry and grants nothing where no grant is possible. -/
theorem stopAxes_entry {s : State} {a : Axis} {en : Entry} {p : Port}
    (hs : (s.chan a).state = .idle ∨ (s.chan a).state = .unreferenced) (hg : NoGrant s)
    (hen : s.sched.entryOf a = some en) (hl : en.link = none) (ho : originPort en.origin = some p) :
    stopAxes [a] s = (s.withSched (s.sched.without a)).setPort p ((s.port p).told a en.tag .stopped .moveDone) := by
  have hchan : (((s.withSched (s.sched.without a)).setPort p ((s.port p).told a en.tag .stopped .moveDone)).chan a) =
      s.chan a := by rw [setPort_chan]; rfl
  have hheld : (s.chan a).state ≠ .held := by rcases hs with h | h <;> rw [h] <;> decide
  rw [stopAxes_one, hen, stopEntry_told hen hl ho, stopHeld_other (by rw [hchan]; exact hheld),
    stopMotion_rest (by rw [hchan]; exact hs)]
  exact grantPass_none (hg.setPort p _ rfl rfl rfl rfl)

/-- A STOP of an axis in motion with one entry behind it. -/
theorem stopAxes_behind {s : State} {a : Axis} {en : Entry} {p : Port} (hs : Driving (s.chan a).state)
    (hr : (s.chan a).ramp.level ≠ 0) (hq : s.sched.queue = [en]) (ha : en.axis = a) (hh : s.sched.held = [])
    (hl : en.link = none) (ho : originPort en.origin = some p) :
    stopAxes [a] s =
      ((s.setChan a ((s.chan a).stopping .stop)).withSched { s.sched.runDownSlot a with queue := [] }).setPort p
        ((s.port p).told a en.tag .stopped .moveDone) := by
  have hen : s.sched.entryOf a = some en := by simp [Scheduler.entryOf, hq, ha]
  have hwithout : s.sched.without a = { s.sched with queue := [] } := by simp [Scheduler.without, hq, ha]
  rw [stopAxes_one, hen, stopEntry_told hen hl ho, hwithout,
    stopHeld_other (by rw [setPort_chan]; exact hs.ne_held), stopMotion_driving (by rw [setPort_chan]; exact hs),
    orderStop_above_setPort .stop (by exact hr), orderStop_above .stop (by exact hr)]
  refine (grantPass_empty ?_ ?_).trans rfl <;> rw [setPort_sched]
  · rfl
  · exact hh

/-- A STOP of an axis in motion at level 0 with nothing queued or held (R15, R16). -/
theorem stopAxes_rest {s : State} {a : Axis} {x : MotionRec} {p : Port} {c : Channel} (hs : Driving (s.chan a).state)
    (h : (s.chan a).ramp.level = 0) (he : ((s.chan a).stopping .stop).stopped = .result c .stopped)
    (hx : s.sched.records.get a = some x) (hl : x.link = none) (ho : originPort x.origin = some p)
    (hq : s.sched.queue = []) (hh : s.sched.held = []) :
    stopAxes [a] s =
      (deliverFocus a x .stopped (shiftEnding a x .stopped (cameToRest s a c))).setPort p
        ((s.port p).told a x.tag .stopped .moveDone) := by
  rw [stopAxes_motion (entryOf_nil hq a) hs.ne_held, stopMotion_driving hs]
  exact orderStop_rest h ((stopEnd_ordered (.inl rfl) _).trans he) hx hl ho hq hh

theorem Driving.ne_absent {st : AxisState} (h : Driving st) : st ≠ .absent := by
  rcases h with rfl | rfl | rfl <;> decide

/-- Settles O37: the states of the axis that R45 tells apart. -/
theorem stopTaken : Obligations.StopTaken := by
  intro s r a ht
  have hrest (h : (s.chan a).state = .idle ∨ (s.chan a).state = .unreferenced) :
      (s.chan a).state ≠ .absent ∧ (s.chan a).state ≠ .held := by
    rcases h with h | h <;> rw [h] <;> decide
  refine ⟨fun ha => ?_, fun hs hn => ?_, fun hs hn => ⟨fun hc => ?_, fun hc => ?_⟩, fun x hs hn hg hx => ?_,
    fun hs hg en p hen hl ho => ?_, fun hs u hu hr => ⟨fun hn => ?_, fun en p hq haxis hh hl ho => ?_⟩,
    fun x p u st hr hq hh hx hl ho hran hu => ⟨fun hs hj htarget hk hst => ?_, fun n hs hj hk hst => ?_,
      fun hs hj htarget hk hst => ?_⟩⟩
  · rw [stop_exec ht, stopRequest, if_pos ha]
    rfl
  · obtain ⟨hpresent, hheld⟩ := hrest hs
    exact stop_present ht hpresent ((stopAxes_motion hn hheld).trans (stopMotion_rest hs))
  · refine stop_present ht (by simp [hs]) ((stopAxes_motion hn (by simp [hs])).trans ?_)
    simp only [stopMotion, hs, if_pos hc]
  · refine stop_present ht (by simp [hs]) ((stopAxes_motion hn (by simp [hs])).trans ?_)
    simp only [stopMotion, hs, if_neg hc]
  · have hframe := deliver_delivery .byNotice a x .stopped (heldDropped s a x)
    refine ⟨_, stop_present ht (by simp [hs]) (stopAxes_held hs hn hg hx), hframe.axes, ?_, ?_, ?_, fun p hl ho => ?_⟩
    · rw [hframe.sched]; rfl
    · rw [hframe.sched]; rfl
    · rw [hframe.sched]; rfl
    · rw [deliver_port hl ho, State.setPort_port, if_pos rfl]
      cases p <;> rfl
  · exact stop_present ht (hrest hs).1 (stopAxes_entry hs hg hen hl ho)
  · subst hu
    have hdriving : Driving (s.chan a).state := hs
    refine stop_present ht hdriving.ne_absent ?_
    rw [stopAxes_motion hn hdriving.ne_held, stopMotion_driving hdriving, orderStop_above .stop (by omega)]
    simp only [Scheduler.runDownSlot, runDown_eq, Channel.stopping, decelFrom_pos hr]
    rfl
  · subst hu
    have hdriving : Driving (s.chan a).state := hs
    refine stop_present ht hdriving.ne_absent ?_
    rw [stopAxes_behind hdriving (by omega) hq haxis hh hl ho]
    simp only [Scheduler.runDownSlot, runDown_eq, Channel.stopping, decelFrom_pos hr]
    rfl
  · subst hu hst
    have hdriving : Driving (s.chan a).state := .inl hs
    refine ⟨_, stop_present ht hdriving.ne_absent
      (stopAxes_rest hdriving hr (stopped_move hj htarget .stop) hx hl ho hq hh),
      ending_taken (m := x) (e := .stopped) ?_ (fun y t => by simp [userFocusEnding, hk, hran]) ho⟩
    rw [demandAfter_stopped hran (by simp [hk])]
    exact congrArg (fun d => some ({ demand := d, excess := 0, current := true } : DemandRec))
      (positionPermille_cameToRest (s := s)
        (c := { rested (s.chan a) .idle with target := none, lastResult := some .stopped }) rfl rfl)
  · subst hu hst
    have hdriving : Driving (s.chan a).state := .inr (.inr hs)
    refine ⟨_, stop_present ht hdriving.ne_absent (stopAxes_rest hdriving hr (stopped_jog hj .stop) hx hl ho hq hh),
      ending_demand (m := x) (e := .stopped) ?_ (userFocusEnding_jog hk .stopped)⟩
    rw [demandAfter_stopped hran (by simp [hk])]
    exact congrArg (fun d => some ({ demand := d, excess := 0, current := true } : DemandRec))
      (positionPermille_cameToRest (s := s)
        (c := { rested (s.chan a) .idle with target := none, lastResult := some .stopped }) rfl rfl)
  · subst hu hst
    have hdriving : Driving (s.chan a).state := .inr (.inl hs)
    exact ⟨_, stop_present ht hdriving.ne_absent
      (stopAxes_rest hdriving hr (stopped_home hj htarget .stop) hx hl ho hq hh),
      ending_demand (m := x) (e := .stopped) (demandAfter_stopped_home hran hk)
        fun y t => by simp [userFocusEnding, hk]⟩

end Sys2Proof.Machine
end

section
/-! PROOFS. STOP ALL, and SET_AXIS (R3, R4, R45 to R47, R55). -/

namespace Sys2Proof.Machine

/-! ### STOP ALL -/

/-- A pass over the axes that keeps an invariant, and under it establishes a fact of each axis that the later axes
keep. -/
theorem foldl_reaches {f : State → Axis → State} {I : State → Prop} {P : Axis → State → Prop}
    (hinv : ∀ s a, I s → I (f s a)) (hnew : ∀ s a, I s → P a (f s a)) (hkeep : ∀ s a b, I s → P b s → P b (f s a))
    (l : List Axis) {s : State} (hs : I s) : I (l.foldl f s) ∧ ∀ a ∈ l, P a (l.foldl f s) := by
  induction l generalizing s with
  | nil => exact ⟨hs, fun a ha => absurd ha (by simp)⟩
  | cons b l ih =>
    obtain ⟨hI, hP⟩ := ih (hinv s b hs)
    refine ⟨hI, fun a ha => ?_⟩
    rcases List.mem_cons.mp ha with rfl | ha
    · have hpass (m : List Axis) : ∀ t, I t → P a t → P a (m.foldl f t) := by
        induction m with
        | nil => exact fun _ _ h => h
        | cons c m ihm => exact fun t ht h => ihm _ (hinv t c ht) (hkeep t c a ht h)
      exact hpass l _ (hinv s a hs) (hnew s a hs)
    · exact hP a ha

/-- Whatever stands in the held list is HELD (R28). -/
def HeldNamed (s : State) : Prop := ∀ a ∈ s.sched.held, (s.chan a).state = .held

/-- The queue has lost the entry of the axis, and the axes and the held list stand. -/
theorem stopEntry_leaves (a : Axis) (s : State) :
    (stopEntry a s).sched.queue = s.sched.queue.filter (fun e => e.axis ≠ a)
      ∧ (stopEntry a s).sched.held = s.sched.held ∧ ∀ b, (stopEntry a s).chan b = s.chan b := by
  unfold stopEntry
  split
  · next en h =>
    have haxis := entryOf_axis h
    have hframe := deliverEntry_delivery .byNotice en .stopped (s.withSched (s.sched.without en.axis))
    refine ⟨?_, ?_, removeEntry_chan en .stopped s⟩
    · rw [removeEntry, hframe.sched, ← haxis]
      rfl
    · rw [removeEntry, hframe.sched]
      rfl
  · next h =>
    refine ⟨(List.filter_eq_self.mpr fun e he => ?_).symm, rfl, fun _ => rfl⟩
    simpa using List.find?_eq_none.mp h e he

theorem stopEntries_empty {s : State} (h : HeldNamed s) :
    (allAxes.foldl (fun s a => stopEntry a s) s).sched.queue = [] ∧ HeldNamed (allAxes.foldl (fun s a => stopEntry a s) s) := by
  have hpass := foldl_reaches (f := fun s a => stopEntry a s) (I := HeldNamed)
    (P := fun a s => ∀ e ∈ s.sched.queue, e.axis ≠ a)
    (fun s a hs b hb => by
      obtain ⟨-, hheld, hchan⟩ := stopEntry_leaves a s
      rw [hchan]
      exact hs b (hheld ▸ hb))
    (fun s a _ e he => by
      rw [(stopEntry_leaves a s).1] at he
      simpa using (List.mem_filter.mp he).2)
    (fun s a b _ hb e he => by
      rw [(stopEntry_leaves a s).1] at he
      exact hb e (List.mem_filter.mp he).1)
    allAxes h
  refine ⟨List.eq_nil_iff_forall_not_mem.mpr fun e he => ?_, hpass.1⟩
  exact hpass.2 e.axis (by cases e.axis <;> decide) e he rfl

/-- With no queued entry, the held axes alone. -/
structure HeldAlone (s : State) : Prop where
  queue : s.sched.queue = []
  held : HeldNamed s

theorem dropHeldMotion_leaves (a : Axis) (e : Ending) (s : State) :
    (dropHeldMotion a e s).sched.queue = s.sched.queue
      ∧ (dropHeldMotion a e s).sched.held = s.sched.held.filter (fun b => b ≠ a)
      ∧ Resting ((dropHeldMotion a e s).chan a).state ∧ ∀ b, b ≠ a → (dropHeldMotion a e s).chan b = s.chan b := by
  unfold dropHeldMotion
  refine ⟨?_, ?_, ?_, fun b hb => ?_⟩
  · rw [deliverRecord_sched_eq]; rfl
  · rw [deliverRecord_sched_eq]; rfl
  · rw [deliverRecord_chan, State.withSched_chan, State.setChan_chan_same]
    exact dropHeld_resting _ _ _
  · rw [deliverRecord_chan, State.withSched_chan, State.setChan_chan, if_neg hb]

theorem stopHeld_alone {s : State} (a : Axis) (h : HeldAlone s) :
    HeldAlone (stopHeld a s) ∧ ((stopHeld a s).chan a).state ≠ .held
      ∧ ∀ b, (s.chan b).state ≠ .held → ((stopHeld a s).chan b).state ≠ .held := by
  unfold stopHeld
  split
  · next hs =>
    obtain ⟨hqueue, hheld, hrest, hother⟩ := dropHeldMotion_leaves a .stopped s
    refine ⟨⟨hqueue.trans h.queue, fun b hb => ?_⟩, hrest.ne_held, fun b hb => ?_⟩
    · rw [hheld, List.mem_filter] at hb
      rw [hother b (by simpa using hb.2)]
      exact h.held b hb.1
    · by_cases hba : b = a
      · subst hba
        exact hrest.ne_held
      · rw [hother b hba]
        exact hb
  · next hs => exact ⟨h, hs, fun _ => id⟩

/-- Nothing waits: no entry, no held axis. -/
structure Unheld (s : State) : Prop where
  queue : s.sched.queue = []
  held : s.sched.held = []
  none : ∀ a, (s.chan a).state ≠ .held

theorem stopHelds_unheld {s : State} (h : HeldAlone s) : Unheld (allAxes.foldl (fun s a => stopHeld a s) s) := by
  obtain ⟨halone, hnone⟩ := foldl_reaches (f := fun s a => stopHeld a s) (I := HeldAlone)
    (P := fun a s => (s.chan a).state ≠ .held) (fun _ a hs => (stopHeld_alone a hs).1)
    (fun _ a hs => (stopHeld_alone a hs).2.1) (fun _ a b hs => (stopHeld_alone a hs).2.2 b) allAxes h
  have hall (a : Axis) := hnone a (by cases a <;> decide)
  exact ⟨halone.queue, List.eq_nil_iff_forall_not_mem.mpr fun a ha => hall a (halone.held a ha), hall⟩

/-- What a stop leaves of a driving axis with nothing waiting: STOPPING, or at rest. -/
theorem orderStop_leaves {s : State} {a : Axis} (h : Unheld s) :
    (orderStop a .stop s).sched.queue = [] ∧ (orderStop a .stop s).sched.held = []
      ∧ (((orderStop a .stop s).chan a).state = .stopping ∨ Resting ((orderStop a .stop s).chan a).state)
      ∧ ∀ b, b ≠ a → (orderStop a .stop s).chan b = s.chan b := by
  by_cases hl : (s.chan a).ramp.level = 0
  · obtain ⟨c, e, hend, hrest⟩ : ∃ c e, ((s.chan a).stopping .stop).stopEnd = .result c e ∧ Resting c.state := by
      rw [stopEnd_ordered (.inl rfl), Channel.stopped]
      split
      · exact ⟨_, _, rfl, .inr (.inr rfl)⟩
      · exact ⟨_, _, rfl, .inr (.inr rfl)⟩
      · exact ⟨_, _, rfl, .inr (.inl rfl)⟩
    have hstop : orderStop a .stop s =
        grantPass (endMotion a c e ((s.setChan a ((s.chan a).stopping .stop)).withSched (s.sched.runDownSlot a))) := by
      simp only [orderStop, if_pos hl, finishStop, State.withSched_chan, State.setChan_chan_same, hend]
    obtain ⟨hqueue, hheld⟩ :=
      endMotion_queue a c e ((s.setChan a ((s.chan a).stopping .stop)).withSched (s.sched.runDownSlot a))
    have hq := hqueue.trans h.queue
    have hh := hheld.trans h.held
    rw [hstop, grantPass_empty hq hh]
    refine ⟨hq, hh, .inr ?_, fun b hb => ?_⟩
    · rw [endMotion_chan, State.setChan_chan_same]
      exact hrest
    · rw [endMotion_chan, State.setChan_chan, if_neg hb, State.withSched_chan, State.setChan_chan, if_neg hb]
  · rw [orderStop_above .stop hl]
    refine ⟨h.queue, h.held, .inl ?_, fun b hb => ?_⟩
    · rw [State.withSched_chan, State.setChan_chan_same]
      rfl
    · rw [State.withSched_chan, State.setChan_chan, if_neg hb]

theorem stopMotion_unheld {s : State} (a : Axis) (h : Unheld s) :
    Unheld (stopMotion a s) ∧ ¬ Driving ((stopMotion a s).chan a).state
      ∧ ∀ b, ¬ Driving (s.chan b).state → ¬ Driving ((stopMotion a s).chan b).state := by
  by_cases hd : Driving (s.chan a).state
  · rw [stopMotion_driving hd]
    obtain ⟨hqueue, hheld, hstate, hother⟩ := orderStop_leaves (a := a) h
    have hstill : ¬ Driving ((orderStop a .stop s).chan a).state ∧ ((orderStop a .stop s).chan a).state ≠ .held := by
      rcases hstate with k | k | k | k <;> rw [k] <;> simp [Driving]
    refine ⟨⟨hqueue, hheld, fun b => ?_⟩, hstill.1, fun b hb => ?_⟩
    · by_cases hba : b = a
      · exact hba ▸ hstill.2
      · exact hother b hba ▸ h.none b
    · rw [hother b fun hba => hb (hba ▸ hd)]
      exact hb
  · have hstates (b : Axis) : ((stopMotion a s).chan b).state = (s.chan b).state := by
      unfold stopMotion
      dsimp only
      split
      · next k => exact absurd (.inl k) hd
      · next k => exact absurd (.inr (.inl k)) hd
      · next k => exact absurd (.inr (.inr k)) hd
      · split
        · rw [State.setChan_chan]
          split
          · next hba => rw [hba]
          · rfl
        · rfl
      all_goals rfl
    have hsched : (stopMotion a s).sched = s.sched := by
      unfold stopMotion
      dsimp only
      split
      · next k => exact absurd (.inl k) hd
      · next k => exact absurd (.inr (.inl k)) hd
      · next k => exact absurd (.inr (.inr k)) hd
      · split <;> rfl
      all_goals rfl
    refine ⟨⟨by rw [hsched]; exact h.queue, by rw [hsched]; exact h.held, fun b => ?_⟩, ?_, fun b hb => ?_⟩
    · rw [hstates]; exact h.none b
    · rw [hstates]; exact hd
    · rw [hstates]; exact hb

theorem stopAxes_all {s : State} (h : HeldNamed s) :
    Unheld (stopAxes allAxes s) ∧ ∀ a, ¬ Driving ((stopAxes allAxes s).chan a).state := by
  have hentries := stopEntries_empty h
  have hunheld := stopHelds_unheld ⟨hentries.1, hentries.2⟩
  obtain ⟨hrest, hstill⟩ := foldl_reaches (f := fun s a => stopMotion a s) (I := Unheld)
    (P := fun a s => ¬ Driving (s.chan a).state) (fun _ a hs => (stopMotion_unheld a hs).1)
    (fun _ a hs => (stopMotion_unheld a hs).2.1) (fun _ a b hs => (stopMotion_unheld a hs).2.2 b) allAxes hunheld
  have hstop : stopAxes allAxes s = allAxes.foldl (fun s a => stopMotion a s)
      (allAxes.foldl (fun s a => stopHeld a s) (allAxes.foldl (fun s a => stopEntry a s) s)) := by
    unfold stopAxes
    dsimp only
    rw [grantPass_empty hrest.queue hrest.held, ite_self]
  rw [hstop]
  exact ⟨hrest, fun a => hstill a (by cases a <;> decide)⟩

theorem answered_sched (r : Req) (x : Reply) (s : State) : (answered r x s).sched = s.sched := by
  unfold answered respond
  cases r.port <;> rfl

theorem answered_chan (r : Req) (x : Reply) (s : State) (a : Axis) : (answered r x s).chan a = s.chan a := by
  unfold answered respond
  cases r.port <;> rfl

/-- Settles O38: the three passes of a STOP over all the axes, the entries, the held motions, the motions. -/
theorem stopAllBringsToRest : Obligations.StopAllBringsToRest := by
  intro s r ht hnamed
  obtain ⟨⟨hqueue, hheld, hnone⟩, hstill⟩ := stopAxes_all hnamed
  have hexec := request_taken (s := s) (r := r) (c := .bothPorts) ⟨ht, rfl⟩ fun s => stopRequest allAxes s
  refine ⟨_, hexec, ?_, ?_, fun a => ?_⟩
  · rw [answered_sched]; exact hqueue
  · rw [answered_sched]; exact hheld
  · rw [answered_chan]
    exact ⟨fun k => hstill a (.inl k), fun k => hstill a (.inr (.inl k)), fun k => hstill a (.inr (.inr k)), hnone a⟩

/-! ### SET_AXIS -/

theorem yesNoOfCode_listed {b : Byte} (h : b.toNat ≤ 1) : yesNoOfCode b = some (decide (b = 1)) := by
  obtain rfl | rfl : b = 0 ∨ b = 1 := by
    rcases Nat.le_one_iff_eq_zero_or_eq_one.mp h with k | k
    · exact .inl (BitVec.eq_of_toNat_eq k)
    · exact .inr (BitVec.eq_of_toNat_eq k)
  all_goals rfl

theorem approachOfCode_listed {b : Byte} (h : b.toNat ≤ 2) :
    approachOfCode b = some (if b = 0 then .pos else if b = 1 then .neg else .unset) := by
  obtain rfl | rfl | rfl : b = 0 ∨ b = 1 ∨ b = 2 := by
    obtain k | k | k : b.toNat = 0 ∨ b.toNat = 1 ∨ b.toNat = 2 := by omega
    · exact .inl (BitVec.eq_of_toNat_eq k)
    · exact .inr (.inl (BitVec.eq_of_toNat_eq k))
    · exact .inr (.inr (BitVec.eq_of_toNat_eq k))
  all_goals rfl

theorem approachOfCode_unlisted {b : Byte} (h : 3 ≤ b.toNat) : approachOfCode b = none := by
  unfold approachOfCode
  split
  · omega
  · omega
  · omega
  · rfl

/-- The settings that a SET_AXIS with listed codes carries, before its ranges are looked at (R4). -/
def settingsCarried (a : Axis) (old : Settings) (p : AxisParams) : Settings :=
  { present := decide (p.present = 1), travel := p.travel.toNat, softMin := p.softMin.toNat
    softMax := p.softMax.toNat, homeOffset := p.homeOffset.toNat, tolerance := p.tolerance.toNat
    backlash := p.backlash.toNat
    approach := if p.approach = 0 then .pos else if p.approach = 1 then .neg else .unset
    park := if p.park.toNat = 65535 then none else some p.park.toNat
    centre := if a = .sh ∨ a = .sv then p.centre.toNat else old.centre
    k := if a = .sh ∨ a = .sv then p.k.toNat else old.k }

/-- The ranges of R4 for the parameters of a SET_AXIS. -/
structure ParamsInRange (a : Axis) (p : AxisParams) : Prop where
  travel : 1000 ≤ p.travel.toNat ∧ p.travel.toNat ≤ 60000
  soft : p.softMin.toNat < p.softMax.toNat ∧ p.softMax.toNat ≤ p.travel.toNat
  home : p.homeOffset.toNat ≤ p.softMin.toNat
  tolerance : 1 ≤ p.tolerance.toNat
  park : p.park.toNat = 65535 ∨ p.softMin.toNat ≤ p.park.toNat ∧ p.park.toNat ≤ p.softMax.toNat
  shift : a = .sh ∨ a = .sv →
    p.softMin.toNat ≤ p.centre.toNat ∧ p.centre.toNat ≤ p.softMax.toNat ∧ 256 ≤ p.k.toNat ∧ p.k.toNat ≤ 25600

theorem settingsCarried_inRange (a : Axis) (old : Settings) (p : AxisParams) :
    (settingsInRange (settingsCarried a old p) && (!isShift a || shiftInRange (settingsCarried a old p))) = true
      ↔ ParamsInRange a p := by
  have hpark : settingsInRange (settingsCarried a old p) = true ↔
      (1000 ≤ p.travel.toNat ∧ p.travel.toNat ≤ 60000) ∧ (p.softMin.toNat < p.softMax.toNat
        ∧ p.softMax.toNat ≤ p.travel.toNat) ∧ p.homeOffset.toNat ≤ p.softMin.toNat ∧ 1 ≤ p.tolerance.toNat
        ∧ (p.park.toNat = 65535 ∨ p.softMin.toNat ≤ p.park.toNat ∧ p.park.toNat ≤ p.softMax.toNat) := by
    unfold settingsCarried settingsInRange
    by_cases h : p.park.toNat = 65535 <;> simp [h, and_assoc]
  have hshift : (!isShift a || shiftInRange (settingsCarried a old p)) = true ↔
      (a = .sh ∨ a = .sv → p.softMin.toNat ≤ p.centre.toNat ∧ p.centre.toNat ≤ p.softMax.toNat
        ∧ 256 ≤ p.k.toNat ∧ p.k.toNat ≤ 25600) := by
    cases a <;> simp [isShift, shiftInRange, settingsCarried, and_assoc]
  rw [Bool.and_eq_true, hshift, hpark]
  constructor
  · rintro ⟨⟨h1, h2, h3, h4, h5⟩, h6⟩
    exact ⟨h1, h2, h3, h4, h5, h6⟩
  · rintro ⟨h1, h2, h3, h4, h5, h6⟩
    exact ⟨⟨h1, h2, h3, h4, h5⟩, h6⟩

theorem settingsOf_listed {p : AxisParams} (hp : p.present.toNat ≤ 1) (ha : p.approach.toNat ≤ 2) (a : Axis)
    (old : Settings) :
    settingsOf a old p =
      if settingsInRange (settingsCarried a old p) && (!isShift a || shiftInRange (settingsCarried a old p)) then
        some (settingsCarried a old p)
      else none := by
  simp only [settingsOf, yesNoOfCode_listed hp, approachOfCode_listed ha]
  cases a <;> rfl

theorem settingsOf_set {a : Axis} {old : Settings} {p : AxisParams} {x : Settings} (h : AxisSet a old p x) :
    settingsOf a old p = some x := by
  have hrange : ParamsInRange a p := ⟨h.travel, h.soft, h.home, h.tolerance, h.park, h.shift⟩
  rw [settingsOf_listed h.codes.1 h.codes.2, if_pos ((settingsCarried_inRange a old p).mpr hrange), h.written]
  rfl

theorem settingsOf_none {a : Axis} {old : Settings} {p : AxisParams}
    (h : 2 ≤ p.present.toNat ∨ 3 ≤ p.approach.toNat ∨ ¬ ParamsInRange a p) : settingsOf a old p = none := by
  by_cases hp : p.present.toNat ≤ 1
  · by_cases ha : p.approach.toNat ≤ 2
    · have hout : ¬ ParamsInRange a p := by
        rcases h with h | h | h
        · omega
        · omega
        · exact h
      rw [settingsOf_listed hp ha, if_neg fun k => hout ((settingsCarried_inRange a old p).mp k)]
    · unfold settingsOf
      rw [approachOfCode_unlisted (by omega), yesNoOfCode_listed hp]
  · unfold settingsOf
    rw [yesNoOfCode_unlisted (by omega)]
    split <;> simp_all

theorem setAxis_exec {s : State} {r : Req} (ht : Takes s r .systemOnly) (a : Axis) (p : AxisParams) :
    exec (.setAxis r (axisByte a) p) s =
      if settable (s.chan a).state then
        match settingsOf a (s.chan a).settings p with
        | some x => .next (answered r { status := .ok } (applySettings a x s))
        | none => .next (answered r { status := .range } s)
      else .next (answered r { status := .busy } s) := by
  simp only [exec, execSetAxis, request_taken ht, onAxis_axisByte]
  split
  · cases settingsOf a (s.chan a).settings p with
    | some x => rfl
    | none => rfl
  · rfl

theorem setAxis_taken {s : State} {r : Req} {a : Axis} {p : AxisParams} {x : Settings} (ht : Takes s r .systemOnly)
    (hset : AxisSet a (s.chan a).settings p x)
    (hs : (s.chan a).state = .idle ∨ (s.chan a).state = .unreferenced ∨ (s.chan a).state = .absent) :
    exec (.setAxis r (axisByte a) p) s = .next (answered r { status := .ok } (applySettings a x s)) := by
  have hyes : settable (s.chan a).state = true := by rcases hs with h | h | h <;> rw [h] <;> rfl
  rw [setAxis_exec ht, if_pos hyes, settingsOf_set hset]

theorem applySettings_kept {s : State} {a : Axis} {x : Settings} (h : (s.chan a).settings.present = x.present) :
    applySettings a x s = axisKept a x s := by
  unfold applySettings
  rw [h]
  cases x.present <;> rfl

/-- New settings that take neither the reference nor the centre of the axis. -/
theorem axisKept_plain {s : State} {a : Axis} {x : Settings}
    (href : (s.chan a).referenced = false ∨
      (s.chan a).settings.travel = x.travel ∧ (s.chan a).settings.homeOffset = x.homeOffset)
    (hc : a = .zm ∨ a = .fc ∨ x.present = false ∨
      (s.chan a).settings.centre = x.centre ∧ (s.chan a).settings.k = x.k) :
    axisKept a x s = s.setChan a { s.chan a with settings := x } := by
  have h1 : ((s.chan a).referenced && (decide (x.travel ≠ (s.chan a).settings.travel)
      || decide (x.homeOffset ≠ (s.chan a).settings.homeOffset))) = false := by
    rcases href with h | ⟨h, k⟩
    · simp [h]
    · simp [h, k]
  have h2 : (isShift a && x.present && (decide (x.centre ≠ (s.chan a).settings.centre)
      || decide (x.k ≠ (s.chan a).settings.k))) = false := by
    rcases hc with h | h | h | ⟨h, k⟩
    · simp [h, isShift]
    · simp [h, isShift]
    · simp [h]
    · simp [h, k]
  simp only [axisKept, h1, h2, Bool.false_eq_true, if_false]

/-- A present shift axis whose centre or k changes has its demand record written (R55). -/
theorem axisKept_recentred {s : State} {a : Axis} {x : Settings}
    (href : (s.chan a).referenced = false ∨
      (s.chan a).settings.travel = x.travel ∧ (s.chan a).settings.homeOffset = x.homeOffset)
    (ha : a = .sh ∨ a = .sv) (hx : x.present = true)
    (hc : (s.chan a).settings.centre ≠ x.centre ∨ (s.chan a).settings.k ≠ x.k) :
    axisKept a x s =
      writeDemand a
        (if (s.chan a).referenced then
          { demand := permilleOf a x s.geom.inputs.orientation (s.chan a).position, excess := 0, current := true }
        else { demand := 0, excess := 0, current := false })
        (s.setChan a { s.chan a with settings := x }) := by
  have h1 : ((s.chan a).referenced && (decide (x.travel ≠ (s.chan a).settings.travel)
      || decide (x.homeOffset ≠ (s.chan a).settings.homeOffset))) = false := by
    rcases href with h | ⟨h, k⟩
    · simp [h]
    · simp [h, k]
  have h2 : (isShift a && x.present && (decide (x.centre ≠ (s.chan a).settings.centre)
      || decide (x.k ≠ (s.chan a).settings.k))) = true := by
    simp only [(isShift_iff a).mpr ha, hx, Bool.and_self, Bool.true_and, Bool.or_eq_true, decide_eq_true_eq]
    exact hc.imp Ne.symm Ne.symm
  simp only [axisKept, h1, h2, Bool.false_eq_true, if_false, if_true, axisRecentred, positionPermille,
    State.setChan_chan_same, State.setChan_geom]
  split <;> rfl

/-- The state in which a SET_AXIS that takes the reference of an axis looks at its queued entry (R4, R55). -/
def referenceTaken (a : Axis) (x : Settings) (s : State) : State :=
  { s.setChan a { s.chan a with settings := x, referenced := false, state := .unreferenced } with
    shift := demandLost s.shift a }

theorem uncurrent_eq (a : Axis) (s : State) : uncurrent a s = { s with shift := demandLost s.shift a } := by
  cases a <;> simp [uncurrent, ShiftUnit.get, ShiftUnit.set, demandLost, State.withShift]

/-- A change of travel or home_offset takes the reference of an IDLE axis (R4, R46, R55). -/
theorem axisKept_lost {s : State} {a : Axis} {x : Settings} (href : (s.chan a).referenced = true)
    (hs : (s.chan a).state = .idle)
    (hc : (s.chan a).settings.travel ≠ x.travel ∨ (s.chan a).settings.homeOffset ≠ x.homeOffset)
    (hcentre : (s.chan a).settings.centre = x.centre) (hk : (s.chan a).settings.k = x.k) :
    axisKept a x s = loseReference a .settings (referenceTaken a x s) := by
  have h1 : ((s.chan a).referenced && (decide (x.travel ≠ (s.chan a).settings.travel)
      || decide (x.homeOffset ≠ (s.chan a).settings.homeOffset))) = true := by
    simp only [href, Bool.true_and, Bool.or_eq_true, decide_eq_true_eq]
    exact hc.imp Ne.symm Ne.symm
  have h2 : (isShift a && x.present && (decide (x.centre ≠ (s.chan a).settings.centre)
      || decide (x.k ≠ (s.chan a).settings.k))) = false := by simp [hcentre, hk]
  simp only [axisKept, h1, h2, Bool.false_eq_true, if_false, if_true, axisUnreferenced, State.setChan_chan_same, hs,
    uncurrent_eq, State.setChan_twice]
  rfl

/-- A demand record of the unit, for the axes that have one (R50). -/
theorem shift_get_iff (u : ShiftUnit) (a : Axis) (d : DemandRec) (h1 : a = .sh → d = u.sh) (h2 : a = .sv → d = u.sv) :
    u.get a = if isShift a then some d else none := by
  cases a with
  | sh => rw [h1 rfl]; rfl
  | sv => rw [h2 rfl]; rfl
  | zm => rfl
  | fc => rfl

/-- The state in which an axis that has become ABSENT drops its entry (R3, R55). -/
theorem demandRecord_written {a : Axis} (d : DemandRec) (s : State) :
    DemandWritten a d s (if isShift a then writeDemand a d s else s) := by
  cases a with
  | sh => exact writeDemand_written rfl d s
  | sv => exact writeDemand_written rfl d s
  | zm => rfl
  | fc => rfl

theorem demandRecord_delivery (a : Axis) (d : DemandRec) (s : State) :
    DeliveryFrame s (if isShift a then writeDemand a d s else s) := by
  split
  · exact writeDemand_delivery a d s
  · exact .refl s

theorem demandRecord_port (a : Axis) (d : DemandRec) (s : State) (p : Port) :
    (if isShift a then writeDemand a d s else s).port p = s.port p := by
  split
  · exact writeDemand_port a d s p
  · rfl

/-- An axis that becomes ABSENT drops its entry under no grant (R3, R47, R55). -/
theorem applySettings_gone {s : State} {a : Axis} {x : Settings} {d : DemandRec}
    (h : (s.chan a).settings.present = true) (hx : x.present = false)
    (h1 : a = .sh → d = s.shift.sh) (h2 : a = .sv → d = s.shift.sv) :
    applySettings a x s =
      becomeAbsent a
        (if isShift a then
          writeDemand a { d with excess := if d.current then d.demand else 0, current := true }
            (s.setChan a { (s.chan a).release with settings := x, referenced := false, state := .absent })
        else s.setChan a { (s.chan a).release with settings := x, referenced := false, state := .absent }) := by
  have hget := shift_get_iff s.shift a d h1 h2
  unfold applySettings
  rw [h, hx]
  simp only [axisGone, State.setChan_shift, hget]
  cases isShift a <;> rfl

theorem applySettings_fitted {s : State} {a : Axis} {x : Settings}
    (h : (s.chan a).settings.present = false) (hx : x.present = true) :
    applySettings a x s =
      if isShift a then
        writeDemand a { demand := 0, excess := 0, current := false }
          (s.setChan a { s.chan a with settings := x, state := .unreferenced, position := 0 })
      else s.setChan a { s.chan a with settings := x, state := .unreferenced, position := 0 } := by
  unfold applySettings
  rw [h, hx]
  cases a <;> rfl

theorem becomeAbsent_none {s : State} {a : Axis} (h : s.sched.entryOf a = none) (hg : NoGrant s) :
    becomeAbsent a s = s := by
  simp only [becomeAbsent, h]
  exact grantPass_none hg

theorem becomeAbsent_told {s : State} {a : Axis} {en : Entry} {p : Port} (h : s.sched.entryOf a = some en)
    (hg : NoGrant s) (hl : en.link = none) (ho : originPort en.origin = some p) :
    becomeAbsent a s =
      (s.withSched (s.sched.without a)).setPort p ((s.port p).told a en.tag (.failed .absent) .moveFailed) := by
  simp only [becomeAbsent, h]
  rw [removeEntry_told hl ho (by simp), entryOf_axis h]
  exact grantPass_none (hg.setPort p _ rfl rfl rfl rfl)

theorem loseReference_told {s : State} {a : Axis} {en : Entry} {p : Port} (why : FailReason)
    (h : s.sched.entryOf a = some en) (hm : en.motion ≠ .home) (hl : en.link = none)
    (ho : originPort en.origin = some p) :
    loseReference a why s =
      (s.withSched (s.sched.without a)).setPort p ((s.port p).told a en.tag (.failed why) .moveFailed) := by
  simp only [loseReference, h, if_neg hm]
  rw [removeEntry_told hl ho (by simp), entryOf_axis h]
  rfl

theorem loseReference_stays {s : State} {a : Axis} (why : FailReason)
    (h : s.sched.entryOf a = none ∨ ∃ en, s.sched.entryOf a = some en ∧ en.motion = .home) :
    loseReference a why s = s := by
  rcases h with h | ⟨en, h, hm⟩
  · simp only [loseReference, h]
  · simp only [loseReference, h, hm, if_true]

theorem not_paramsInRange {a : Axis} {p : AxisParams}
    (h : p.travel.toNat < 1000 ∨ 60000 < p.travel.toNat
      ∨ p.softMax.toNat ≤ p.softMin.toNat ∨ p.travel.toNat < p.softMax.toNat ∨ p.softMin.toNat < p.homeOffset.toNat
      ∨ p.tolerance.toNat = 0
      ∨ p.park.toNat ≠ 65535 ∧ (p.park.toNat < p.softMin.toNat ∨ p.softMax.toNat < p.park.toNat)
      ∨ (a = .sh ∨ a = .sv) ∧ (p.centre.toNat < p.softMin.toNat ∨ p.softMax.toNat < p.centre.toNat
        ∨ p.k.toNat < 256 ∨ 25600 < p.k.toNat)) : ¬ ParamsInRange a p := by
  rintro ⟨htravel, hsoft, hhome, htol, hpark, hshift⟩
  rcases h with h | h | h | h | h | h | h | ⟨ha, h⟩
  case inr.inr.inr.inr.inr.inr.inr =>
    have := hshift ha
    omega
  all_goals omega

/-- Settles O39: BUSY, RANGE, and the four changes that an accepted SET_AXIS can make. -/
theorem settingsWritten : Obligations.SettingsWritten := by
  refine ⟨fun s r a p ht hb => ?_, fun s r a p ht hs hout => ?_, fun s r a p x ht hset hs gone fitted lost hgone hfit hlost => ?_⟩
  · have hno : settable (s.chan a).state ≠ true := by
      rcases hb with h | h <;> cases hst : (s.chan a).state <;> rw [hst] at h <;> first | decide | cases h
    rw [setAxis_exec ht, if_neg hno]
  · have hyes : settable (s.chan a).state = true := by rcases hs with h | h | h <;> rw [h] <;> rfl
    have hnone : settingsOf a (s.chan a).settings p = none := by
      rcases hout with h | h | h
      · exact settingsOf_none (.inl h)
      · exact settingsOf_none (.inr (.inl h))
      · exact settingsOf_none (.inr (.inr (not_paramsInRange h)))
    rw [setAxis_exec ht, if_pos hyes, hnone]
  rw [setAxis_taken ht hset hs]
  refine ⟨fun hpres href => ⟨fun hc => ?_, fun ha hx hc => ?_⟩,
    fun hpres href hidle hc hcentre hk => ⟨fun hen => ?_, fun en q hen hm hl ho => ?_⟩,
    fun hpres hx hg d h1 h2 => ?_, fun hpres hx => ?_⟩
  · rw [applySettings_kept hpres, axisKept_plain href hc]
  · rw [applySettings_kept hpres, axisKept_recentred href ha hx hc]
    exact ⟨_, rfl, writeDemand_written ((isShift_iff a).mpr ha) _ _⟩
  · rw [applySettings_kept hpres, axisKept_lost href hidle hc hcentre hk, loseReference_stays, hlost]
    · rfl
    · exact hen
  · rw [applySettings_kept hpres, axisKept_lost href hidle hc hcentre hk, loseReference_told (en := en) (p := q), hlost]
    · cases q <;> rfl
    · exact hen
    · exact hm
    · exact hl
    · exact ho
  · rw [applySettings_gone hpres hx h1 h2]
    have hgone' : gone = s.setChan a { (s.chan a).release with settings := x, referenced := false, state := .absent } :=
      hgone
    rw [← hgone']
    generalize hd : ({ d with excess := if d.current then d.demand else 0, current := true } : DemandRec) = e
    have hwritten := demandRecord_written (a := a) e gone
    have hframe := demandRecord_delivery a e gone
    have hport := demandRecord_port a e gone
    generalize (if isShift a then writeDemand a e gone else gone) = t at hwritten hframe hport
    have hsched : t.sched = s.sched := hframe.sched.trans (by rw [hgone]; rfl)
    have hnone : NoGrant t := NoGrant.delivered (s := gone) (hgone ▸ hg.of_eq rfl rfl rfl rfl) hframe
    refine ⟨t, hwritten, fun hen => ?_, fun en q hen hl ho => ?_⟩
    · rw [becomeAbsent_none (by rw [hsched]; exact hen) hnone]
    · rw [becomeAbsent_told (by rw [hsched]; exact hen) hnone hl ho, hport, hsched, hgone]
      cases q <;> rfl
  · rw [applySettings_fitted hpres hx]
    subst hfit
    exact ⟨_, rfl, demandRecord_written _ _⟩

end Sys2Proof.Machine
end

section
/-! PROOFS. Step events (R9 to R16, R29, R37, R41, R42, R171). -/

namespace Sys2Proof.Machine

/-! ### The coils through grants -/

/-- The coils carry the entry of the phase index (R9, R10). -/
def Patterned (c : Channel) : Prop :=
  c.coilA = (coilPattern c.phaseIndex).1 ∧ c.coilB = (coilPattern c.phaseIndex).2

theorem energize_patterned {c : Channel} (h : Patterned c) : Patterned c.energize := by
  unfold Channel.energize
  split
  · exact h
  · exact ⟨rfl, rfl⟩

theorem runMove_patterned {c : Channel} (h : Patterned c) (t : Int) : Patterned (c.runMove t) := by
  rw [runMove_eq]
  exact h

theorem startMove_patterned {c : Channel} (h : Patterned c) (t : Int) : Patterned (c.startMove t).chan := by
  unfold Channel.startMove
  dsimp only
  split
  · exact h
  · refine runMove_patterned (energize_patterned ?_) _
    exact h

theorem startHome_patterned {c : Channel} (h : Patterned c) : Patterned c.startHome := by
  have henergized : Patterned ({ c with state := .homing, referenced := false, heldHome := false } : Channel).energize :=
    energize_patterned h
  unfold Channel.startHome
  dsimp only
  split <;> exact henergized

theorem startJog_patterned {c : Channel} (h : Patterned c) (d : Dir) (l : Nat) : Patterned (c.startJog d l).chan := by
  have henergized : Patterned
      ({ c with state := .jogging, jog := some ⟨d, min l (topLevel c.table)⟩ } : Channel).energize := energize_patterned h
  unfold Channel.startJog
  dsimp only
  split <;> exact henergized

theorem settleMotion_chan (a b : Axis) (p : Progress) (s : State) :
    (settleMotion a p s).chan b = (s.setChan a p.chan).chan b := by
  cases p with
  | running c => rfl
  | ended c e => exact endMotion_chan a b c e s

/-- The coils of every axis go on following its phase index. -/
def KeepsPatterns (s t : State) : Prop := ∀ b, Patterned (s.chan b) → Patterned (t.chan b)

theorem setChan_patterns {s : State} {a : Axis} {c : Channel} (h : Patterned (s.chan a) → Patterned c) :
    KeepsPatterns s (s.setChan a c) := by
  intro b hb
  rw [State.setChan_chan]
  split
  · next hba => exact h (hba ▸ hb)
  · exact hb

theorem settleMotion_patterns {s : State} {a : Axis} {p : Progress} (h : Patterned (s.chan a) → Patterned p.chan) :
    KeepsPatterns s (settleMotion a p s) := by
  intro b hb
  rw [settleMotion_chan]
  exact setChan_patterns h b hb

theorem from_patterned {c : Channel} (h : Patterned c) (o : Origin) : Patterned (c.from o) := h

theorem grantEntry_patterns (en : Entry) (s : State) : KeepsPatterns s (grantEntry en s) := by
  intro b hb
  unfold grantEntry
  dsimp only
  split
  · refine settleMotion_patterns (fun h => ?_) b (by rw [State.withSched_chan]; exact hb)
    rw [State.withSched_chan] at h
    exact startMove_patterned (from_patterned h _) _
  · refine setChan_patterns (fun h => ?_) b (by rw [State.withSched_chan]; exact hb)
    rw [State.withSched_chan] at h
    exact startHome_patterned (from_patterned h _)
  · refine settleMotion_patterns (fun h => ?_) b (by rw [State.withSched_chan]; exact hb)
    rw [State.withSched_chan] at h
    exact startJog_patterned (from_patterned h _) _ _

theorem resume_patterns (a : Axis) (s : State) : KeepsPatterns s (resume a s) := by
  intro b hb
  unfold resume
  dsimp only
  split
  · exact hb
  · split
    · refine setChan_patterns (fun h => ?_) b (by rw [State.withSched_chan]; exact hb)
      rw [State.withSched_chan] at h
      exact startHome_patterned (from_patterned h _)
    · split
      · refine settleMotion_patterns (fun h => ?_) b (by rw [State.withSched_chan]; exact hb)
        rw [State.withSched_chan] at h
        exact startMove_patterned (from_patterned h _) _
      · exact hb

theorem grantPassN_patterns (n : Nat) (s : State) : KeepsPatterns s (grantPassN n s) := by
  induction n generalizing s with
  | zero => exact fun _ => id
  | succ n ih =>
    unfold grantPassN
    split
    · split
      · exact fun b hb => ih _ b (resume_patterns _ s b hb)
      · split
        · exact fun b hb => ih _ b (grantEntry_patterns _ s b hb)
        · exact fun _ => id
    · exact fun _ => id

theorem grantPass_patterns (s : State) : KeepsPatterns s (grantPass s) := grantPassN_patterns _ s

/-! ### A microstep -/

/-- The axis has moved a microstep on from `c`, its coils with it, and the other axes stand (R9). -/
def MovedOn (a : Axis) (c : Channel) (s t : State) : Prop :=
  Still c (t.chan a) ∧ Patterned (t.chan a) ∧ ∀ b, b ≠ a → Still (s.chan b) (t.chan b)

/-- What a grant pass leaves of an axis that moved. -/
theorem MovedOn.grantPass {a : Axis} {c : Channel} {s t : State} (h : MovedOn a c s t) : MovedOn a c s (grantPass t) := by
  obtain ⟨hstill, hpattern, hother⟩ := h
  have hgrant := (grantPass_sched t).step.still
  exact ⟨hstill.trans (hgrant a), grantPass_patterns t a hpattern, fun b hb => (hother b hb).trans (hgrant b)⟩

theorem movedOn_of_chan {a : Axis} {c d : Channel} {s t : State} (h : ∀ b, t.chan b = (s.setChan a d).chan b)
    (hd : Still c d) (hp : Patterned d) : MovedOn a c s t := by
  refine ⟨?_, ?_, fun b hb => ?_⟩
  · rw [h, State.setChan_chan_same]; exact hd
  · rw [h, State.setChan_chan_same]; exact hp
  · rw [h, State.setChan_chan, if_neg hb]; exact .refl _

theorem settleAndGrant_moved {a : Axis} {c : Channel} {p : Progress} (s : State) (hd : Still c p.chan)
    (hp : Patterned p.chan) : MovedOn a c s (settleAndGrant a p s) := by
  cases p with
  | running d => exact movedOn_of_chan (fun _ => rfl) hd hp
  | ended d e => exact (movedOn_of_chan (endMotion_chan a · d e s) hd hp).grantPass

theorem microstep_patterned (c : Channel) : Patterned c.microstep := ⟨rfl, rfl⟩

theorem segmentOver_patterned {c : Channel} (h : Patterned c) : Patterned c.segmentOver.chan := by
  unfold Channel.segmentOver
  split
  · split <;> exact h
  · exact h

theorem moveStep_patterned (c : Channel) : Patterned c.moveStep.chan := by
  rw [moveStep_eq]
  split
  · exact segmentOver_patterned (microstep_patterned c)
  · exact microstep_patterned c

theorem jogStep_patterned (c : Channel) : Patterned c.jogStep.chan := by
  unfold Channel.jogStep
  dsimp only
  split <;> exact microstep_patterned c

theorem fastOver_patterned {c : Channel} (h : Patterned c) (x : Homing) : Patterned (c.fastOver x).chan := by
  unfold Channel.fastOver
  split <;> exact h

theorem slowFast_patterned {c : Channel} (h : Patterned c) (x : Homing) (r : HomingRun) :
    Patterned (c.slowFast x r).chan := by
  unfold Channel.slowFast
  dsimp only
  split
  · refine fastOver_patterned ?_ _
    exact h
  · exact h

theorem homeStep_patterned (c : Channel) : Patterned c.homeStep.chan := by
  have h := microstep_patterned c
  unfold Channel.homeStep
  dsimp only
  split
  · exact h
  · split
    · split <;> exact h
    · split
      · split
        · refine slowFast_patterned ?_ _ _
          exact h
        · exact h
      · split
        · refine fastOver_patterned ?_ _
          exact h
        · exact h
      · split
        · refine fastOver_patterned ?_ _
          exact h
        · exact h

theorem stopEnd_patterned {c : Channel} (h : Patterned c) : Patterned c.stopEnd.chan := by
  unfold Channel.stopEnd Channel.stopped
  split
  · exact h
  · split
    · exact h
    · exact h
    · split <;> exact h
  all_goals split <;> exact h

theorem enterHeld_moved {a : Axis} {c d : Channel} (s : State) (hd : Still c d) (hp : Patterned d) :
    MovedOn a c s (enterHeld a d s) := by
  unfold enterHeld
  dsimp only
  split
  · refine MovedOn.grantPass (movedOn_of_chan (fun b => ?_) hd hp)
    rfl
  · refine (movedOn_of_chan (d := d.dropHeld.heldEnded .replaced
      (((s.setChan a d).withSched ((s.setChan a d).sched.freeSlot a)).sched.records.get a)) (fun b => ?_)
      (hd.trans ((dropHeld_still d).trans (heldEnded_still _ _ _))) hp).grantPass
    rw [deliverRecord_chan, State.setChan_chan, State.setChan_chan]
    split
    · rfl
    · rw [State.withSched_chan, State.setChan_chan, if_neg ‹_›]

theorem finishStop_moved (a : Axis) (s : State) (h : Patterned (s.chan a)) :
    MovedOn a (s.chan a) s (finishStop a s) := by
  have hstill := stopEnd_still (s.chan a)
  have hpattern := stopEnd_patterned h
  unfold finishStop
  split
  · next c e he =>
    rw [he] at hstill hpattern
    exact (movedOn_of_chan (endMotion_chan a · c e s) hstill hpattern).grantPass
  · next c he =>
    rw [he] at hstill hpattern
    exact enterHeld_moved s hstill hpattern

theorem stopStep_moved (a : Axis) (s : State) : MovedOn a (s.chan a).microstep s (stopStep a s) := by
  have hset : MovedOn a (s.chan a).microstep s
      (s.setChan a { (s.chan a).microstep with ramp := decelStep (s.chan a).table (s.chan a).ramp }) :=
    movedOn_of_chan (fun _ => rfl) ⟨rfl, rfl, rfl, rfl, rfl, rfl⟩ (microstep_patterned _)
  obtain ⟨hstill, hpattern, hother⟩ := hset
  unfold stopStep
  dsimp only
  split
  · obtain ⟨hstill', hpattern', hother'⟩ := finishStop_moved a _ hpattern
    exact ⟨hstill.trans hstill', hpattern', fun b hb => (hother b hb).trans (hother' b hb)⟩
  · exact ⟨hstill, hpattern, hother⟩

theorem axisStep_moved {a : Axis} {s : State} (h : inMotion (s.chan a).state = true) :
    MovedOn a (s.chan a).microstep s (axisStep a s) := by
  unfold axisStep
  dsimp only
  split
  · exact settleAndGrant_moved s (moveStep_still _) (moveStep_patterned _)
  · exact settleAndGrant_moved s (jogStep_still _) (jogStep_patterned _)
  · exact settleAndGrant_moved s (homeStep_still _) (homeStep_patterned _)
  · exact stopStep_moved a s
  all_goals next hs => rw [hs] at h; cases h

theorem axisStep_rest {a : Axis} {s : State} (h : inMotion (s.chan a).state = false) : axisStep a s = s := by
  unfold axisStep
  dsimp only
  split
  case h_1 hs => rw [hs] at h; cases h
  case h_2 hs => rw [hs] at h; cases h
  case h_3 hs => rw [hs] at h; cases h
  case h_4 hs => rw [hs] at h; cases h
  all_goals rfl

/-! ### The last microstep -/

theorem microstep_eq (c : Channel) : c.microstep = stepped c := rfl

theorem decelStep_last {rp : RampPos} (h : LastMicrostep rp) (table : List RampLevel) :
    decelStep table rp = rampOver := by
  obtain ⟨hlevel, hleft, -⟩ := h
  rw [decelStep, if_neg (by omega), hlevel]
  rfl

theorem rampStep_last {rp : RampPos} (h : LastMicrostep rp) (table : List RampLevel) (peak : Nat) (f : Nat → Bool) (r : Nat) :
    rampStep table peak f r rp = rampOver := by
  simp only [rampStep, h.2.2, decelStep_last h]

theorem moveStep_last {c : Channel} (h : LastMicrostep c.ramp) :
    c.moveStep = { stepped c with ramp := rampOver }.segmentOver := by
  have hramp : c.moveStepped.ramp = rampOver := rampStep_last h _ _ _ _
  have hstepped : c.moveStepped = { stepped c with ramp := rampOver } := by
    rw [← hramp]
    rfl
  rw [moveStep_eq, if_pos hramp, hstepped]

theorem stopStep_last {s : State} {a : Axis} (h : LastMicrostep (s.chan a).ramp) :
    stopStep a s = finishStop a (s.setChan a { stepped (s.chan a) with ramp := rampOver }) := by
  have hramp : decelStep (stepped (s.chan a)).table (stepped (s.chan a)).ramp = rampOver := decelStep_last h _
  simp only [stopStep, microstep_eq, hramp, if_true]

theorem axisStep_stopping {s : State} {a : Axis} (h : (s.chan a).state = .stopping) : axisStep a s = stopStep a s := by
  simp only [axisStep, h]

/-- A stop for the allowance at its last microstep: the motion is held (R16, R41). -/
theorem stopEnd_allowance {c : Channel} (hk : c.stopCause = some .allowance) (hj : c.jog = none) :
    c.stopEnd = .heldOn { rested c .held with heldHome := c.heldHome || c.target.isNone } := by
  unfold Channel.stopEnd
  rw [hk]
  cases ht : c.target with
  | some t =>
    have hkind : c.stoppedKind = .move := by simp [Channel.stoppedKind, hj, ht]
    simp only [hkind, Option.isNone_some, Bool.or_false]
    rfl
  | none =>
    have hkind : c.stoppedKind = .home := by simp [Channel.stoppedKind, hj, ht]
    simp only [hkind, Option.isNone_none, Bool.or_true, Channel.atRest, rested, ht]
    rfl

theorem freed_grantee_other {a : Axis} {sl : Slot} (h : sl ≠ .granted a) : (sl.freed a).grantee = sl.grantee := by
  unfold Slot.freed
  split
  · next hh => cases sl <;> simp_all [Slot.holder, Slot.grantee]
  · rfl

/-- Freeing a slot that is not GRANTED leaves the count of grants (R35). -/
theorem freeSlot_count_other {q : Scheduler} {a : Axis} (h1 : q.slot1 ≠ .granted a) (h2 : q.slot2 ≠ .granted a) :
    (q.freeSlot a).grantedCount = q.grantedCount := by
  simp only [Scheduler.grantedCount, Scheduler.freeSlot, freed_grantee_other h1, freed_grantee_other h2]

theorem noGrant_of_count {s t : State} (h : allowance s ≤ s.sched.grantedCount)
    (hc : t.sched.grantedCount = s.sched.grantedCount) (hd : t.sched.dieAllow = s.sched.dieAllow)
    (hp : t.phase = s.phase) : NoGrant t := by
  refine .inr ?_
  have ha : allowance t = allowance s := by simp only [allowance, hd, hp]
  rw [ha, hc]
  exact h

/-- HELD at the tail of the held list, where no grant is possible (R41). -/
theorem enterHeld_tail {s : State} {a : Axis} (c : Channel) (h1 : s.sched.slot1 ≠ .granted a)
    (h2 : s.sched.slot2 ≠ .granted a) (ha : allowance s ≤ s.sched.grantedCount) (hn : s.sched.entryOf a = none) :
    enterHeld a c s =
      (s.setChan a c).withSched { slotFreed s.sched a with held := s.sched.held ++ [a] } := by
  have hentry : ((s.setChan a c).withSched ((s.setChan a c).sched.freeSlot a)).sched.entryOf a = none := hn
  simp only [enterHeld, hentry]
  exact grantPass_none (noGrant_of_count ha (freeSlot_count_other h1 h2) rfl rfl)

/-- A queued entry of the axis drops the motion that would be held (R41, R1; log 41). -/
theorem enterHeld_dropped {s : State} {a : Axis} (c : Channel) {en : Entry} {x : MotionRec} {p : Port}
    (h1 : s.sched.slot1 ≠ .granted a) (h2 : s.sched.slot2 ≠ .granted a) (ha : allowance s ≤ s.sched.grantedCount)
    (hen : s.sched.entryOf a = some en) (hx : s.sched.records.get a = some x) (hl : x.link = none)
    (ho : originPort x.origin = some p) :
    enterHeld a c s =
      ((s.setChan a (c.dropHeld.heldEnded .replaced (some x))).withSched
          { slotFreed s.sched a with records := s.sched.records.set a none }).setPort p
        ((s.port p).told a x.tag .replaced .moveReplaced) := by
  have hentry : ((s.setChan a c).withSched ((s.setChan a c).sched.freeSlot a)).sched.entryOf a = some en := hen
  have hrec : ((s.setChan a c).withSched ((s.setChan a c).sched.freeSlot a)).sched.records.get a = some x := hx
  simp only [enterHeld, hentry, hrec]
  rw [deliverRecord_some (s := ((s.setChan a c).withSched ((s.setChan a c).sched.freeSlot a)).setChan a _) (m := x) hx,
    deliver_unfelt (.inl rfl) hl ho]
  refine (grantPass_none (noGrant_of_count (s := s) ha ?_ ?_ ?_)).trans ?_
  · rw [setPort_sched]
    exact freeSlot_count_other h1 h2
  · rw [setPort_sched]
    rfl
  · cases p <;> rfl
  · cases p <;> cases a <;> rfl

/-- The channel with which a held axis resumes (R42). -/
def ResumesAs (c : Channel) (d : Channel) : Prop :=
  if c.heldHome then d = c.startHome else ∃ goal, c.target = some goal ∧ c.startMove goal = .running d

theorem resume_eq {s : State} {a : Axis} {y : MotionRec} {d : Channel} (hy : s.sched.records.get a = some y)
    (hd : ResumesAs ((s.chan a).from y.origin) d) :
    resume a s = (s.withSched ((s.sched.unheld a).takeSlot a)).setChan a d := by
  unfold ResumesAs at hd
  simp only [resume, hy]
  split at hd
  · next h => rw [if_pos h, hd]
  · next h =>
    obtain ⟨goal, htarget, hstart⟩ := hd
    rw [if_neg h]
    simp only [htarget, hstart]
    rfl

/-- With both slots FREE and an allowance of one the head of the held list alone is granted (R37, R42; log 17). -/
theorem grantPass_resumes {s : State} {a : Axis} {rest : List Axis} {y : MotionRec} {d : Channel}
    (h1 : s.sched.slot1 = .free) (h2 : s.sched.slot2.grantee = none) (ha : allowance s = 1)
    (hh : s.sched.held = a :: rest) (hn : a ∉ rest) (hy : s.sched.records.get a = some y)
    (hd : ResumesAs ((s.chan a).from y.origin) d) :
    grantPass s =
      (s.withSched { s.sched with held := rest, slot1 := .granted a, later := some .one }).setChan a d := by
  have hcount : s.sched.grantedCount = 0 := by rw [Scheduler.grantedCount, h1, h2]; rfl
  have hfree : (s.sched.hasFree && decide (s.sched.grantedCount < allowance s)) = true := by
    simp [Scheduler.hasFree, h1, hcount, ha]
  have hrest : (a :: rest).filter (fun b => decide (b ≠ a)) = rest := by
    rw [List.filter_cons_of_neg (by simp), List.filter_eq_self]
    intro b hb
    exact decide_eq_true fun k => hn (k ▸ hb)
  have hslot : (s.sched.unheld a).takeSlot a =
      { s.sched with held := rest, slot1 := .granted a, later := some .one } := by
    have hfree' : (s.sched.unheld a).slot1 = .free := h1
    rw [Scheduler.takeSlot, if_pos hfree', Scheduler.unheld, hh, hrest]
  have hlen : s.sched.held.length + s.sched.queue.length = rest.length + s.sched.queue.length + 1 := by
    rw [hh, List.length_cons]
    omega
  unfold grantPass
  rw [hlen, grantPassN, if_pos hfree, hh]
  show grantPassN _ (resume a s) = _
  rw [resume_eq hy hd, hslot]
  refine grantPassN_none (.inr ?_) _
  have hallow : allowance
      ((s.withSched { s.sched with held := rest, slot1 := .granted a, later := some .one }).setChan a d) = 1 := ha
  rw [hallow]
  show 1 ≤ (Slot.granted a).grantee.isSome.toNat + s.sched.slot2.grantee.isSome.toNat
  rw [h2]
  exact Nat.le_refl 1

/-- The end of a move of ZM for a port: its slot, its record and its notice (R13, R39). -/
theorem endMotion_zm {s : State} {x : MotionRec} {p : Port} (hx : s.sched.records.get .zm = some x) (hl : x.link = none)
    (ho : originPort x.origin = some p) (c : Channel) (e : Ending) :
    endMotion .zm c e s = (cameToRest s .zm c).setPort p ((s.port p).told .zm x.tag e (endingEvent e)) :=
  endMotion_told hx hl ho c e

/-- An ending of the tracker's own motion goes to the tracker alone (R34, R171). -/
theorem endMotion_track {s : State} {x : MotionRec} (hx : s.sched.records.get .fc = some x) (hl : x.link = none)
    (ho : x.origin = .focusTrack) (c : Channel) (e : Ending) :
    endMotion .fc c e s = (cameToRest s .fc c).withTrack (trackEnding x e c.position s.track) := by
  have hdeliver := deliverRecord_some (s := (s.setChan .fc c).withSched ((s.setChan .fc c).sched.freeSlot .fc)) hx e
  unfold endMotion
  rw [hdeliver, deliver, shiftEnding_other rfl, deliverTo, hl]
  simp only [deliverFocus, ho, originPort]
  rfl

theorem segmentOver_at {c : Channel} (h : c.target = some c.position) : c.segmentOver = .ended c.moveDone .done := by
  simp only [Channel.segmentOver, h, if_true]

theorem segmentOver_next {c : Channel} {goal : Int} (h : c.target = some goal) (hne : c.position ≠ goal) :
    c.segmentOver = .running (c.beginSegment .twoOfTwo goal) := by
  simp only [Channel.segmentOver, h, if_neg hne.symm]

/-- The last microstep of a move at its target (R13). -/
theorem axisStep_done {s : State} {a : Axis} (hs : (s.chan a).state = .moving)
    (ht : (s.chan a).target = some (stepped (s.chan a)).position) (hl : LastMicrostep (s.chan a).ramp) :
    axisStep a s =
      grantPass (endMotion a ({ stepped (s.chan a) with ramp := rampOver } : Channel).moveDone .done s) := by
  rw [axisStep_moving hs, moveStep_last hl, segmentOver_at (c := { stepped (s.chan a) with ramp := rampOver }) ht]
  rfl

/-- The channel with which a held axis resumes, and what its grant gives it (R10, R12, R20, R42). -/
theorem resumesAs_exists {c : Channel} {goal : Int}
    (h : c.heldHome = true ∨ c.target = some goal ∧ softClamp c.settings goal ≠ c.position) :
    ∃ d, ResumesAs c d ∧ Granted c d
      ∧ (c.heldHome = true → d.state = .homing ∧ d.referenced = false ∧ d.heldHome = false)
      ∧ (c.heldHome = false → Starts c (.move (softClamp c.settings goal)) d) := by
  unfold ResumesAs
  cases hh : c.heldHome with
  | true =>
    obtain ⟨hg, -, hhome, -⟩ := startHome_starts c
    obtain ⟨hstate, href, -⟩ := hhome rfl
    refine ⟨c.startHome, rfl, hg, fun _ => ⟨hstate, href, ?_⟩, fun k => nomatch k⟩
    have henergize (e : Channel) : e.energize.heldHome = e.heldHome := by
      unfold Channel.energize
      split <;> rfl
    unfold Channel.startHome
    dsimp only
    split <;> exact henergize _
  | false =>
    rw [hh] at h
    obtain k | ⟨htarget, hne⟩ := h
    · cases k
    · obtain ⟨d, hd, hstarts⟩ := startMove_clamped rfl hne
      exact ⟨d, ⟨goal, htarget, hd⟩, hstarts.granted, (fun k => nomatch k), fun _ => hstarts⟩

/-- The end of a move of ZM under an allowance of one: the head of the held list resumes in the first slot (R37, R42). -/
theorem endMotion_resumes {s : State} {a : Axis} {rest : List Axis} {x y : MotionRec} {p : Port} {z d : Channel}
    (hx : s.sched.records.get .zm = some x) (hl : x.link = none) (ho : originPort x.origin = some p) (ha : a ≠ .zm)
    (h1 : s.sched.slot1 = .granted .zm) (h2 : s.sched.slot2.grantee = none) (h2' : s.sched.slot2.holder ≠ some .zm)
    (hallow : allowance s = 1) (hh : s.sched.held = a :: rest) (hn : a ∉ rest) (hy : s.sched.records.get a = some y)
    (hd : ResumesAs ((s.chan a).from y.origin) d) :
    grantPass (endMotion .zm z .done s) =
      ({ s with
          axes := (s.axes.set .zm z).set a d
          sched :=
            { s.sched with
              held := rest, slot1 := .granted a, later := some .one
              records := s.sched.records.set .zm none } } : State).setPort p
        ((s.port p).told .zm x.tag .done .moveDone) := by
  have hslot1 : s.sched.slot1.freed .zm = .free := by rw [h1]; rfl
  have hslot2 : s.sched.slot2.freed .zm = s.sched.slot2 := if_neg h2'
  have hrest : cameToRest s .zm z =
      (s.setChan .zm z).withSched
        { s.sched with slot1 := .free, records := s.sched.records.set .zm none } := by
    unfold cameToRest Scheduler.freeSlot Scheduler.setRecord
    rw [hslot1, hslot2]
  rw [endMotion_zm hx hl ho, hrest]
  have hchan : (((s.setChan .zm z).withSched
      { s.sched with slot1 := .free, records := s.sched.records.set .zm none }).setPort p
        ((s.port p).told .zm x.tag .done (endingEvent .done))).chan a = s.chan a := by
    rw [setPort_chan, State.withSched_chan, State.setChan_chan, if_neg ha]
  refine (grantPass_resumes (a := a) (rest := rest) (y := y) (d := d) ?_ ?_ ?_ ?_ hn ?_ (hchan.symm ▸ hd)).trans ?_
  · rw [setPort_sched]; rfl
  · rw [setPort_sched]; exact h2
  · rw [← hallow]; cases p <;> rfl
  · rw [setPort_sched]; exact hh
  · rw [setPort_sched]
    exact (PerAxis.get_set_other _ _ (Ne.symm ha)).trans hy
  · rw [setPort_sched]
    cases p <;> cases a <;> rfl

/-- Settles O41: the microstep of every branch, and the four ends of a motion. -/
theorem stepEventMoves : Obligations.StepEventMoves := by
  refine ⟨fun s a hp => ⟨fun h => ?_, fun h => ?_⟩, fun s a goal dist d hp hs ht hl hne hdist hd => ?_,
    fun s a c hp hs hk hj hl h1 h2 hallow hc => ⟨fun hn => ?_, fun en x p hen hx hlink ho => ?_⟩,
    fun s a rest x y p goal hp ha hs ht hl hx hlink ho h1 h2 h2' hallow hh hn hy hres => ?_,
    fun s x hp hs ht hl hx ho hlink hran hq hh => ?_⟩
  · rw [exec_stepEvent hp, axisStep_rest h]
  · obtain ⟨hstill, ⟨hcoilA, hcoilB⟩, hother⟩ := axisStep_moved h
    refine ⟨_, exec_stepEvent hp a, hstill.position, hstill.phaseIndex, ?_, ?_,
      fun b hb => ⟨(hother b hb).position, (hother b hb).phaseIndex⟩⟩
    · rw [hcoilA, hstill.phaseIndex]; rfl
    · rw [hcoilB, hstill.phaseIndex]; rfl
  · rw [exec_stepEvent hp, axisStep_moving hs, moveStep_last hl,
      segmentOver_next (c := { stepped (s.chan a) with ramp := rampOver }) ht hne, hdist, hd]
    rfl
  · subst hc
    have hend := stopEnd_allowance (c := { stepped (s.chan a) with ramp := rampOver }) hk hj
    rw [exec_stepEvent hp, axisStep_stopping hs, stopStep_last hl]
    simp only [finishStop, State.setChan_chan_same, hend]
    refine congrArg _ ((enterHeld_tail (s := s.setChan a _) _ h1 h2 hallow hn).trans ?_)
    rw [State.setChan_twice]
    rfl
  · subst hc
    have hend := stopEnd_allowance (c := { stepped (s.chan a) with ramp := rampOver }) hk hj
    rw [exec_stepEvent hp, axisStep_stopping hs, stopStep_last hl]
    simp only [finishStop, State.setChan_chan_same, hend]
    refine congrArg _ ((enterHeld_dropped (s := s.setChan a _) _ h1 h2 hallow hen hx hlink ho).trans ?_)
    rw [State.setChan_twice]
    cases p <;> rfl
  · obtain ⟨d, hd, hg, hhome, hmove⟩ := resumesAs_exists (c := (s.chan a).from y.origin) hres
    refine ⟨({ stepped (s.chan .zm) with ramp := rampOver } : Channel).moveDone, d, ?_, rfl, rfl, rfl, hg.position,
      hg.energized, hg.holdTimer, hg.lastOrigin, hhome, fun k => ?_⟩
    · rw [exec_stepEvent hp, axisStep_done hs ht hl, endMotion_resumes hx hlink ho ha h1 h2 h2' hallow hh hn hy hd]
    · obtain ⟨-, hmoves, -, -⟩ := hmove k
      obtain ⟨hstate, htarget, -, hsegment⟩ := hmoves _ rfl
      exact ⟨hstate, htarget, fun seg e he => let h := hsegment seg e he; ⟨h.1, h.2.1⟩⟩
  · obtain ⟨hqueue, hheld⟩ := endMotion_queue .fc ({ stepped (s.chan .fc) with ramp := rampOver } : Channel).moveDone .done s
    refine ⟨_, exec_stepEvent hp .fc, ?_⟩
    rw [axisStep_done hs ht hl, grantPass_empty (hqueue.trans hq) (hheld.trans hh), endMotion_track hx hlink ho]
    refine ⟨rfl, ?_, ?_, fun p => by cases p <;> rfl⟩
    · rfl
    · simp only [trackEnding, hran, if_true]
      rfl

end Sys2Proof.Machine
end

section
/-! PROOFS. Homing (R19 to R22, R54, R172). -/

namespace Sys2Proof.Machine

/-! ### A change of the home switch taken -/

theorem exec_homeFilterExpiry {s : State} (h : s.powered = true) (a : Axis) :
    exec (.homeFilterExpiry a) s = .next (homeFilterDone a s) := event_taken h _

theorem homeFilterDone_asserted {s : State} {a : Axis} (hs : (s.chan a).switch.stable = true)
    (hp : (s.chan a).switch.pin = true) :
    homeFilterDone a s =
      switchAsserted a
        (s.setChan a { s.chan a with switch := { (s.chan a).switch with filtered := true, stable := false } }) := by
  have htaken : (s.chan a).switchTaken =
      { s.chan a with switch := { (s.chan a).switch with filtered := true, stable := false } } := by
    rw [Channel.switchTaken, hp]
  simp only [homeFilterDone, if_pos hs, htaken, if_true]

theorem homeFilterDone_released {s : State} {a : Axis} (hs : (s.chan a).switch.stable = true)
    (hp : (s.chan a).switch.pin = false) :
    homeFilterDone a s = switchReleased a (s.setChan a (released (s.chan a))) := by
  have htaken : (s.chan a).switchTaken = released (s.chan a) := by
    rw [Channel.switchTaken, hp]
    rfl
  have hno : (released (s.chan a)).switch.filtered = false := rfl
  simp only [homeFilterDone, if_pos hs, htaken, hno, Bool.false_eq_true, if_false]

/-! ### The end of a port's motion, its channel written before -/

theorem cameToRest_setChan (s : State) (a : Axis) (c d : Channel) :
    cameToRest (s.setChan a c) a d = cameToRest s a d := by
  unfold cameToRest
  rw [State.setChan_twice]
  rfl

theorem setChan_port (s : State) (a : Axis) (c : Channel) (p : Port) : (s.setChan a c).port p = s.port p := by
  cases p <;> rfl

/-- The ending of a HOME clears the demand record of a shift axis (R54). -/
theorem demandAfter_home {x : MotionRec} {e : Ending} (s : State) (a : Axis) (hk : x.kind = .home)
    (he : e = .done ∨ x.ran = true ∧ e ≠ .replaced) :
    demandAfter s a x e = some { demand := 0, excess := 0, current := false } := by
  unfold demandAfter
  rcases he with rfl | ⟨hran, hne⟩
  · simp only [hk]
  · cases e with
    | done => simp only [hk]
    | stopped => simp only [hran, hk, if_true]
    | replaced => exact absurd rfl hne
    | failed why => simp only [hran, hk, if_true]

theorem axisStep_homing {s : State} {a : Axis} (h : (s.chan a).state = .homing) :
    axisStep a s = settleAndGrant a (s.chan a).homeStep s := by
  simp only [axisStep, h]

/-! ### Phases of homing -/

theorem switchReleased_backoff {s : State} {a : Axis} {h : Homing} (hs : (s.chan a).state = .homing)
    (hh : (s.chan a).homing = some h) (hp : h.phase = .backoff) :
    switchReleased a s = grantPass (endMotion a (s.chan a).homed .done s) := by
  obtain ⟨phase, n, run⟩ := h
  cases hp
  simp only [switchReleased, hs, if_true, hh]

theorem switchAsserted_fast {s : State} {a : Axis} {n : Nat} (hs : (s.chan a).state = .homing)
    (hh : (s.chan a).homing = some ⟨.fast, n, .running⟩) :
    switchAsserted a s = settleAndGrant a ((s.chan a).slowFast ⟨.fast, n, .running⟩ .slowing) s := by
  simp only [switchAsserted, hs, if_true, hh]

theorem switchAsserted_failing {s : State} {a : Axis} {n : Nat} (hs : (s.chan a).state = .homing)
    (hh : (s.chan a).homing = some ⟨.fast, n, .failing⟩) : switchAsserted a s = s := by
  simp only [switchAsserted, hs, if_true, hh]

/-- The FAST phase slows above level 0 as a stop does (R15, R20). -/
theorem slowFast_above {c : Channel} {l : Nat} (hl : c.ramp.level = l + 1) (h : Homing) (run : HomingRun) :
    c.slowFast h run =
      .running { c with homing := some { h with run := run }, ramp := ⟨l, levelLength c.table l, .decel⟩ } := by
  simp only [Channel.slowFast, hl, if_neg (Nat.succ_ne_zero l)]
  rfl

/-- The FAST phase at level 0 is at rest at once, and BACKOFF begins (R20, R21). -/
theorem slowFast_rest {c : Channel} (hl : c.ramp.level = 0) (n : Nat) :
    c.slowFast ⟨.fast, n, .running⟩ .slowing =
      .running
        { c with
          homing := some ⟨.backoff, 0, .running⟩, ramp := ⟨0, 0, .cruise⟩, dir := .pos
          buffer := nextEntry .pos c.phaseIndex } := by
  simp only [Channel.slowFast, hl, if_true]
  rfl

/-- The channel of the FAST phase after a counted microstep (R20). -/
theorem homeStep_fast {c : Channel} {n : Nat} (h : c.homing = some ⟨.fast, n, .running⟩) :
    c.homeStep =
      if c.settings.travel + 2048 ≤ n + 1 then
        { stepped c with
          homing := some ⟨.fast, n + 1, .running⟩
          ramp := homingStep c.table (homingLevelOf c.table) c.ramp }.slowFast ⟨.fast, n + 1, .running⟩ .failing
      else
        .running
          { stepped c with
            homing := some ⟨.fast, n + 1, .running⟩
            ramp := homingStep c.table (homingLevelOf c.table) c.ramp } := by
  have hm : (stepped c).homing = some ⟨.fast, n, .running⟩ := h
  simp only [Channel.homeStep, microstep_eq, hm]
  rfl

theorem homeStep_backoff {c : Channel} {n : Nat} {run : HomingRun} (h : c.homing = some ⟨.backoff, n, run⟩) :
    c.homeStep =
      if 4096 ≤ n + 1 then
        .ended ({ stepped c with homing := some ⟨.backoff, n + 1, run⟩ }.homeFailed .homeStuck) (.failed .homeStuck)
      else .running { stepped c with homing := some ⟨.backoff, n + 1, run⟩ } := by
  have hm : (stepped c).homing = some ⟨.backoff, n, run⟩ := h
  simp only [Channel.homeStep, microstep_eq, hm]

/-- The last microstep of the deceleration of the FAST phase (R20, R22). -/
theorem homeStep_last {c : Channel} {n : Nat} {run : HomingRun} (h : c.homing = some ⟨.fast, n, run⟩)
    (hrun : run ≠ .running) (hl : LastMicrostep c.ramp) :
    c.homeStep = { stepped c with ramp := rampOver }.fastOver ⟨.fast, n, run⟩ := by
  have hm : (stepped c).homing = some ⟨.fast, n, run⟩ := h
  have hramp : decelStep (stepped c).table (stepped c).ramp = rampOver := decelStep_last hl _
  cases run with
  | running => exact absurd rfl hrun
  | slowing => simp only [Channel.homeStep, microstep_eq, hm, hramp, if_true]
  | failing => simp only [Channel.homeStep, microstep_eq, hm, hramp, if_true]

/-- Homing has failed at rest, its result told to its port (R22, R54). -/
theorem homing_failed {s : State} {a : Axis} {x : MotionRec} {p : Port} {c : Channel} {why : FailReason}
    (hx : s.sched.records.get a = some x) (hk : x.kind = .home) (hl : x.link = none) (hran : x.ran = true)
    (ho : originPort x.origin = some p) (hq : s.sched.queue = []) (hh : s.sched.held = []) :
    ∃ t, settleAndGrant a (.ended c (.failed why)) s = t.setPort p ((s.port p).told a x.tag (.failed why) .moveFailed) ∧
      DemandWritten a { demand := 0, excess := 0, current := false } (cameToRest s a c) t :=
  ⟨_, grantPass_endMotion hx hl ho hq hh c (.failed why),
    ending_demand (demandAfter_home _ a hk (.inr ⟨hran, by simp⟩)) fun y t => by simp [userFocusEnding, hk]⟩

/-- Settles O46: the branches of the homing phases, and the endings with what follows from them. -/
theorem homingEnds : Obligations.HomingEnds := by
  refine ⟨fun s a h x p hp hs hh hback hst hpin hq hheld hx hk hl ho => ?_,
    fun s a n hp hs hh => ⟨fun hst hpin c hc => ⟨fun l hl => ?_, fun hl => ?_⟩, fun hn => ?_, fun hn hpart l hl => ?_⟩,
    fun s a n hp hs => ⟨fun hh hl => ?_, fun run hh hn => ?_, fun why run x p hw hq hheld hx hk hlink hran ho => ?_⟩,
    fun s a n hp hs hh hst hpin => ?_⟩
  · have hstate : ((s.setChan a (released (s.chan a))).chan a).state = .homing := by
      rw [State.setChan_chan_same]; exact hs
    have hhoming : ((s.setChan a (released (s.chan a))).chan a).homing = some h := by
      rw [State.setChan_chan_same]; exact hh
    have hend := grantPass_endMotion (s := s.setChan a (released (s.chan a))) hx hl ho hq hheld
      (released (s.chan a)).homed .done
    rw [cameToRest_setChan, setChan_port] at hend
    refine ⟨_, ?_, ending_taken (m := x) (e := .done) (demandAfter_home _ a hk (.inl rfl))
      (fun y t => by simp [userFocusEnding, hk]) ho⟩
    rw [exec_homeFilterExpiry hp, homeFilterDone_released hst hpin, switchReleased_backoff hstate hhoming hback,
      State.setChan_chan_same]
    exact congrArg _ hend
  · rw [exec_homeFilterExpiry hp, homeFilterDone_asserted hst hpin, ← hc, switchAsserted_fast (n := n),
      State.setChan_chan_same, slowFast_above (l := l)]
    · subst hc
      exact congrArg _ (State.setChan_twice ..)
    · rw [hc]; exact hl
    · rw [State.setChan_chan_same, hc]; exact hs
    · rw [State.setChan_chan_same, hc]; exact hh
  · rw [exec_homeFilterExpiry hp, homeFilterDone_asserted hst hpin, ← hc, switchAsserted_fast (n := n),
      State.setChan_chan_same, slowFast_rest]
    · subst hc
      exact congrArg _ (State.setChan_twice ..)
    · rw [hc]; exact hl
    · rw [State.setChan_chan_same, hc]; exact hs
    · rw [State.setChan_chan_same, hc]; exact hh
  · rw [exec_stepEvent hp, axisStep_homing hs, homeStep_fast hh, if_neg (by omega)]
    exact ⟨_, rfl⟩
  · have hcruise : homingStep (s.chan a).table (homingLevelOf (s.chan a).table) (s.chan a).ramp = (s.chan a).ramp := by
      simp only [homingStep, hpart]
    rw [exec_stepEvent hp, axisStep_homing hs, homeStep_fast hh, if_pos hn, hcruise]
    exact congrArg (fun g => Host.Outcome.next (settleAndGrant a g s)) (slowFast_above
      (c := { stepped (s.chan a) with homing := some ⟨.fast, n + 1, .running⟩, ramp := (s.chan a).ramp }) hl
      ⟨.fast, n + 1, .running⟩ .failing)
  · rw [exec_stepEvent hp, axisStep_homing hs, homeStep_last hh (by decide) hl]
    rfl
  · rw [exec_stepEvent hp, axisStep_homing hs, homeStep_backoff hh, if_neg (by omega)]
    rfl
  · rcases hw with ⟨hh, hl, rfl⟩ | ⟨hh, hn, rfl⟩
    · rw [exec_stepEvent hp, axisStep_homing hs, homeStep_last hh (by decide) hl]
      obtain ⟨t, ht, hd⟩ := homing_failed (c := ({ stepped (s.chan a) with ramp := rampOver } : Channel).homeFailed .homeNotFound)
        (why := .homeNotFound) hx hk hlink hran ho hq hheld
      exact ⟨t, congrArg _ ht, hd⟩
    · rw [exec_stepEvent hp, axisStep_homing hs, homeStep_backoff hh, if_pos hn]
      obtain ⟨t, ht, hd⟩ := homing_failed
        (c := ({ stepped (s.chan a) with homing := some ⟨.backoff, n + 1, run⟩ } : Channel).homeFailed .homeStuck)
        (why := .homeStuck) hx hk hlink hran ho hq hheld
      exact ⟨t, congrArg _ ht, hd⟩
  · rw [exec_homeFilterExpiry hp, homeFilterDone_asserted hst hpin, switchAsserted_failing (n := n)]
    · rw [State.setChan_chan_same]; exact hs
    · rw [State.setChan_chan_same]; exact hh

end Sys2Proof.Machine
end

section
/-! PROOFS. The check of the home edge: lost steps and re-syncs (R23 to R25, R54, R55). -/

namespace Sys2Proof.Machine

/-! ### The ramp position after a re-sync -/

theorem highestLevel_spec {ok : Nat → Bool} (h0 : ok 0 = true) (n : Nat) :
    ok (highestLevel ok n) = true ∧ ∀ k, k ≤ n → ok k = true → k ≤ highestLevel ok n := by
  induction n with
  | zero => exact ⟨h0, fun k hk _ => hk⟩
  | succ n ih =>
    unfold highestLevel
    split
    · next h => exact ⟨h, fun k hk _ => hk⟩
    · next h =>
      refine ⟨ih.1, fun k hk hok => ?_⟩
      rcases Nat.le_succ_iff.mp hk with hk | rfl
      · exact ih.2 k hk hok
      · exact absurd hok h

/-- The level a re-sync drops to is the highest whose A is within the distance that remains (R25). -/
theorem levelWithin_highest (table : List RampLevel) (r : Nat) : HighestWithin table r (levelWithin table r) := by
  obtain ⟨hok, hmax⟩ := highestLevel_spec (ok := fun l => decide (rampDistance table l ≤ r))
    (decide_eq_true (Nat.zero_le r)) (topLevel table)
  exact ⟨highestLevel_le _ _, of_decide_eq_true hok, fun k hk hr => hmax k hk (decide_eq_true hr)⟩

/-- A run at a level goes on at it, or decelerates from it when its A is all that is left (R8). -/
theorem runsDown_of_level {table : List RampLevel} {l r : Nat} (hr : 0 < r) (part : RampPart) :
    RunsDown table l r part
      (if r ≤ rampDistance table l then decelFrom table l else ⟨l, r - rampDistance table l, part⟩) := by
  refine ⟨fun h => if_neg (Nat.not_le.mpr h), fun h => ?_⟩
  rw [if_pos (Nat.le_of_eq h)]
  cases l with
  | zero =>
    rw [h] at hr
    exact absurd hr (Nat.lt_irrefl 0)
  | succ l => exact ⟨l, rfl, rfl⟩

theorem rampResync_resynced {table : List RampLevel} {r : Nat} (hr : 0 < r) (rp : RampPos) :
    RunResynced table r rp (rampResync table r rp) := by
  unfold rampResync
  refine ⟨fun hle => ?_, fun hlt => ?_⟩
  · rw [if_pos hle]
    cases hp : rp.part with
    | accel =>
      refine ⟨fun hgt _ => if_neg (Nat.not_le.mpr hgt), fun hend => ?_⟩
      have heq : r = rampDistance table rp.level := hend.resolve_left fun k => k rfl
      dsimp only
      rw [if_pos (Nat.le_of_eq heq)]
      have hrun := runsDown_of_level (table := table) (l := rp.level) hr .cruise
      rwa [if_pos (Nat.le_of_eq heq)] at hrun
    | cruise => exact ⟨(fun _ k => nomatch k), fun _ => runsDown_of_level hr .cruise⟩
    | decel => exact ⟨(fun _ k => nomatch k), fun _ => runsDown_of_level hr .cruise⟩
  · rw [if_neg (Nat.not_le.mpr hlt)]
    exact ⟨_, levelWithin_highest table r, runsDown_of_level hr .cruise⟩

theorem rampResyncStopping_resynced {table : List RampLevel} {r : Nat} (hr : 0 < r) (rp : RampPos) :
    StopResynced table r rp (rampResyncStopping table r rp) := by
  unfold rampResyncStopping
  refine ⟨fun hle => if_pos hle, fun hlt => ?_⟩
  have hno : ¬ decelLeft table rp ≤ r := Nat.not_le.mpr hlt
  rw [if_neg hno]
  exact ⟨_, levelWithin_highest table r, runsDown_of_level hr .decel⟩

/-! ### A pass of the home edge -/

theorem switchReleased_unchecked {s : State} {a : Axis} (hs : (s.chan a).state ≠ .homing)
    (hc : (s.chan a).checksEdge = false) : switchReleased a s = s := by
  simp only [switchReleased, if_neg hs, hc]
  rfl

theorem PassesEdge.checks {s : State} {a : Axis} {st : AxisState} {e : Int} (h : PassesEdge s a st e) :
    (released (s.chan a)).checksEdge = true := by
  have hstate : (released (s.chan a)).state = st := h.state
  have href : (released (s.chan a)).referenced = true := h.referenced
  have hup : (released (s.chan a)).switch.edgeUp = true := h.positive.1
  have hdir : (released (s.chan a)).dir = .pos := h.positive.2
  unfold Channel.checksEdge
  rw [href, hup, hdir, hstate]
  rcases h.checked with rfl | rfl | rfl <;> rfl

/-- A pass of the home edge is a re-sync or a lost step, by its error (R23). -/
theorem PassesEdge.expiry {s : State} {a : Axis} {st : AxisState} {e : Int} (h : PassesEdge s a st e) :
    exec (.homeFilterExpiry a) s =
      .next
        (if e.natAbs ≤ (s.chan a).settings.tolerance then resync a (s.setChan a (released (s.chan a)))
        else lostStep a (s.setChan a (released (s.chan a)))) := by
  have hne : (released (s.chan a)).state ≠ .homing := by
    show (s.chan a).state ≠ .homing
    rw [h.state]
    rcases h.checked with rfl | rfl | rfl <;> decide
  have herr : (released (s.chan a)).edgeError = e := h.error.symm
  rw [exec_homeFilterExpiry h.powered, homeFilterDone_released h.taken.1 h.taken.2]
  simp only [switchReleased, State.setChan_chan_same, if_neg hne, h.checks, if_true, herr]
  rfl

/-! ### Lost steps -/

/-- The state in which a lost step stops its axis: the reference gone, the demand not current (R24, R55). -/
def stepLost (s : State) (a : Axis) : State :=
  { s.setChan a { released (s.chan a) with referenced := false } with shift := demandLost s.shift a }

theorem stepLost_chan (s : State) (a : Axis) :
    (stepLost s a).chan a = { released (s.chan a) with referenced := false } := by
  unfold stepLost
  cases a <;> rfl

theorem lostStep_eq {s : State} {a : Axis}
    (h : s.sched.entryOf a = none ∨ ∃ en, s.sched.entryOf a = some en ∧ en.motion = .home) :
    lostStep a (s.setChan a (released (s.chan a))) =
      if (s.chan a).state = .stopping then
        (stepLost s a).setChan a { released (s.chan a) with referenced := false, stopCause := some .lost }
      else orderStop a .lost (stepLost s a) := by
  have hlost : loseReference a .lost (uncurrent a
      ((s.setChan a (released (s.chan a))).setChan a
        { (s.setChan a (released (s.chan a))).chan a with referenced := false })) = stepLost s a := by
    rw [uncurrent_eq, State.setChan_chan_same, State.setChan_twice, loseReference_stays]
    · rfl
    · exact h
  have hstate : ((stepLost s a).chan a).state = (s.chan a).state := by rw [stepLost_chan]; rfl
  unfold lostStep
  rw [hlost]
  dsimp only
  rw [hstate, stepLost_chan]
  rfl

/-- A lost step at level 0: FAILED(LOST) at once (R16, R24). -/
theorem stopEnd_lost (c : Channel) :
    (c.stopping .lost).stopEnd =
      .result { rested c .unreferenced with target := none, lastResult := some (.failed .lost) } (.failed .lost) := rfl

/-- A write of the demand record of an axis does not see that it was marked not current before. -/
theorem DemandWritten.of_demandLost {a : Axis} {d : DemandRec} {s t : State}
    (h : DemandWritten a d { s with shift := demandLost s.shift a } t) : DemandWritten a d s t := by
  cases a <;> simpa [DemandWritten, demandLost] using h

/-- The demand record after a lost step of a motion other than a HOME (R54). -/
theorem demandAfter_lost {s : State} {a : Axis} {x : MotionRec} (hr : x.ran = true) (hk : x.kind ≠ .home) :
    demandAfter s a x (.failed .lost) = some { demand := positionPermille s a, excess := 0, current := false } := by
  unfold demandAfter
  cases hx : x.kind with
  | home => exact absurd hx hk
  | move => simp [hr]
  | jog n => simp [hr]

theorem userFocusEnding_lost {x : MotionRec} (hk : x.kind ≠ .home) (y : Int) (t : Tracker) :
    userFocusEnding x (.failed .lost) y t = t := by
  unfold userFocusEnding
  cases hx : x.kind with
  | home => exact absurd hx hk
  | move => rfl
  | jog n => rfl

/-! ### Re-syncs -/

/-- A pass of the home edge with an error within the tolerance (R25). -/
structure Resyncs (s : State) (a : Axis) (st : AxisState) (e r : Int) (c : Channel) : Prop where
  passes : PassesEdge s a st e
  error : e ≠ 0
  within : e.natAbs ≤ (s.chan a).settings.tolerance
  corrected : c = { released (s.chan a) with position := (s.chan a).position - e }
  segment : (s.chan a).jog = none → r = (s.chan a).segEnd - c.position
  limit : (s.chan a).jog.isSome = true → r = (s.chan a).settings.softMax - c.position

theorem Resyncs.distance {s : State} {a : Axis} {st : AxisState} {e r : Int} {c : Channel}
    (h : Resyncs s a st e r c) : c.distanceLeft = r := by
  have hdir : c.dir = .pos := by rw [h.corrected]; exact h.passes.positive.2
  have hjog : c.jog = (s.chan a).jog := by rw [h.corrected]; rfl
  have hend : c.segEnd = (s.chan a).segEnd := by rw [h.corrected]; rfl
  have hmax : c.settings = (s.chan a).settings := by rw [h.corrected]; rfl
  unfold Channel.distanceLeft Channel.jogDistance
  rw [hdir, hjog, hend, hmax]
  cases hj : (s.chan a).jog with
  | none => exact (h.segment hj).symm
  | some j => exact (h.limit (by rw [hj]; rfl)).symm

/-- What a re-sync does, by the state of the axis (R25). -/
theorem Resyncs.expiry {s : State} {a : Axis} {st : AxisState} {e r : Int} {c : Channel} (h : Resyncs s a st e r c) :
    exec (.homeFilterExpiry a) s =
      .next
        (if st = .moving then settleAndGrant a c.moveResync (s.setChan a (released (s.chan a)))
        else if st = .jogging then settleAndGrant a c.jogResync (s.setChan a (released (s.chan a)))
        else stopResync a c (s.setChan a (released (s.chan a)))) := by
  have herr : (released (s.chan a)).edgeError = e := h.passes.error.symm
  have hc : { released (s.chan a) with position := (released (s.chan a)).position - e } = c := h.corrected.symm
  have hstate : (released (s.chan a)).state = st := h.passes.state
  rw [h.passes.expiry, if_pos h.within]
  simp only [resync, State.setChan_chan_same, herr, if_neg h.error, hc]
  rw [hstate]
  rcases h.passes.checked with rfl | rfl | rfl <;> rfl

theorem Resyncs.expiry_moving {s : State} {a : Axis} {e r : Int} {c : Channel} (h : Resyncs s a .moving e r c) :
    exec (.homeFilterExpiry a) s = .next (settleAndGrant a c.moveResync (s.setChan a (released (s.chan a)))) := h.expiry

theorem Resyncs.expiry_jogging {s : State} {a : Axis} {e r : Int} {c : Channel} (h : Resyncs s a .jogging e r c) :
    exec (.homeFilterExpiry a) s = .next (settleAndGrant a c.jogResync (s.setChan a (released (s.chan a)))) := h.expiry

theorem Resyncs.expiry_stopping {s : State} {a : Axis} {e r : Int} {c : Channel} (h : Resyncs s a .stopping e r c) :
    exec (.homeFilterExpiry a) s = .next (stopResync a c (s.setChan a (released (s.chan a)))) := h.expiry

/-- With distance left a MOVING or JOGGING axis goes on (R25). -/
theorem Resyncs.runs_on {s : State} {a : Axis} {st : AxisState} {e r : Int} {c : Channel} (h : Resyncs s a st e r c)
    (hr : 0 < r) (hs : st ≠ .stopping) :
    exec (.homeFilterExpiry a) s = .next (s.setChan a { c with ramp := rampResync c.table r.toNat c.ramp }) := by
  have hrun : settleAndGrant a (.running { c with ramp := rampResync c.table r.toNat c.ramp })
      (s.setChan a (released (s.chan a))) = s.setChan a { c with ramp := rampResync c.table r.toNat c.ramp } :=
    State.setChan_twice ..
  obtain rfl | rfl : st = .moving ∨ st = .jogging := by
    rcases h.passes.checked with k | k | k
    · exact .inl k
    · exact .inr k
    · exact absurd k hs
  · rw [h.expiry_moving, Channel.moveResync, h.distance]
    simp only [if_pos hr, hrun]
  · rw [h.expiry_jogging, Channel.jogResync, h.distance]
    simp only [if_pos hr, hrun]

/-- With distance left a STOPPING axis decelerates on (R25). -/
theorem Resyncs.slows_on {s : State} {a : Axis} {e r : Int} {c : Channel} (h : Resyncs s a .stopping e r c)
    (hr : 0 < r) :
    exec (.homeFilterExpiry a) s =
      .next (s.setChan a { c with ramp := rampResyncStopping c.table r.toNat c.ramp }) := by
  rw [h.expiry_stopping, stopResync, h.distance]
  simp only [if_pos hr, State.setChan_twice]

/-- With no distance left a stop is at rest (R16, R25; log 19). -/
theorem Resyncs.stops {s : State} {a : Axis} {e r : Int} {c : Channel} (h : Resyncs s a .stopping e r c) (hr : r ≤ 0) :
    exec (.homeFilterExpiry a) s = .next (finishStop a (s.setChan a c)) := by
  rw [h.expiry_stopping, stopResync, h.distance]
  simp only [if_neg (Int.not_lt.mpr hr), State.setChan_twice]

/-- With no distance left a move ends its segment (R13, R25). -/
theorem Resyncs.moveResync_end {s : State} {a : Axis} {st : AxisState} {e : Int} {c : Channel}
    (h : Resyncs s a st e 0 c) : c.moveResync = c.segmentOver := by
  rw [Channel.moveResync, h.distance]
  rfl

/-- Beyond its end point a move starts afresh (R12, R25). -/
theorem Resyncs.moveResync_beyond {s : State} {a : Axis} {st : AxisState} {e r goal : Int} {c : Channel}
    (h : Resyncs s a st e r c) (hr : r < 0) (ht : c.target = some goal) : c.moveResync = c.startMove goal := by
  have h1 : ¬ 0 < r := by omega
  have h2 : r ≠ 0 := by omega
  rw [Channel.moveResync, h.distance]
  simp only [if_neg h1, if_neg h2, ht]

theorem Resyncs.jogResync_end {s : State} {a : Axis} {st : AxisState} {e r : Int} {c : Channel}
    (h : Resyncs s a st e r c) (hr : r ≤ 0) : c.jogResync = .ended c.jogDone .done := by
  rw [Channel.jogResync, h.distance]
  exact if_neg (Int.not_lt.mpr hr)

/-- The end of a port's motion with nothing queued or held, whatever its channel was set to before. -/
theorem ToldTo.ended {s : State} {a : Axis} {x : MotionRec} {p : Port} (h : ToldTo s a x p) (hq : s.sched.queue = [])
    (hh : s.sched.held = []) (c0 c : Channel) (e : Ending) :
    grantPass (endMotion a c e (s.setChan a c0)) =
      (deliverFocus a x e (shiftEnding a x e (cameToRest s a c))).setPort p
        ((s.port p).told a x.tag e (endingEvent e)) := by
  obtain ⟨hx, hl, ho, -⟩ := h
  rw [grantPass_endMotion (s := s.setChan a c0) hx hl ho hq hh, cameToRest_setChan, setChan_port]

theorem stoppedKind_jog {c : Channel} (h : c.jog.isSome = true) : c.stoppedKind = .jog 0 := if_pos h

/-- A stop of a jog is STOPPED, one for the allowance as well (R16). -/
theorem stopEnd_jog {c : Channel} (hj : c.jog.isSome = true)
    (hk : c.stopCause = some .stop ∨ c.stopCause = some .expiry ∨ c.stopCause = some .allowance) :
    c.stopEnd = .result { rested c .idle with target := none, lastResult := some .stopped } .stopped := by
  have hkind := stoppedKind_jog hj
  rcases hk with hk | hk | hk <;> simp only [Channel.stopEnd, hk, Channel.stopped, hkind] <;> rfl

theorem stopEnd_move {c : Channel} (hj : c.jog = none) (ht : c.target.isSome = true) (hk : c.stopCause = some .stop) :
    c.stopEnd = .result { rested c .idle with target := none, lastResult := some .stopped } .stopped := by
  have hkind : c.stoppedKind = .move := by simp [Channel.stoppedKind, hj, ht]
  simp only [Channel.stopEnd, hk, Channel.stopped, hkind]
  rfl

theorem finishStop_result {s : State} {a : Axis} {c d : Channel} {e : Ending} (h : c.stopEnd = .result d e) :
    finishStop a (s.setChan a c) = grantPass (endMotion a d e (s.setChan a c)) := by
  simp only [finishStop, State.setChan_chan_same, h]

/-- A lost step of a motion, and of a stop (R24). -/
theorem edge_lost {s : State} {a : Axis} {st : AxisState} {e : Int} (h : PassesEdge s a st e)
    (hout : (s.chan a).settings.tolerance < e.natAbs)
    (hen : s.sched.entryOf a = none ∨ ∃ en, s.sched.entryOf a = some en ∧ en.motion = .home) :
    exec (.homeFilterExpiry a) s =
      .next
        (if st = .stopping then
          (stepLost s a).setChan a { released (s.chan a) with referenced := false, stopCause := some .lost }
        else orderStop a .lost (stepLost s a)) := by
  rw [h.expiry, if_neg (Nat.not_le.mpr hout), lostStep_eq hen, h.state]

/-- A lost step at level 0 is at rest at once (R16, R24, R54). -/
theorem orderStop_lost {s : State} {a : Axis} {x : MotionRec} {p : Port} (hl : (s.chan a).ramp.level = 0)
    (hq : s.sched.queue = []) (hh : s.sched.held = []) (ht : ToldTo s a x p) (hk : x.kind ≠ .home) :
    ∃ t, orderStop a .lost (stepLost s a) = t.setPort p ((s.port p).told a x.tag (.failed .lost) .moveFailed) ∧
      DemandWritten a
        { demand := permilleOf a (s.chan a).settings s.geom.inputs.orientation (s.chan a).position, excess := 0
          current := false }
        (cameToRest s a
          { rested (released (s.chan a)) .unreferenced with
            target := none, referenced := false, lastResult := some (.failed .lost) }) t := by
  obtain ⟨hx, hlink, ho, hran⟩ := ht
  have hlevel : ((stepLost s a).chan a).ramp.level = 0 := by rw [stepLost_chan]; exact hl
  have hstop := orderStop_rest (s := stepLost s a) hlevel (stopEnd_lost _) hx hlink ho hq hh
  have hrest : cameToRest (stepLost s a) a
        { rested ((stepLost s a).chan a) .unreferenced with target := none, lastResult := some (.failed .lost) } =
      { cameToRest s a
          { rested (released (s.chan a)) .unreferenced with
            target := none, referenced := false, lastResult := some (.failed .lost) } with
        shift := demandLost s.shift a } := by
    rw [stepLost_chan]
    cases a <;> rfl
  have hport : (stepLost s a).port p = s.port p := by cases p <;> cases a <;> rfl
  rw [hrest, hport] at hstop
  refine ⟨_, hstop, DemandWritten.of_demandLost (ending_demand (m := x) (e := .failed .lost) ?_ (userFocusEnding_lost hk))⟩
  rw [demandAfter_lost hran hk]
  have hpos := positionPermille_cameToRest (s := s) (a := a)
    (c := { rested (released (s.chan a)) .unreferenced with
      target := none, referenced := false, lastResult := some (.failed .lost) }) rfl rfl
  exact congrArg (fun d => some ({ demand := d, excess := 0, current := false } : DemandRec)) hpos

/-- The permille equivalent of the position an axis came to rest at. -/
theorem positionPermille_rested (s : State) (a : Axis) (c : Channel) :
    positionPermille (cameToRest s a c) a = permilleOf a c.settings s.geom.inputs.orientation c.position := by
  simp [positionPermille, cameToRest]

theorem edge_unchecked {s : State} {a : Axis} (hp : s.powered = true) (hst : (s.chan a).switch.stable = true)
    (hpin : (s.chan a).switch.pin = false) (hs : (s.chan a).state ≠ .homing)
    (h : (s.chan a).dir = .neg ∨ (s.chan a).switch.edgeUp = false ∨ (s.chan a).referenced = false ∨
      inMotion (s.chan a).state = false) :
    exec (.homeFilterExpiry a) s = .next (s.setChan a (released (s.chan a))) := by
  have hno : (released (s.chan a)).checksEdge = false := by
    rcases h with h | h | h | h
    · simp [Channel.checksEdge, released, h]
    · simp [Channel.checksEdge, released, h]
    · simp [Channel.checksEdge, released, h]
    · exact checksEdge_rest h
  rw [exec_homeFilterExpiry hp, homeFilterDone_released hst hpin, switchReleased_unchecked]
  · rw [State.setChan_chan_same]; exact hs
  · rw [State.setChan_chan_same]; exact hno

/-- A move that ends at a re-sync, its results (R14, R25, R54, R172). -/
theorem Resyncs.move_done {s : State} {a : Axis} {e r goal : Int} {c : Channel} {x : MotionRec} {p : Port}
    {shown here : DemandRec} (h : Resyncs s a .moving e r c) (hr : r ≤ 0) (hq : s.sched.queue = [])
    (hh : s.sched.held = []) (ht : ToldTo s a x p) (hk : x.kind = .move) (htarget : c.target = some goal)
    (hat : r = 0 → goal = c.position) (hclamp : r < 0 → softClamp c.settings goal = c.position)
    (hhere : here =
      { demand := permilleOf a c.settings s.geom.inputs.orientation c.position, excess := 0, current := true })
    (hnone : x.shift = none → shown = here)
    (hsome : ∀ y, x.shift = some y → shown = { demand := y.demand, excess := y.excess, current := true }) :
    ∃ t, exec (.homeFilterExpiry a) s = .next (t.setPort p ((s.port p).told a x.tag .done .moveDone)) ∧
      DoneTaken a shown (cameToRest s a c.moveDone) t := by
  have hend : c.moveResync = .ended c.moveDone .done := by
    rcases Int.lt_or_eq_of_le hr with hr | rfl
    · rw [h.moveResync_beyond hr htarget, Channel.startMove]
      exact if_pos (hclamp hr)
    · rw [h.moveResync_end, segmentOver_at (htarget.trans (congrArg some (hat rfl)))]
  refine ⟨_, ?_, ending_taken (m := x) (e := .done) ?_ (fun y t => by simp [userFocusEnding, hk]) ht.2.2.1⟩
  · rw [h.expiry_moving, hend]
    exact congrArg _ (ht.ended hq hh (released (s.chan a)) c.moveDone .done)
  · have hpos : positionPermille (cameToRest s a c.moveDone) a =
        permilleOf a c.settings s.geom.inputs.orientation c.position := positionPermille_rested s a c.moveDone
    simp only [demandAfter, hk, hpos]
    cases hsh : x.shift with
    | none => rw [hnone hsh, hhere]
    | some y => rw [hsome y hsh]

/-- A jog that ends at a re-sync (R18, R25, R54). -/
theorem Resyncs.jog_done {s : State} {a : Axis} {e r : Int} {c : Channel} {x : MotionRec} {p : Port} {n : Nat}
    (h : Resyncs s a .jogging e r c) (hr : r ≤ 0) (hq : s.sched.queue = []) (hh : s.sched.held = [])
    (ht : ToldTo s a x p) (hk : x.kind = .jog n) :
    ∃ t, exec (.homeFilterExpiry a) s = .next (t.setPort p ((s.port p).told a x.tag .done .moveDone)) ∧
      DemandWritten a
        { demand := permilleOf a c.settings s.geom.inputs.orientation c.position, excess := 0, current := true }
        (cameToRest s a { rested c .idle with lastResult := some .done }) t := by
  refine ⟨_, ?_, ending_demand (m := x) (e := .done) ?_ (userFocusEnding_jog hk .done)⟩
  · rw [h.expiry_jogging, h.jogResync_end hr]
    exact congrArg _ (ht.ended hq hh (released (s.chan a)) c.jogDone .done)
  · simp only [demandAfter, hk, positionPermille_rested]
    rfl

/-- A stop that ends STOPPED at a re-sync (R16, R25). -/
theorem Resyncs.stopped {s : State} {a : Axis} {e r : Int} {c : Channel} {x : MotionRec} {p : Port}
    (h : Resyncs s a .stopping e r c) (hr : r ≤ 0) (hq : s.sched.queue = []) (hh : s.sched.held = [])
    (ht : ToldTo s a x p)
    (hend : c.stopEnd = .result { rested c .idle with target := none, lastResult := some .stopped } .stopped) :
    exec (.homeFilterExpiry a) s =
      .next ((deliverFocus a x .stopped (shiftEnding a x .stopped
          (cameToRest s a { rested c .idle with target := none, lastResult := some .stopped }))).setPort p
        ((s.port p).told a x.tag .stopped .moveDone)) := by
  rw [h.stops hr, finishStop_result hend]
  exact congrArg _ (ht.ended hq hh c _ .stopped)

theorem demandAfter_rested {s : State} {a : Axis} {x : MotionRec} {c d : Channel} (hr : x.ran = true)
    (hk : x.kind ≠ .home) (hp : d.position = c.position) (hs : d.settings = c.settings) :
    demandAfter (cameToRest s a d) a x .stopped =
      some { demand := permilleOf a c.settings s.geom.inputs.orientation c.position, excess := 0, current := true } := by
  rw [demandAfter_stopped hr hk, positionPermille_rested, hp, hs]

/-- Settles O47: the release checked or not, the lost step, and the re-sync by the distance that remains. -/
theorem homeEdgeChecked : Obligations.HomeEdgeChecked := by
  refine ⟨fun s a hp hst hpin hs h => edge_unchecked hp hst hpin hs h, fun s a st e h he => ?_,
    fun s a st e h hout => ⟨fun hen => ⟨fun l hst hl => ?_, fun hst => ?_⟩, fun x p u hst hl hq hh ht hk hu => ?_⟩,
    fun s a st e r c h he hin hc hseg hlim => ?_⟩
  · have hzero : (released (s.chan a)).edgeError = 0 := h.error.symm.trans he
    rw [h.expiry, if_pos (by simp [he])]
    simp only [resync, State.setChan_chan_same, hzero, if_true]
  · have hne : st ≠ .stopping := by rcases hst with k | k <;> rw [k] <;> decide
    have hlevel : ((stepLost s a).chan a).ramp.level ≠ 0 := by
      rw [stepLost_chan]
      show (s.chan a).ramp.level ≠ 0
      omega
    rw [edge_lost h hout hen, if_neg hne, orderStop_above .lost hlevel, stepLost_chan, Channel.stopping]
    have hdecel : decelFrom (released (s.chan a)).table (released (s.chan a)).ramp.level =
        ⟨l, levelLength (s.chan a).table l, .decel⟩ := by
      show decelFrom (s.chan a).table (s.chan a).ramp.level = _
      rw [hl]
      rfl
    simp only [hdecel, Scheduler.runDownSlot, runDown_eq]
    cases a <;> rfl
  · rw [edge_lost h hout hen, if_pos hst]
    cases a <;> rfl
  · have hne : st ≠ .stopping := by rcases hst with k | k <;> rw [k] <;> decide
    obtain ⟨t, hstop, hd⟩ := orderStop_lost hl hq hh ht hk
    rw [edge_lost h hout (.inl (entryOf_nil hq a)), if_neg hne, hu]
    exact ⟨t, congrArg _ hstop, hd⟩
  · have hre : Resyncs s a st e r c := ⟨h, he, hin, hc, hseg, hlim⟩
    refine ⟨fun hr hs _ => ⟨_, rampResync_resynced (by omega) _, hre.runs_on hr hs⟩, fun hr hs => ?_,
      fun goal d dist hr hs hj htarget hne hdist hd => ?_,
      fun goal last seg dist hr hs hj htarget hne hfirst hdist => ?_,
      fun hs hr hk hj htarget hen h1 h2 hallow => ?_,
      fun x p u v here hr hq hh ht hhere hu => ⟨fun n hs hj hk hv => ?_,
        fun goal shown hs hj hk htarget hat hclamp hnone hsome hv => ?_,
        fun hv hs => ⟨fun n hcause hj hk => ?_, fun hcause hj htarget hk => ?_⟩⟩⟩
    · subst hs
      exact ⟨_, rampResyncStopping_resynced (by omega) _, hre.slows_on hr⟩
    · subst hs hr
      rw [hre.expiry_moving, hre.moveResync_end, segmentOver_next htarget hne.symm, hd, hdist]
      exact congrArg _ (State.setChan_twice ..)
    · subst hs
      obtain ⟨v, hv, hstarts⟩ := startMove_clamped (c := c) rfl hne
      obtain ⟨hstate, hgoal, -, hsegment⟩ := hstarts.move _ rfl
      obtain ⟨hs1, hs2, hs3, hs4, hs5⟩ := hsegment seg last hfirst
      refine ⟨v, ?_, hstate, hstarts.granted.position, hgoal, hs1, hs2, hs3, ?_, ?_⟩
      · rw [hre.expiry_moving, hre.moveResync_beyond hr htarget, hv]
        exact congrArg _ (State.setChan_twice ..)
      · rw [hs4, hstarts.granted.table, hdist]
      · rw [hs5, hs4, hstarts.granted.table, hdist]
    · subst hs
      have hcause : c.stopCause = some .allowance := by rw [hc]; exact hk
      have hend := stopEnd_allowance hcause hj
      rw [Option.isNone_eq_false_iff.mpr htarget, Bool.or_false] at hend
      rw [hre.stops hr]
      simp only [finishStop, State.setChan_chan_same, hend]
      refine congrArg _ ((enterHeld_tail (s := s.setChan a c) _ h1 h2 hallow hen).trans ?_)
      rw [State.setChan_twice]
      rfl
    · subst hs hu hv hhere
      exact hre.jog_done hr hq hh ht hk
    · subst hs hu hv
      exact hre.move_done hr hq hh ht hk htarget hat hclamp hhere hnone hsome
    · subst hs hu hv hhere
      have hend := stopEnd_jog (c := c) hj (by rw [hc]; exact hcause)
      exact ⟨_, hre.stopped hr hq hh ht hend,
        ending_demand (m := x) (e := .stopped) (demandAfter_rested ht.2.2.2 (by simp [hk]) rfl rfl)
          (userFocusEnding_jog hk .stopped)⟩
    · subst hs hu hv hhere
      have hend := stopEnd_move (c := c) hj htarget (by rw [hc]; exact hcause)
      exact ⟨_, hre.stopped hr hq hh ht hend,
        ending_taken (m := x) (e := .stopped) (demandAfter_rested ht.2.2.2 (by simp [hk]) rfl rfl)
          (fun y t => by simp [userFocusEnding, hk, ht.2.2.2]) ht.2.2.1⟩

end Sys2Proof.Machine
end

section
/-! PROOFS. The lens memories written (R60 to R63), the geometry inputs written (R71 to R75, R84, R95), and what a change
of the cooling records brings (R134, R135, R144). -/

namespace Sys2Proof.Machine

/-! ### Lens memories -/

theorem store_exec {s : State} {r : Req} (ht : portTakes s r.port = true) {n : Byte} (hn : n.toNat < 10) :
    exec (.store r n) s =
      if s.mem.job.isSome || allAxes.any (storeBusy s) then .next (answered r { status := .busy } s)
      else
        .next (answered r { status := .ok }
          (s.withMem (beginWrite s.mem n.toNat .store r.port r.tag (some (snapshotOf s))))) := by
  have hexec := request_taken (s := s) (r := r) (c := .bothPorts) ⟨ht, rfl⟩ fun s => storeRequest r n s
  refine hexec.trans ?_
  simp only [storeRequest, slotOfCode_listed hn]
  split <;> rfl

theorem erase_exec {s : State} {r : Req} (ht : portTakes s r.port = true) {n : Byte} (hn : n.toNat < 10) :
    exec (.erase r n) s =
      if s.mem.job.isSome then .next (answered r { status := .busy } s)
      else .next (answered r { status := .ok } (s.withMem (beginWrite s.mem n.toNat .erase r.port r.tag none))) := by
  have hexec := request_taken (s := s) (r := r) (c := .bothPorts) ⟨ht, rfl⟩ fun s => eraseRequest r n s
  refine hexec.trans ?_
  simp only [eraseRequest, slotOfCode_listed hn]
  split <;> rfl

/-- Check 3 of R60 for an axis. -/
theorem storeBusy_iff (s : State) (a : Axis) :
    storeBusy s a = true ↔ (s.chan a).state ≠ .absent ∧
      ((s.chan a).state ≠ .idle ∨ (s.chan a).referenced = false ∨ (s.sched.entryOf a).isSome = true) := by
  simp [storeBusy, or_assoc]

theorem any_axis {f : Axis → Bool} : allAxes.any f = true ↔ ∃ a, f a = true := by
  rw [List.any_eq_true]
  exact ⟨fun ⟨a, _, h⟩ => ⟨a, h⟩, fun ⟨a, h⟩ => ⟨a, by cases a <;> decide, h⟩⟩

theorem snapshot_position (s : State) (a : Axis) :
    (snapshotOf s).position.get a = if (s.chan a).state = .absent then none else some (s.chan a).position := by
  cases a <;> rfl

/-- Settles O48: the checks of STORE and ERASE, and the ends of a write. -/
theorem memoryWritten : Obligations.MemoryWritten := by
  refine ⟨fun s r n ht hn => ?_, fun m j n hj => ?_, fun s j hp hj => ?_, fun s hj => ?_, fun s hp => ⟨fun hj => ?_, fun j hj => ?_⟩⟩
  · rw [store_exec ht hn, erase_exec ht hn]
    refine ⟨fun hj => ?_, fun hbusy => ?_, fun hj hidle => ?_, fun hj => ?_⟩
    · simp only [hj, Bool.true_or, if_true]
      exact ⟨trivial, trivial⟩
    · obtain ⟨a, h⟩ := hbusy
      rw [any_axis.mpr ⟨a, (storeBusy_iff s a).mpr h⟩, Bool.or_true]
      rfl
    · have hno : allAxes.any (storeBusy s) = false := by
        rw [← Bool.not_eq_true, any_axis]
        rintro ⟨a, ha⟩
        obtain ⟨hpresent, hbusy⟩ := (storeBusy_iff s a).mp ha
        obtain h | ⟨hs, href, hen⟩ := hidle a
        · exact hpresent h
        · simp [hs, href, hen] at hbusy
      rw [hj, hno]
      exact ⟨snapshotOf s, rfl, snapshot_position s, rfl, rfl, rfl, rfl⟩
    · rw [hj]
      rfl
  · simp only [memoryImage, hj]
  · have hdone : writeDone s =
        ({ s with mem := { records := s.mem.records.set j.slot j.contents, job := none } } : State).setPort j.port
          (((s.port j.port).notice (.store j.slot j.tag j.kind)).raise .storeDone) := by
      simp only [writeDone, hj]
      cases j.port <;> rfl
    exact (event_taken hp writeDone).trans (congrArg _ hdone)
  · have hnone : writeDone s = s := by simp only [writeDone, hj]
    cases hp : s.powered with
    | true => exact (event_taken hp writeDone).trans (congrArg _ hnone)
    | false => exact event_ignored hp writeDone
  · refine (event_taken hp powerLost).trans (congrArg _ ?_)
    simp only [powerLost, cutWrite, hj]
    rfl
  · refine (event_taken hp powerLost).trans (congrArg _ ?_)
    simp only [powerLost, cutWrite, hj]
    rfl

/-! ### A refresh of the cooling records -/

theorem refreshFan_fields (s : State) (f : Fan) :
    refreshFan s f =
      { s.cool.fans.get f with
        target := (refreshFan s f).target, commanded := (refreshFan s f).commanded, grace := (refreshFan s f).grace } := by
  unfold refreshFan
  dsimp only
  split
  · split <;> rfl
  · rfl

theorem refreshFan_duty {s : State} {f : Fan} (h : forced s f = false) :
    (refreshFan s f).commanded = (s.cool.fans.get f).commanded ∧ (refreshFan s f).grace = (s.cool.fans.get f).grace := by
  simp only [refreshFan, h]
  split <;> exact ⟨rfl, rfl⟩

theorem coolRefresh_fan (s : State) (f : Fan) : (coolRefresh s).cool.fans.get f = refreshFan s f := by
  rw [coolRefresh_cool]
  exact refreshFans_get s f

/-- A refresh after the cooling records become `c`, which holds the cap as it was. -/
theorem coolRefresh_coolSettled {c : Cooling} {s : State} (hc : c.lightCap = s.cool.lightCap) :
    CoolSettled c s (coolRefresh (s.withCool c)) where
  rest := by
    obtain ⟨p, q, h⟩ := coolRefresh_writes (s.withCool c)
    rw [h]
    rfl
  fans f := by
    rw [coolRefresh_fan]
    exact refreshFan_fields (s.withCool c) f
  duty f hf := by
    rw [(coolRefresh_agree _).forced] at hf
    rw [coolRefresh_fan]
    exact refreshFan_duty hf
  settled := coolRefresh_settled _
  told p := by
    rw [coolRefresh_port, State.withCool_port]
    show (if _ = c.lightCap then _ else _) = _
    rw [hc]

/-! ### Geometry inputs -/

/-- A recompute request does not look at the shift unit. -/
theorem uncurrent_recompute (a : Axis) (s : State) : uncurrent a (recompute s) = recompute (uncurrent a s) := by
  rw [uncurrent_eq, uncurrent_eq]
  unfold recompute
  cases h : s.geom.engine <;> rfl

theorem keystoneClamp_ne (k : Int) : decide (keystoneClamp k ≠ k) = decide (k < -60 ∨ 60 < k) := by
  refine decide_eq_decide.mpr ?_
  exact clampInt_ne_iff (-60) 60 k

theorem cancelRecallKeystone_eq (s : State) :
    cancelRecallKeystone s =
      { s with recallUnit := { s.recallUnit with ctx := s.recallUnit.ctx.map fun c => { c with cancelled := true } } } := by
  unfold cancelRecallKeystone
  cases h : s.recallUnit.ctx with
  | none =>
    show s = { s with recallUnit := { s.recallUnit with ctx := none } }
    rw [← h]
  | some c => rfl

theorem panelInRange_iff (w h g : Nat) :
    panelInRange w h g = true ↔ (640 ≤ w ∧ w ≤ 3840) ∧ (360 ≤ h ∧ h ≤ 2160) ∧ (g = 5 ∨ g = 9 ∨ g = 17) := by
  simp only [panelInRange, Bool.and_eq_true, Bool.or_eq_true, decide_eq_true_eq, and_assoc, or_assoc]

theorem setPanel_exec {s : State} {r : Req} (ht : Takes s r .systemOnly) (w h : Half) (g : Byte) :
    exec (.setPanel r w h g) s =
      if s.stream.mode ≠ .off then .next (answered r { status := .busy } s)
      else if panelInRange w.toNat h.toNat g.toNat then
        .next (answered r { status := .ok } (changePanel w.toNat h.toNat g.toNat s))
      else .next (answered r { status := .range } s) := by
  simp only [exec, execSetPanel, request_taken ht]
  split
  · rfl
  · split <;> rfl

theorem changePanel_recomputed (w h g : Nat) (s : State) :
    Recomputed
      { s with
        geom := { s.geom with inputs := { s.geom.inputs with w := w, h := h, g := g } }
        banks :=
          { s.banks with
            a := { s.banks.a with state := if s.banks.a.state = .filling then .filling else .invalid }
            b := { s.banks.b with state := if s.banks.b.state = .filling then .filling else .invalid } } }
      (changePanel w h g s) := by
  have hbank (b : Bank) :
      b.invalidated = { b with state := if b.state = .filling then .filling else .invalid } := by
    unfold Bank.invalidated
    split
    · next h => rw [← h]
    · rfl
  have hbanks : invalidateBanks s.banks =
      { s.banks with
        a := { s.banks.a with state := if s.banks.a.state = .filling then .filling else .invalid }
        b := { s.banks.b with state := if s.banks.b.state = .filling then .filling else .invalid } } := by
    rw [invalidateBanks, hbank, hbank]
  unfold changePanel
  rw [hbanks]
  exact recompute_recomputed _

theorem toNat_eq_iff (g : Byte) (n : Nat) (hn : n < 256) : g.toNat = n ↔ g = BitVec.ofNat 8 n := by
  rw [← BitVec.toNat_inj, BitVec.toNat_ofNat, Nat.mod_eq_of_lt hn]

/-- Settles O50: the three writers of the inputs, each with its recompute request. -/
theorem inputsWritten : Obligations.InputsWritten := by
  refine ⟨fun s r kv kh x u ht hx hu => ?_, fun s r c o ht ho => ⟨fun hsame => ?_, fun hne => ?_⟩,
    fun s r w h g ht => ⟨fun hm => ?_, fun hm => ⟨fun hout => ?_, fun h1 h2 h3 h4 hg => ?_⟩⟩⟩
  · have hexec := request_taken (s := s) (r := r) (c := .bothPorts) ⟨ht, rfl⟩ fun s => keystoneRequest kv.toInt kh.toInt s
    have hclamped : (decide (keystoneClamp kv.toInt ≠ kv.toInt) || decide (keystoneClamp kh.toInt ≠ kh.toInt)) =
        x.keystoneClamped := by
      rw [hx, keystoneClamp_ne, keystoneClamp_ne, ← Bool.decide_or]
      exact decide_eq_decide.mpr or_assoc
    have hwrite : keystoneRequest kv.toInt kh.toInt s =
        (writeInputs x { s with recallUnit := u }, { status := .ok, clamped := x.keystoneClamped }) := by
      simp only [keystoneRequest, hclamped, cancelRecallKeystone_eq, ← hu]
      rw [hx]
      rfl
    rw [hwrite] at hexec
    exact ⟨_, hexec, writeInputs_to x { s with recallUnit := u }⟩
  · have hexec : exec (.setOrientation r c) s = .next (answered r { status := .ok } (changeOrientation o s)) := by
      simp only [exec, execSetOrientation, request_taken ht, ho]
      rfl
    rw [hexec, changeOrientation, if_pos hsame]
  · have hexec : exec (.setOrientation r c) s = .next (answered r { status := .ok } (changeOrientation o s)) := by
      simp only [exec, execSetOrientation, request_taken ht, ho]
      rfl
    have hwrite : writeInputs { s.geom.inputs with orientation := o } s =
        recompute (s.withGeom { s.geom with inputs := { s.geom.inputs with orientation := o } }) :=
      if_neg fun k => hne (congrArg Inputs.orientation k)
    obtain ⟨u, hu⟩ : ∃ u, u = uncurrent .sv (uncurrent .sh (writeInputs { s.geom.inputs with orientation := o } s)) :=
      ⟨_, rfl⟩
    have hrec : u = recompute (uncurrent .sv (uncurrent .sh
        (s.withGeom { s.geom with inputs := { s.geom.inputs with orientation := o } }))) := by
      rw [hu, hwrite, uncurrent_recompute, uncurrent_recompute]
    have hcool : u.cool = s.cool := by
      rw [hrec]
      unfold recompute
      split <;> rfl
    refine ⟨coolRefresh u, u, ?_, ?_, ?_⟩
    · rw [hexec, changeOrientation, if_neg hne, hu]
    · rw [hrec]
      exact recompute_recomputed _
    · rw [← hcool]
      exact coolRefresh_coolSettled (s := u) (c := u.cool) rfl
  · rw [setPanel_exec ht, if_pos hm]
  · rw [setPanel_exec ht, if_neg (not_not_intro hm), if_neg]
    rw [panelInRange_iff, toNat_eq_iff g 5 (by decide), toNat_eq_iff g 9 (by decide), toNat_eq_iff g 17 (by decide)]
    rintro ⟨hw, hh, hg⟩
    rcases hout with k | k | k | k | ⟨k1, k2, k3⟩
    · omega
    · omega
    · omega
    · omega
    · rcases hg with hg | hg | hg
      · exact k1 hg
      · exact k2 hg
      · exact k3 hg
  · refine ⟨_, ?_, changePanel_recomputed w.toNat h.toNat g.toNat s⟩
    rw [setPanel_exec ht, if_neg (not_not_intro hm), if_pos]
    rw [panelInRange_iff, toNat_eq_iff g 5 (by decide), toNat_eq_iff g 9 (by decide), toNat_eq_iff g 17 (by decide)]
    exact ⟨⟨h1, h2⟩, ⟨h3, h4⟩, hg⟩

end Sys2Proof.Machine
end

section
/-! PROOFS. RECALL (R52, R53, R63 to R68). -/

namespace Sys2Proof.Machine

/-! ### The context of a recall through the endings -/

/-- The numbers of the recall unit: the next one, and that of the open context with its slot and port (R66). -/
structure RecallNumbers (next number slot : Byte) (p : Port) (u : RecallUnit) : Prop where
  next : u.nextNumber = next
  ctx : ∀ c, u.ctx = some c → c.number = number ∧ c.slot = slot ∧ c.port = p

/-- The numbers stand, whether the context goes on or is closed. -/
def KeepsNumbers (s t : State) : Prop :=
  ∀ (next number slot : Byte) (p : Port),
    RecallNumbers next number slot p s.recallUnit → RecallNumbers next number slot p t.recallUnit

theorem KeepsNumbers.of_eq {s t : State} (h : t.recallUnit = s.recallUnit) : KeepsNumbers s t := by
  intro next number slot p k
  rw [h]
  exact k

theorem KeepsNumbers.refl (s : State) : KeepsNumbers s s := .of_eq rfl

theorem KeepsNumbers.trans {s t u : State} (h : KeepsNumbers s t) (k : KeepsNumbers t u) : KeepsNumbers s u :=
  fun _ _ _ _ x => k _ _ _ _ (h _ _ _ _ x)

theorem KeepsNumbers.after {s t u : State} (h : KeepsNumbers u t) (e : u.recallUnit = s.recallUnit) : KeepsNumbers s t :=
  (KeepsNumbers.of_eq e).trans h

/-- A context rewritten with the numbers it has. -/
theorem withRecall_numbers {s : State} {c d : RecallCtx} (h : s.recallUnit.ctx = some c) (hn : d.number = c.number)
    (hs : d.slot = c.slot) (hp : d.port = c.port) :
    KeepsNumbers s (s.withRecall { s.recallUnit with ctx := some d }) := by
  rintro next number slot p ⟨hnext, hctx⟩
  obtain ⟨h1, h2, h3⟩ := hctx c h
  refine ⟨hnext, fun e he => ?_⟩
  cases he
  exact ⟨hn.trans h1, hs.trans h2, hp.trans h3⟩

theorem recompute_recallUnit (s : State) : (recompute s).recallUnit = s.recallUnit := by
  unfold recompute
  split <;> rfl

theorem writeInputs_recallUnit (x : Inputs) (s : State) : (writeInputs x s).recallUnit = s.recallUnit := by
  unfold writeInputs
  split
  · rfl
  · exact recompute_recallUnit _

theorem writeDemand_recallUnit (a : Axis) (d : DemandRec) (s : State) : (writeDemand a d s).recallUnit = s.recallUnit :=
  writeInputs_recallUnit _ _

theorem notify_recallUnit (p : Port) (n : Notice) (s : State) : (notify p n s).recallUnit = s.recallUnit := by
  cases p <;> rfl

theorem closeRecall_recallUnit (c : RecallCtx) (s : State) :
    (closeRecall c s).recallUnit = { s.recallUnit with ctx := none } := by
  unfold closeRecall
  dsimp only
  rw [notify_recallUnit]
  split
  · rfl
  · rw [writeInputs_recallUnit]
    rfl

theorem recallSettle_numbers (s : State) : KeepsNumbers s (recallSettle s) := by
  unfold recallSettle
  split
  · split
    · exact .refl s
    · rintro next number slot p ⟨hnext, -⟩
      rw [closeRecall_recallUnit]
      exact ⟨hnext, fun _ k => nomatch k⟩
  · exact .refl s

theorem recallEnding_numbers (a : Axis) (l : Byte) (e : Ending) (s : State) : KeepsNumbers s (recallEnding a l e s) := by
  unfold recallEnding
  split
  · next c h =>
    split
    · exact (withRecall_numbers h (by rfl) (by rfl) (by rfl)).trans (recallSettle_numbers _)
    · exact .refl s
  · exact .refl s

theorem shiftEnding_recallUnit (a : Axis) (m : MotionRec) (e : Ending) (s : State) :
    (shiftEnding a m e s).recallUnit = s.recallUnit := by
  unfold shiftEnding
  split
  · split
    · exact writeDemand_recallUnit _ _ _
    · rfl
  · rfl

theorem deliverFocus_recallUnit (a : Axis) (m : MotionRec) (e : Ending) (s : State) :
    (deliverFocus a m e s).recallUnit = s.recallUnit := by
  unfold deliverFocus
  split <;> rfl

theorem parkEnding_recallUnit (a : Axis) (n : Option Byte) (e : Ending) (s : State) :
    (parkEnding a n e s).recallUnit = s.recallUnit := by
  unfold parkEnding parkSettle
  split
  · split <;> rfl
  · rfl

theorem notifyMove_recallUnit (a : Axis) (m : MotionRec) (e : Ending) (s : State) :
    (notifyMove a m e s).recallUnit = s.recallUnit := by
  unfold notifyMove
  split
  · exact notify_recallUnit _ _ _
  · rfl

theorem deliverTo_numbers (told : Told) (a : Axis) (m : MotionRec) (e : Ending) (s : State) :
    KeepsNumbers s (deliverTo told a m e s) := by
  unfold deliverTo
  split
  · exact recallEnding_numbers _ _ _ _
  · split
    · exact .of_eq rfl
    · exact .of_eq (parkEnding_recallUnit _ _ _ _)
    · split
      · exact .of_eq (notifyMove_recallUnit _ _ _ _)
      · exact .refl s
    · split
      · exact .of_eq (notifyMove_recallUnit _ _ _ _)
      · exact .refl s

theorem deliver_numbers (told : Told) (a : Axis) (m : MotionRec) (e : Ending) (s : State) :
    KeepsNumbers s (deliver told a m e s) := by
  refine KeepsNumbers.trans (.of_eq ?_) (deliverTo_numbers told a m e _)
  rw [deliverFocus_recallUnit, shiftEnding_recallUnit]

theorem deliverRecord_numbers (a : Axis) (e : Ending) (s : State) : KeepsNumbers s (deliverRecord a e s) := by
  unfold deliverRecord
  split
  · exact (deliver_numbers _ _ _ _ _).after rfl
  · exact .refl s

theorem setChan_recallUnit (s : State) (a : Axis) (c : Channel) : (s.setChan a c).recallUnit = s.recallUnit := by
  cases a <;> rfl

theorem settleMotion_numbers (a : Axis) (p : Progress) (s : State) : KeepsNumbers s (settleMotion a p s) := by
  cases p with
  | running c => exact .of_eq (setChan_recallUnit s a c)
  | ended c e =>
    refine KeepsNumbers.trans (.of_eq ?_) (deliverRecord_numbers a e _)
    exact setChan_recallUnit s a c

theorem grantEntry_numbers (en : Entry) (s : State) : KeepsNumbers s (grantEntry en s) := by
  unfold grantEntry
  dsimp only
  split
  · exact (settleMotion_numbers _ _ _).after rfl
  · exact .of_eq (setChan_recallUnit (s.withSched _) _ _)
  · exact (settleMotion_numbers _ _ _).after rfl

theorem resume_numbers (a : Axis) (s : State) : KeepsNumbers s (resume a s) := by
  unfold resume
  dsimp only
  split
  · exact .of_eq rfl
  · split
    · exact .of_eq (setChan_recallUnit (s.withSched _) _ _)
    · split
      · exact (settleMotion_numbers _ _ _).after rfl
      · exact .of_eq rfl

theorem grantPassN_numbers (n : Nat) (s : State) : KeepsNumbers s (grantPassN n s) := by
  induction n generalizing s with
  | zero => exact .refl s
  | succ n ih =>
    unfold grantPassN
    split
    · split
      · exact (resume_numbers _ s).trans (ih _)
      · split
        · exact (grantEntry_numbers _ s).trans (ih _)
        · exact .refl s
    · exact .refl s

theorem grantPass_numbers (s : State) : KeepsNumbers s (grantPass s) := grantPassN_numbers _ s

theorem placeHeld_numbers (en : Entry) (s : State) : KeepsNumbers s (placeHeld en s) := by
  have hreplace (c : Channel) (q : Option MotionRec) : KeepsNumbers s
      ((deliverRecord en.axis .replaced (s.setChan en.axis c)).withSched
        ((deliverRecord en.axis .replaced (s.setChan en.axis c)).sched.setRecord en.axis q)) :=
    (deliverRecord_numbers en.axis .replaced _).after (setChan_recallUnit s en.axis c)
  have hdrop : KeepsNumbers s
      ((dropHeldMotion en.axis .replaced s).withSched ((dropHeldMotion en.axis .replaced s).sched.append en)) :=
    (deliverRecord_numbers en.axis .replaced _).after
      (setChan_recallUnit s en.axis ((s.chan en.axis).dropHeld.heldEnded .replaced (s.sched.records.get en.axis)))
  unfold placeHeld
  dsimp only
  split
  · split
    · exact hreplace _ _
    · exact hdrop
  · split
    · exact hreplace _ _
    · exact hdrop
  · exact hdrop

theorem placeEntry_numbers (en : Entry) (s : State) : KeepsNumbers s (placeEntry en s).1 := by
  unfold placeEntry
  split
  · exact (deliver_numbers _ _ _ _ _).after rfl
  · split
    · exact placeHeld_numbers en s
    · split
      · refine KeepsNumbers.trans (.of_eq ?_) (deliver_numbers _ _ _ _ _)
        exact setChan_recallUnit s en.axis _
      · exact .of_eq rfl

theorem joinOutstanding_numbers (a : Axis) (s : State) : KeepsNumbers s (joinOutstanding a s) := by
  unfold joinOutstanding
  split
  · next c h => exact withRecall_numbers h rfl rfl rfl
  · exact .refl s

theorem recallAxis_numbers (r : Req) (number : Byte) (p : Picture) (s : State) (a : Axis) :
    KeepsNumbers s (recallAxis r number p s a) := by
  unfold recallAxis
  split
  · exact (joinOutstanding_numbers a s).trans (placeEntry_numbers _ _)
  · exact .of_eq (writeDemand_recallUnit _ _ _)
  · exact .refl s

theorem endPlacing_numbers (s : State) : KeepsNumbers s (endPlacing s) := by
  unfold endPlacing
  split
  · next c h => exact (withRecall_numbers h (by rfl) (by rfl) (by rfl)).trans (recallSettle_numbers _)
  · exact .refl s

theorem recallAxes_numbers (r : Req) (number : Byte) (p : Picture) (l : List Axis) (s : State) :
    KeepsNumbers s (l.foldl (recallAxis r number p) s) := by
  induction l generalizing s with
  | nil => exact .refl s
  | cons a l ih => exact (recallAxis_numbers r number p s a).trans (ih _)

theorem supersedeRecall_nextNumber (s : State) : (supersedeRecall s).recallUnit.nextNumber = s.recallUnit.nextNumber := by
  unfold supersedeRecall
  split
  · rw [notify_recallUnit]; rfl
  · rfl

/-- An accepted RECALL is numbered with the next number, and its context carries it (R66). -/
theorem startRecall_numbers (r : Req) (slot : Byte) (p : Picture) (s : State) :
    RecallNumbers (s.recallUnit.nextNumber + 1) s.recallUnit.nextNumber slot r.port
      (startRecall r slot p s).recallUnit := by
  unfold startRecall
  refine grantPass_numbers _ _ _ _ _ (endPlacing_numbers _ _ _ _ _ (recallAxes_numbers r _ p allAxes _ _ _ _ _ ?_))
  refine ⟨?_, fun c h => ?_⟩
  · show (supersedeRecall s).recallUnit.nextNumber + 1 = _
    rw [supersedeRecall_nextNumber]
  · cases h
    exact ⟨supersedeRecall_nextNumber s, rfl, rfl⟩

/-! ### The checks of a RECALL -/

theorem recall_exec {s : State} {r : Req} (ht : portTakes s r.port = true) {n : Byte} (hn : n.toNat < 10) :
    exec (.recallMemory r n) s =
      if phaseRefuses s.phase.phase then .next (answered r { status := .wrongPhase } s)
      else
        match memoryImage s.mem n.toNat with
        | none => .next (answered r { status := .empty } s)
        | some p =>
          if allAxes.any fun a => decide ((s.chan a).state ≠ .absent) && !(s.chan a).referenced then
            .next (answered r { status := .notReferenced } s)
          else
            .next (answered r { status := .queued, clamped := allAxes.any (recallClamps p s) } (startRecall r n p s)) := by
  have hexec := request_taken (s := s) (r := r) (c := .bothPorts) ⟨ht, rfl⟩ fun s => recallRequest r n s
  refine hexec.trans ?_
  simp only [recallRequest, slotOfCode_listed hn]
  by_cases hp : phaseRefuses s.phase.phase = true
  · have hp' : (s.phase.phase = .start || s.phase.phase = .cooldown || s.phase.phase = .fault) = true := hp
    rw [if_pos hp, if_pos hp']
    rfl
  · have hp' : ¬ (s.phase.phase = .start || s.phase.phase = .cooldown || s.phase.phase = .fault) = true := hp
    rw [if_neg hp, if_neg hp']
    cases memoryImage s.mem n.toNat with
    | none => rfl
    | some p =>
      dsimp only
      split <;> rfl

theorem any_notReferenced (s : State) :
    (allAxes.any fun a => decide ((s.chan a).state ≠ .absent) && !(s.chan a).referenced) = true ↔
      ∃ a, (s.chan a).state ≠ .absent ∧ (s.chan a).referenced = false := by
  rw [any_axis]
  simp

/-! ### The work of a RECALL on an axis -/

theorem recallWork_whole {s : State} {a : Axis} {p : Picture} {d : Int} (h : (s.chan a).state = .absent)
    (hd : p.demandOf a = some d) : recallWork p s a = .wholeDemand d := by
  simp only [recallWork, if_pos h, hd]

theorem recallWork_nothing {s : State} {a : Axis} {p : Picture} (h : (s.chan a).state = .absent)
    (hd : p.demandOf a = none) : recallWork p s a = .leave := by
  simp only [recallWork, if_pos h, hd]

theorem recallTarget_absent {s : State} {a : Axis} (h : (s.chan a).state = .absent) (p : Picture) :
    recallTarget p s a = none := if_pos h

/-- A target that a recall places, clamped, is the target R65 gives; it is clamped only when it is a stored position. -/
theorem recallWork_place {s : State} {a : Axis} {x : Int × Option ShiftPart} {p : Picture} (h : recallTarget p s a = some x) :
    ∃ t, recallWork p s a = .place t x.2 ∧
      ((s.chan a).settings.softMin ≤ (s.chan a).settings.softMax → softClamp (s.chan a).settings t = x.1) := by
  unfold recallTarget at h
  unfold recallWork
  split at h
  · cases h
  · next hs =>
    dsimp only
    rw [if_neg hs]
    cases hd : p.demandOf a with
    | some d =>
      rw [hd] at h
      cases h
      exact ⟨_, rfl, fun hsoft => softClamp_idem hsoft _⟩
    | none =>
      rw [hd] at h
      obtain ⟨t, hpos, rfl⟩ := Option.map_eq_some_iff.mp h
      rw [hpos]
      exact ⟨t, rfl, fun _ => rfl⟩

theorem recallWork_leave {s : State} {a : Axis} {p : Picture} (h : recallTarget p s a = none)
    (hs : (s.chan a).state ≠ .absent) : recallWork p s a = .leave := by
  unfold recallTarget at h
  unfold recallWork
  rw [if_neg hs] at h
  dsimp only
  rw [if_neg hs]
  cases hd : p.demandOf a with
  | some d =>
    rw [hd] at h
    cases h
  | none =>
    rw [hd] at h
    dsimp only
    rw [Option.map_eq_none_iff.mp h]

/-- A recall clamps where a stored position lies outside the soft limits (R64). -/
theorem recallClamps_eq {s : State} {a : Axis} (hsoft : (s.chan a).settings.softMin ≤ (s.chan a).settings.softMax)
    (p : Picture) :
    recallClamps p s a =
      (decide ((s.chan a).state ≠ .absent) && (p.demandOf a).isNone &&
        match p.position.get a with
        | some t => decide (t < (s.chan a).settings.softMin) || decide ((s.chan a).settings.softMax < t)
        | none => false) := by
  unfold recallClamps recallWork
  by_cases hs : (s.chan a).state = .absent
  · cases hd : p.demandOf a <;> simp [hs]
  · cases hd : p.demandOf a with
    | some d => simp [hs, placingClamps, softClamp_idem hsoft]
    | none =>
      cases hp : p.position.get a with
      | none => simp [hs]
      | some t =>
        have hne : decide (softClamp (s.chan a).settings t ≠ t) =
            (decide (t < (s.chan a).settings.softMin) || decide ((s.chan a).settings.softMax < t)) := by
          rw [← Bool.decide_or]
          exact decide_eq_decide.mpr (clampInt_ne_iff _ _ t)
        simpa [hs, placingClamps] using hne

theorem recallClamped_eq {s : State} (hsoft : ∀ a, (s.chan a).settings.softMin ≤ (s.chan a).settings.softMax)
    (p : Picture) : allAxes.any (recallClamps p s) = recallClamped p s :=
  congrArg (allAxes.any ·) (funext fun a => recallClamps_eq (hsoft a) p)

/-! ### The placing of a RECALL -/

/-- A state with a queue and an open recall context of its own. -/
def recalling (v : State) (q : List Entry) (o : PerAxis Bool) (c : RecallCtx) (next : Byte) : State :=
  { v with
    sched := { v.sched with queue := q }
    recallUnit := { ctx := some { c with outstanding := o }, nextNumber := next } }

section
variable (v : State) (q : List Entry) (o : PerAxis Bool) (c : RecallCtx) (next : Byte)

theorem recompute_recalling : recompute (recalling v q o c next) = recalling (recompute v) q o c next := by
  unfold recompute
  show (match v.geom.engine with
    | .idle => startCompute v.banks.shadow (recalling v q o c next)
    | .computing => (recalling v q o c next).withGeom { v.geom with restart := true }
    | .swapPending => startCompute (v.geom.bank.getD v.banks.shadow) (recalling v q o c next)) = _
  cases v.geom.engine <;> rfl

/-- A demand record is written whatever the queue and the recall context are. -/
theorem writeDemand_recalling (a : Axis) (d : DemandRec) :
    writeDemand a d (recalling v q o c next) = recalling (writeDemand a d v) q o c next := by
  unfold writeDemand writeInputs
  by_cases h : v.geom.inputs.withExcess a d.excess = (v.withShift (v.shift.set a d)).geom.inputs
  · have h' : (recalling v q o c next).geom.inputs.withExcess a d.excess =
      ((recalling v q o c next).withShift ((recalling v q o c next).shift.set a d)).geom.inputs := h
    rw [if_pos h, if_pos h']
    rfl
  · have h' : ¬ (recalling v q o c next).geom.inputs.withExcess a d.excess =
      ((recalling v q o c next).withShift ((recalling v q o c next).shift.set a d)).geom.inputs := h
    rw [if_neg h, if_neg h', ← recompute_recalling]
    rfl

end

/-- The entries a recall places on one axis. -/
def recallPlaced (r : Req) (number : Byte) (p : Picture) (s : State) (a : Axis) : List Entry :=
  ((recallTarget p s a).map fun x => recallEntry r number a x.1 x.2).toList

theorem recallPlaced_axis {r : Req} {number : Byte} {p : Picture} {s : State} {a : Axis} {e : Entry}
    (h : e ∈ recallPlaced r number p s a) : e.axis = a := by
  unfold recallPlaced at h
  cases ht : recallTarget p s a with
  | none => simp [ht] at h
  | some x =>
    simp only [ht, Option.map_some, Option.toList_some, List.mem_singleton] at h
    rw [h]
    rfl

theorem filterMap_cons_toList {α β : Type} (f : α → Option β) (a : α) (l : List α) :
    (a :: l).filterMap f = (f a).toList ++ l.filterMap f := by
  rw [List.filterMap_cons]
  cases f a <;> rfl

theorem recallEntries_eq (r : Req) (number : Byte) (p : Picture) (s : State) :
    recallEntries r number p s =
      recallPlaced r number p s .sh ++ (recallPlaced r number p s .sv ++
        (recallPlaced r number p s .zm ++ recallPlaced r number p s .fc)) := by
  unfold recallEntries
  simp only [filterMap_cons_toList, List.filterMap_nil, List.append_nil]
  rfl

/-- The outstanding set with an axis that has an entry. -/
def joined (o : PerAxis Bool) (a : Axis) (b : Bool) : PerAxis Bool := if b then o.set a true else o

theorem joined_all (a b c d : Bool) :
    joined (joined (joined (joined noAxes .sh a) .sv b) .zm c) .fc d = ⟨a, b, c, d⟩ := by
  cases a <;> cases b <;> cases c <;> cases d <;> rfl

theorem recallTarget_congr {s v : State} (h : DeliveryFrame s v) (p : Picture) (a : Axis) :
    recallTarget p v a = recallTarget p s a := by
  simp only [recallTarget, h.chan, h.frame.orientation]

/-- The entry of a recall joins the tail, with its axis in the outstanding set (R65). -/
theorem recallAxis_place {r : Req} {number : Byte} {p : Picture} {v : State} {a : Axis} {x : Int × Option ShiftPart}
    {q : List Entry} {o : PerAxis Bool} {c : RecallCtx} {next : Byte} (hx : recallTarget p v a = some x)
    (hsoft : (v.chan a).settings.softMin ≤ (v.chan a).settings.softMax) (hq : ∀ e ∈ q, e.axis ≠ a)
    (hheld : (v.chan a).state ≠ .held) (hat : ¬((v.chan a).state = .idle ∧ (v.chan a).position = x.1)) :
    recallAxis r number p (recalling v q o c next) a =
      recalling v (q ++ [recallEntry r number a x.1 x.2]) (o.set a true) c next := by
  obtain ⟨t, hwork, hclamp⟩ := recallWork_place hx
  have hwork' : recallWork p (recalling v q o c next) a = .place t x.2 := hwork
  have hjoins : JoinsTail (recalling v q (o.set a true) c next) a (.move x.1) := by
    refine ⟨?_, hheld, fun ⟨hidle, hmove⟩ => hat ⟨hidle, ?_⟩⟩
    · exact List.find?_eq_none.mpr fun e he => by simpa using hq e he
    · exact (Motion.move.inj hmove).symm
  have hplaced : placedMotion (recalling v q (o.set a true) c next) a (.move t) = .move x.1 :=
    congrArg Motion.move (hclamp hsoft)
  have htail := placeEntry_tail (en := recallEntry r number a x.1 x.2) hjoins
  unfold recallAxis
  rw [hwork']
  show (placeEntry { recallEntry r number a t x.2 with
    motion := placedMotion (recalling v q (o.set a true) c next) a (.move t) } (recalling v q (o.set a true) c next)).1 = _
  rw [hplaced]
  exact congrArg Prod.fst htail

/-- The step of a recall on one axis: a demand made excess, an entry placed, or nothing (R65). -/
theorem recallAxis_step {s v : State} {r : Req} {number : Byte} {p : Picture} {a : Axis} (hv : DeliveryFrame s v)
    (hsoft : (s.chan a).settings.softMin ≤ (s.chan a).settings.softMax) {q : List Entry}
    (hjoin : ∀ x, recallTarget p s a = some x →
      (∀ e ∈ q, e.axis ≠ a) ∧ (s.chan a).state ≠ .held ∧ ¬((s.chan a).state = .idle ∧ (s.chan a).position = x.1))
    (c : RecallCtx) (next : Byte) :
    ∃ w, RecallDemand p a v w ∧ DeliveryFrame s w ∧ ∀ o,
      recallAxis r number p (recalling v q o c next) a =
        recalling w (q ++ recallPlaced r number p s a) (joined o a (recallTarget p s a).isSome) c next := by
  have hchan := hv.chan a
  cases hx : recallTarget p s a with
  | some x =>
    obtain ⟨hq, hheld, hat⟩ := hjoin x hx
    have hpresent : (v.chan a).state ≠ .absent := fun k => by
      rw [hchan] at k
      rw [recallTarget_absent k] at hx
      cases hx
    refine ⟨v, ?_, hv, fun o => ?_⟩
    · unfold RecallDemand
      split
      · exact ⟨fun k => absurd k hpresent, fun _ => rfl⟩
      · rfl
    · rw [recallPlaced, hx, recallAxis_place ((recallTarget_congr hv p a).trans hx) (hchan ▸ hsoft) hq (hchan ▸ hheld)
        (hchan ▸ hat)]
      rfl
  | none =>
    have hnone : q ++ recallPlaced r number p s a = q := by
      rw [recallPlaced, hx]
      exact List.append_nil q
    rw [hnone]
    have hv' : recallTarget p v a = none := (recallTarget_congr hv p a).trans hx
    by_cases hs : (v.chan a).state = .absent
    · cases hd : p.demandOf a with
      | some d =>
        have hshift : isShift a = true := by
          cases a with
          | sh => rfl
          | sv => rfl
          | zm => cases hd
          | fc => cases hd
        have hwork (o : PerAxis Bool) : recallWork p (recalling v q o c next) a = .wholeDemand d :=
          recallWork_whole (s := v) hs hd
        refine ⟨writeDemand a { demand := d, excess := d, current := true } v, ?_,
          hv.trans (writeDemand_delivery _ _ _), fun o => ?_⟩
        · simp only [RecallDemand, hd]
          exact ⟨fun _ => writeDemand_written hshift _ _, fun k => absurd hs k⟩
        · rw [recallAxis, hwork]
          exact writeDemand_recalling v q o c next a _
      | none =>
        have hwork (o : PerAxis Bool) : recallWork p (recalling v q o c next) a = .leave :=
          recallWork_nothing (s := v) hs hd
        refine ⟨v, by simp only [RecallDemand, hd], hv, fun o => ?_⟩
        rw [recallAxis, hwork]
        rfl
    · have hwork (o : PerAxis Bool) : recallWork p (recalling v q o c next) a = .leave :=
        recallWork_leave (s := v) hv' hs
      refine ⟨v, ?_, hv, fun o => ?_⟩
      · unfold RecallDemand
        split
        · exact ⟨fun k => absurd k hs, fun _ => rfl⟩
        · rfl
      · rw [recallAxis, hwork]
        rfl

/-- The four steps of a recall, SH first (R65). -/
theorem recallAxes_placed {s : State} {r : Req} {number : Byte} {p : Picture} {q : List Entry}
    (hsoft : ∀ a, (s.chan a).settings.softMin ≤ (s.chan a).settings.softMax)
    (hjoin : ∀ a x, recallTarget p s a = some x →
      (∀ e ∈ q, e.axis ≠ a) ∧ (s.chan a).state ≠ .held ∧ ¬((s.chan a).state = .idle ∧ (s.chan a).position = x.1))
    {s' : State} (hs : DeliveryFrame s s') (c : RecallCtx) (next : Byte) :
    ∃ u v, RecallDemand p .sh s' u ∧ RecallDemand p .sv u v ∧ DeliveryFrame s v ∧
      allAxes.foldl (recallAxis r number p) (recalling s' q noAxes c next) =
        recalling v (q ++ recallEntries r number p s)
          ⟨(recallTarget p s .sh).isSome, (recallTarget p s .sv).isSome, (recallTarget p s .zm).isSome,
            (recallTarget p s .fc).isSome⟩ c next := by
  have hafter {l : List Entry} {a : Axis} (b : Axis) (hab : b ≠ a) (h : ∀ e ∈ l, e.axis ≠ a) :
      ∀ e ∈ l ++ recallPlaced r number p s b, e.axis ≠ a := by
    intro e he
    rcases List.mem_append.mp he with he | he
    · exact h e he
    · rw [recallPlaced_axis he]
      exact hab
  have hrest (a : Axis) (x : Int × Option ShiftPart) (hx : recallTarget p s a = some x) := (hjoin a x hx).2
  have hqueue (a : Axis) (x : Int × Option ShiftPart) (hx : recallTarget p s a = some x) := (hjoin a x hx).1
  obtain ⟨u, hu, hfu, h1⟩ := recallAxis_step (r := r) (number := number) hs (hsoft .sh) (hjoin .sh) c next
  obtain ⟨v, hv, hfv, h2⟩ := recallAxis_step (r := r) (number := number) hfu (hsoft .sv)
    (q := q ++ recallPlaced r number p s .sh)
    (fun x hx => ⟨hafter .sh (by decide) (hqueue .sv x hx), hrest .sv x hx⟩) c next
  obtain ⟨w, hw, hfw, h3⟩ := recallAxis_step (r := r) (number := number) hfv (hsoft .zm)
    (q := q ++ recallPlaced r number p s .sh ++ recallPlaced r number p s .sv)
    (fun x hx => ⟨hafter .sv (by decide) (hafter .sh (by decide) (hqueue .zm x hx)), hrest .zm x hx⟩) c next
  obtain ⟨z, hz, -, h4⟩ := recallAxis_step (r := r) (number := number) hfw (hsoft .fc)
    (q := q ++ recallPlaced r number p s .sh ++ recallPlaced r number p s .sv ++ recallPlaced r number p s .zm)
    (fun x hx => ⟨hafter .zm (by decide) (hafter .sv (by decide) (hafter .sh (by decide) (hqueue .fc x hx))),
      hrest .fc x hx⟩) c next
  obtain rfl : w = v := hw
  obtain rfl : z = w := hz
  refine ⟨u, z, hu, hv, hfv, ?_⟩
  simp only [allAxes, List.foldl_cons, List.foldl_nil]
  rw [h1, h2, h3, h4, joined_all, recallEntries_eq]
  simp only [List.append_assoc]

/-- The state with the end of an open context told (R68). -/
def recallSuperseded (s : State) : State :=
  match s.recallUnit.ctx with
  | none => s
  | some c => notify c.port (recallNotice c .superseded false) s

theorem recallSuperseded_delivery (s : State) : DeliveryFrame s (recallSuperseded s) := by
  unfold recallSuperseded
  split
  · exact .refl s
  · exact notify_delivery _ _ _

/-- The end of the placing with something outstanding, and no grant (R37, R67). -/
theorem endPlacing_open {v : State} {q : List Entry} {o : PerAxis Bool} (c : RecallCtx) (next : Byte) (h : o.any = true) :
    endPlacing (recalling v q o c next) = recalling v q o { c with placing := false } next := by
  have hany : (({ c with outstanding := o, placing := false } : RecallCtx).outstanding.any || false) = true := by
    rw [Bool.or_false]
    exact h
  show recallSettle (recalling v q o { c with placing := false } next) = _
  unfold recallSettle
  exact if_pos hany

theorem any_of_isSome {f : Axis → Bool} (h : ∃ a, f a = true) : (⟨f .sh, f .sv, f .zm, f .fc⟩ : PerAxis Bool).any = true := by
  obtain ⟨a, ha⟩ := h
  unfold PerAxis.any
  cases a <;> simp [ha]

/-- The context that a RECALL opens (R66). -/
def recallOpened (r : Req) (slot : Byte) (p : Picture) (number : Byte) : RecallCtx :=
  { number := number, slot := slot, port := r.port, tag := r.tag, outstanding := noAxes
    endings := ⟨none, none, none, none⟩, kv := p.kv, kh := p.kh, cancelled := false, placing := true }

theorem openRecall_recalling (r : Req) (slot : Byte) (p : Picture) (s : State) :
    openRecall r slot p (supersedeRecall s) =
      recalling (recallSuperseded s) s.sched.queue noAxes (recallOpened r slot p s.recallUnit.nextNumber)
        (s.recallUnit.nextNumber + 1) := by
  unfold supersedeRecall recallSuperseded
  cases s.recallUnit.ctx with
  | none => rfl
  | some c => cases hp : c.port <;> simp only [hp] <;> rfl

/-- A RECALL whose entries all join the tail, with no grant (R65 to R67). -/
theorem startRecall_placed {s : State} {r : Req} {slot : Byte} {p : Picture}
    (hsoft : ∀ a, (s.chan a).settings.softMin ≤ (s.chan a).settings.softMax)
    (hjoin : ∀ a x, recallTarget p s a = some x →
      s.sched.entryOf a = none ∧ (s.chan a).state ≠ .held ∧
        ¬((s.chan a).state = .idle ∧ (s.chan a).position = x.1))
    (hg : NoGrant s) (hsome : ∃ a, (recallTarget p s a).isSome = true) :
    ∃ u v, RecallDemand p .sh (recallSuperseded s) u ∧ RecallDemand p .sv u v ∧
      startRecall r slot p s =
        recalling v (s.sched.queue ++ recallEntries r s.recallUnit.nextNumber p s)
          ⟨(recallTarget p s .sh).isSome, (recallTarget p s .sv).isSome, (recallTarget p s .zm).isSome,
            (recallTarget p s .fc).isSome⟩
          { recallOpened r slot p s.recallUnit.nextNumber with placing := false } (s.recallUnit.nextNumber + 1) ∧
      v.sched = s.sched := by
  obtain ⟨u, v, hu, hv, hframe, hplaced⟩ := recallAxes_placed (r := r) (number := s.recallUnit.nextNumber)
    (q := s.sched.queue) hsoft
    (fun a x hx => ⟨fun e he => by simpa using List.find?_eq_none.mp (hjoin a x hx).1 e he, (hjoin a x hx).2⟩)
    (recallSuperseded_delivery s) (recallOpened r slot p s.recallUnit.nextNumber) (s.recallUnit.nextNumber + 1)
  refine ⟨u, v, hu, hv, ?_, hframe.sched⟩
  unfold startRecall
  dsimp only
  rw [openRecall_recalling, hplaced, endPlacing_open _ _ (any_of_isSome hsome)]
  exact grantPass_none ((hg.delivered hframe).of_eq rfl rfl rfl rfl)

/-- A RECALL with nothing to place closes its context at once (R65 to R67). -/
theorem startRecall_nothing {s : State} {r : Req} {slot : Byte} {p : Picture}
    (hwork : ∀ a, recallWork p s a = .leave) (hctx : s.recallUnit.ctx = none) (hq : s.sched.queue = [])
    (hh : s.sched.held = []) :
    startRecall r slot p s =
      closeRecall { recallOpened r slot p s.recallUnit.nextNumber with placing := false }
        (s.withRecall
          { ctx := some { recallOpened r slot p s.recallUnit.nextNumber with placing := false }
            nextNumber := s.recallUnit.nextNumber + 1 }) := by
  have hsuper : supersedeRecall s = s := by simp only [supersedeRecall, hctx]
  have hleave (a : Axis) : recallAxis r s.recallUnit.nextNumber p (openRecall r slot p s) a = openRecall r slot p s := by
    have hwork' : recallWork p (openRecall r slot p s) a = .leave := hwork a
    rw [recallAxis, hwork']
  have hclose := closeRecall_delivery { recallOpened r slot p s.recallUnit.nextNumber with placing := false }
    (s.withRecall
      { ctx := some { recallOpened r slot p s.recallUnit.nextNumber with placing := false }
        nextNumber := s.recallUnit.nextNumber + 1 })
  unfold startRecall
  simp only [hsuper, allAxes, List.foldl_cons, List.foldl_nil, hleave]
  refine (grantPass_empty (s := endPlacing (openRecall r slot p s)) ?_ ?_).trans rfl
  · exact (congrArg Scheduler.queue hclose.sched).trans hq
  · exact (congrArg Scheduler.held hclose.sched).trans hh

/-- A context that closes without being cancelled writes its keystone and tells its outcome (R67). -/
theorem closeRecall_writes {c : RecallCtx} (h : c.cancelled = false) (s : State) :
    closeRecall c s =
      notify c.port (recallNotice c (recallOutcome c) true)
        (writeInputs { s.geom.inputs with kv := c.kv, kh := c.kh, keystoneClamped := false }
          (s.withRecall { s.recallUnit with ctx := none })) := by
  unfold closeRecall
  rw [h]
  rfl

theorem notify_inputs (p : Port) (n : Notice) (s : State) : (notify p n s).geom.inputs = s.geom.inputs := by
  cases p <;> rfl

theorem notify_port_same (p : Port) (n : Notice) (s : State) :
    (notify p n s).port p = ((s.port p).notice n).raise (noticeEvent n) := by
  cases p <;> rfl

/-- Settles O49: the checks in order, the numbers of the context, and the two placings. -/
theorem recallTaken : Obligations.RecallTaken := by
  intro s r n ht hn
  rw [recall_exec ht hn]
  refine ⟨fun hp => by rw [if_pos hp], fun hp hm => ?_, fun p hp hm => ⟨fun href => ?_, fun href hsoft => ?_,
    fun habs hsh hsv hctx hq hh => ?_⟩⟩
  · rw [hp, hm]
    rfl
  · rw [hp, hm]
    simp only [(any_notReferenced s).mpr href, if_true]
    rfl
  · have hno : (allAxes.any fun a => decide ((s.chan a).state ≠ .absent) && !(s.chan a).referenced) = false := by
      rw [← Bool.not_eq_true, any_notReferenced]
      rintro ⟨a, hpresent, hunref⟩
      rcases href a with k | k
      · exact hpresent k
      · rw [hunref] at k
        cases k
    rw [hp, hm]
    simp only [hno, Bool.false_eq_true, if_false, recallClamped_eq hsoft]
    have hnumbers := startRecall_numbers r n p s
    refine ⟨⟨_, rfl, hnumbers.next, hnumbers.ctx⟩, fun hjoin hg hsome s' hs' => ?_⟩
    obtain ⟨u, v, hu, hv, hstart, hsched⟩ := startRecall_placed (r := r) (slot := n) hsoft hjoin hg hsome
    have hsuper : s' = recallSuperseded s := by
      rw [hs']
      unfold recallSuperseded
      cases s.recallUnit.ctx <;> rfl
    refine ⟨u, v, hsuper ▸ hu, hv, ?_⟩
    rw [hstart, recalling, hsched]
    rfl
  · have hwork (a : Axis) : recallWork p s a = .leave := by
      refine recallWork_nothing (habs a) ?_
      cases a with
      | sh => exact hsh
      | sv => exact hsv
      | zm => rfl
      | fc => rfl
    have hno : (allAxes.any fun a => decide ((s.chan a).state ≠ .absent) && !(s.chan a).referenced) = false := by
      simp [habs]
    have hclamps : allAxes.any (recallClamps p s) = false := by
      simp only [recallClamps, hwork, List.any_eq_false]
      exact fun _ _ k => nomatch k
    rw [hp, hm]
    simp only [hno, Bool.false_eq_true, if_false, hclamps, startRecall_nothing hwork hctx hq hh]
    have hframe := closeRecall_delivery { recallOpened r n p s.recallUnit.nextNumber with placing := false }
      (s.withRecall
        { ctx := some { recallOpened r n p s.recallUnit.nextNumber with placing := false }
          nextNumber := s.recallUnit.nextNumber + 1 })
    refine ⟨_, rfl, closeRecall_recallUnit _ _, ?_, hframe.axes, hframe.sched, ?_⟩
    · rw [closeRecall_writes (by rfl), notify_inputs]
      exact writeInputs_inputs _ _
    · rw [closeRecall_writes (by rfl)]
      refine (notify_port_same r.port _ _).trans ?_
      rw [writeInputs_port]
      cases r.port <;> rfl

end Sys2Proof.Machine
end

section
/-! PROOFS. The end of a compute (R86, R94) and the grid stream (R87, R96 to R104, R191). -/

namespace Sys2Proof.Machine

/-! ### The end of a compute -/

theorem exchange_exchanged (n : BankName) (s : State) : Exchanged n s (exchange n .both s) where
  live := rfl
  bank := by cases n <;> rfl
  other m hm := by cases n <;> cases m <;> first | rfl | exact absurd rfl hm
  engine := rfl
  told p := by cases p <;> rfl
  rest := rfl

theorem exec_computeComplete {s : State} (h : s.powered = true) : exec .computeComplete s = .next (computeDone s) :=
  event_taken h computeDone

theorem computeDone_computing {s : State} {n : BankName} {i : Inputs} (he : s.geom.engine = .computing)
    (hb : s.geom.bank = some n) (hi : s.geom.snapshot = some i) : computeDone s = completeCompute n i s := by
  simp only [computeDone, he, hb, hi]

theorem computeDone_other {s : State} (he : s.geom.engine ≠ .computing) : computeDone s = s := by
  unfold computeDone
  split
  case h_1 h _ _ => exact absurd h he
  all_goals rfl

/-- A fresh compute into the bank it was computing into already (R85, R86). -/
theorem startCompute_again {s : State} {n : BankName} (he : s.geom.engine = .computing) (hb : s.geom.bank = some n) :
    startCompute n s =
      { s with
        geom := { s.geom with restart := false, snapshot := some s.geom.inputs }
        banks := s.banks.set n { s.banks.get n with state := .filling } } := by
  unfold startCompute
  rw [← he, ← hb]
  rfl

/-- Settles O51: a restart, and a kept result that waits or becomes live. -/
theorem computeEnds : Obligations.ComputeEnds := by
  intro s hp
  rw [exec_computeComplete hp]
  refine ⟨fun he => by rw [computeDone_other he], fun n i he hb hi => ⟨fun hr => ?_, fun hr u hu => ⟨fun hs => ?_, fun hs => ?_⟩⟩⟩
  · rw [computeDone_computing he hb hi, completeCompute, if_pos hr, startCompute_again he hb]
  · have hwait : (s.presence.present && decide (s.stream.mode ≠ .off)) = true := by
      rw [hs.1, decide_eq_true hs.2]
      rfl
    rw [computeDone_computing he hb hi, completeCompute, hr, hu]
    simp only [hwait, if_true]
    rfl
  · have hlive : (s.presence.present && decide (s.stream.mode ≠ .off)) = false := by
      rcases hs with h | h <;> simp [h]
    refine ⟨exchange n .both u, ?_, exchange_exchanged n u⟩
    rw [exec_computeComplete hp, computeDone_computing he hb hi, completeCompute, hr, hu]
    simp only [hlive]
    rfl

/-! ### Words -/

theorem wordOf_toNat {high low : Nat} (hh : high < 65536) (hl : low < 65536) :
    (wordOf high low).toNat = high * 65536 + low := by
  rw [wordOf, BitVec.toNat_ofNat, Nat.mod_eq_of_lt hh, Nat.mod_eq_of_lt hl, Nat.mod_eq_of_lt (by omega)]

theorem headerZero_toNat (n : BankName) (gen : Half) :
    (headerZero n gen).toNat = (0xFF00 + bankBit n) * 65536 + gen.toNat := by
  have hn : bankBit n ≤ 1 := by cases n <;> decide
  exact wordOf_toNat (by omega) gen.isLt

theorem pointWord_toNat {b : Bank} {i : Nat} {p : Point} (h : b.points[i]? = some p) (hx : 0 ≤ p.x ∧ p.x < 65536)
    (hy : 0 ≤ p.y ∧ p.y < 65536) : (pointWord b i).toNat = p.x.toNat * 65536 + p.y.toNat := by
  rw [pointWord, h]
  exact wordOf_toNat (by omega) (by omega)

/-! ### A frame sent -/

theorem exec_frameStrobe {s : State} (h : s.powered = true) : exec .frameStrobe s = .next (frameStrobe s) :=
  event_taken h frameStrobe

theorem exec_bandStrobe {s : State} (h : s.powered = true) : exec .bandStrobe s = .next (bandStrobe s) :=
  event_taken h bandStrobe

theorem exec_streamWordSent {s : State} (h : s.powered = true) : exec .streamWordSent s = .next (wordSent s) :=
  event_taken h wordSent

theorem frameStart_valid {s : State} {n : BankName} (h : s.banks.live = some n) (hv : (s.banks.get n).state = .valid) :
    frameStart s = .bank n (s.banks.get n).generation := by
  simp only [frameStart, h, hv, if_true]

theorem frameStart_none {s : State} (h : ∀ n, s.banks.live = some n → (s.banks.get n).state ≠ .valid) :
    frameStart s = .empty := by
  unfold frameStart
  split
  · next n hn => exact if_neg (h n hn)
  · rfl

/-! What is on the output, and what the end of a word does, by what is being sent. -/

theorem streamBank_some {s : State} {n : BankName} (h : s.stream.frameBank = some n) : streamBank s = n := by
  rw [streamBank, h]
  rfl

theorem currentWord_header {s : State} {n : BankName} (ha : s.stream.activity = .header)
    (hb : s.stream.frameBank = some n) :
    currentWord s = headerWord n s.stream.frameGen (s.banks.get n) s.stream.wordCount := by
  simp only [currentWord, ha, streamBank_some hb]

theorem currentWord_points {s : State} {n : BankName} (ha : s.stream.activity = .points)
    (hb : s.stream.frameBank = some n) : currentWord s = pointWord (s.banks.get n) (s.stream.wordCount - 4) := by
  simp only [currentWord, ha, streamBank_some hb]

theorem currentWord_row {s : State} {n : BankName} (ha : s.stream.activity = .row)
    (hb : s.stream.frameBank = some n) :
    currentWord s =
      if s.stream.wordCount = 0 then rowWord (s.stream.rowPtr - 1) s.stream.frameGen
      else pointWord (s.banks.get n) ((s.stream.rowPtr - 1) * (s.banks.get n).g + (s.stream.wordCount - 1)) := by
  simp only [currentWord, ha, streamBank_some hb]

theorem sending_iff {st : Stream} : st.sending = true ↔ st.activity ≠ .idle := by
  simp [Stream.sending]

theorem sending_idle {st : Stream} (h : st.activity = .idle) : st.sending = false := by
  simp [Stream.sending, h]

theorem wordSent_next {s : State} (hf : s.stream.finishing = none) (ha : s.stream.activity ≠ .idle) :
    wordSent s =
      afterWord
        (s.withStream { s.stream with lastWord := some (currentWord s), wordCount := s.stream.wordCount + 1 }) := by
  simp only [wordSent, hf, sending_iff.mpr ha, if_true]

theorem afterWord_header {s : State} (ha : s.stream.activity = .header) (hm : s.stream.mode = .frame) :
    afterWord s = if s.stream.wordCount < 4 then s else s.withStream { s.stream with activity := .points } := by
  simp only [afterWord, ha, hm, reduceCtorEq, if_false]

theorem afterWord_points {s : State} {n : BankName} (ha : s.stream.activity = .points)
    (hb : s.stream.frameBank = some n) :
    afterWord s =
      if s.stream.wordCount < 4 + (s.banks.get n).g * (s.banks.get n).g then s
      else s.withStream { s.stream with activity := .idle, frameBank := none } := by
  simp only [afterWord, ha, streamBank_some hb]

theorem afterWord_row {s : State} {n : BankName} (ha : s.stream.activity = .row) (hb : s.stream.frameBank = some n) :
    afterWord s = if s.stream.wordCount < (s.banks.get n).g + 1 then s else endBandSend s := by
  simp only [afterWord, ha, streamBank_some hb]

/-- The words of a frame, header first (R99, R191). -/
def frameWord (n : BankName) (b : Bank) (k : Nat) : Quadword :=
  if k < 4 then headerWord n b.generation b k else pointWord b (k - 4)

/-- What is being sent when `k` words of a frame are out (R98, R99). -/
def frameActivity (b : Bank) (k : Nat) : Activity :=
  if k < 4 then .header else if k < 4 + b.g * b.g then .points else .idle

/-- The stream context with `k` words of a frame sent (R98, R99). -/
def frameSent (st : Stream) (n : BankName) (b : Bank) (k : Nat) : Stream :=
  { st with
    bandPending := false, rowPtr := 0, wordCount := k, frameGen := b.generation, activity := frameActivity b k
    frameBank := if k < 4 + b.g * b.g then some n else none
    lastWord := if k = 0 then st.lastWord else some (frameWord n b (k - 1)) }

theorem frameActivity_header {b : Bank} {k : Nat} (h : k < 4) : frameActivity b k = .header := if_pos h

theorem frameActivity_points {b : Bank} {k : Nat} (h : 4 ≤ k) (hk : k < 4 + b.g * b.g) :
    frameActivity b k = .points := by
  rw [frameActivity, if_neg (by omega), if_pos hk]

theorem frameActivity_idle {b : Bank} : frameActivity b (4 + b.g * b.g) = .idle := by
  rw [frameActivity, if_neg (by omega), if_neg (by omega)]

theorem frameActivity_sends {b : Bank} {k : Nat} (hk : k < 4 + b.g * b.g) : frameActivity b k ≠ .idle := by
  rw [frameActivity, if_pos hk]
  split <;> decide

/-- One more word of a frame, by what follows it. -/
theorem frameSent_succ {st : Stream} {n : BankName} {b : Bank} {k : Nat} {act : Activity} {bank : Option BankName}
    (ha : frameActivity b (k + 1) = act) (hb : (if k + 1 < 4 + b.g * b.g then some n else none) = bank) :
    frameSent st n b (k + 1) =
      { frameSent st n b k with
        lastWord := some (frameWord n b k), wordCount := k + 1, activity := act, frameBank := bank } := by
  rw [← ha, ← hb]
  rfl

section
variable {s : State} {n : BankName} {b : Bank}

theorem frameStrobe_begins (hm : s.stream.mode = .frame) (ha : s.stream.activity = .idle)
    (he : s.geom.engine ≠ .swapPending) (hl : s.banks.live = some n) (hb : s.banks.get n = b)
    (hv : b.state = .valid) : frameStrobe s = s.withStream (frameSent s.stream n b 0) := by
  have hstart : frameStart s = .bank n b.generation := hb ▸ frameStart_valid hl (hb ▸ hv)
  have hoff : s.stream.mode ≠ .off := by rw [hm]; decide
  have hpos : 0 < 4 + b.g * b.g := by omega
  simp only [frameStrobe, if_neg hoff, exchangePending_idle .both he, sending_idle ha, hstart, beginFrame, frameSent,
    if_pos hpos]
  rfl

/-- The word on the output is the next word of the frame (R99). -/
theorem currentWord_frame (hb : s.banks.get n = b) {k : Nat} (hk : k < 4 + b.g * b.g) :
    currentWord (s.withStream (frameSent s.stream n b k)) = frameWord n b k := by
  have hbank : (s.withStream (frameSent s.stream n b k)).stream.frameBank = some n := if_pos hk
  subst hb
  by_cases h4 : k < 4
  · rw [currentWord_header (frameActivity_header h4) hbank, frameWord, if_pos h4]
    rfl
  · rw [currentWord_points (frameActivity_points (by omega) hk) hbank, frameWord, if_neg h4]
    rfl

/-- A word of a frame goes out (R96, R99). -/
theorem wordSent_frame (hm : s.stream.mode = .frame) (hf : s.stream.finishing = none) (hb : s.banks.get n = b)
    (hg : 1 ≤ b.g) {k : Nat} (hk : k < 4 + b.g * b.g) :
    wordSent (s.withStream (frameSent s.stream n b k)) = s.withStream (frameSent s.stream n b (k + 1)) := by
  have hgg : 1 ≤ b.g * b.g := Nat.mul_le_mul hg hg
  have hbank : (frameSent s.stream n b k).frameBank = some n := if_pos hk
  refine (wordSent_next (s := s.withStream (frameSent s.stream n b k)) hf (frameActivity_sends hk)).trans ?_
  rw [currentWord_frame hb hk]
  by_cases h4 : k < 4
  · have hmore : k + 1 < 4 + b.g * b.g := by omega
    refine (afterWord_header ?_ ?_).trans ?_
    · exact frameActivity_header h4
    · exact hm
    by_cases h3 : k + 1 < 4
    · rw [frameSent_succ ((frameActivity_header h3).trans (frameActivity_header h4).symm)
        ((if_pos hmore).trans hbank.symm)]
      exact if_pos h3
    · rw [frameSent_succ (frameActivity_points (Nat.le_of_not_lt h3) hmore) ((if_pos hmore).trans hbank.symm)]
      exact if_neg h3
  · have hpoints := frameActivity_points (Nat.le_of_not_lt h4) hk
    refine (afterWord_points ?_ hbank).trans ?_
    · exact hpoints
    subst hb
    by_cases hmore : k + 1 < 4 + (s.banks.get n).g * (s.banks.get n).g
    · rw [frameSent_succ ((frameActivity_points (by omega) hmore).trans hpoints.symm)
        ((if_pos hmore).trans hbank.symm)]
      exact if_pos hmore
    · have hlast : k + 1 = 4 + (s.banks.get n).g * (s.banks.get n).g := by omega
      rw [frameSent_succ (hlast ▸ frameActivity_idle) (if_neg hmore)]
      exact if_neg hmore

/-- The strobe and `k` words after it (R98, R99). -/
theorem run_frame (hp : s.powered = true) (hm : s.stream.mode = .frame) (ha : s.stream.activity = .idle)
    (hf : s.stream.finishing = none) (he : s.geom.engine ≠ .swapPending) (hl : s.banks.live = some n)
    (hb : s.banks.get n = b) (hv : b.state = .valid) (hg : 1 ≤ b.g) {k : Nat} (hk : k ≤ 4 + b.g * b.g) :
    runAll (.frameStrobe :: List.replicate k .streamWordSent) s = .next (s.withStream (frameSent s.stream n b k)) := by
  induction k with
  | zero =>
    have hexec := exec_frameStrobe hp
    rw [frameStrobe_begins hm ha he hl hb hv] at hexec
    simp only [List.replicate_zero, runAll, hexec]
  | succ k ih =>
    have hbefore := ih (by omega)
    have hexec : exec .streamWordSent (s.withStream (frameSent s.stream n b k)) = _ := exec_streamWordSent hp
    rw [wordSent_frame hm hf hb hg hk] at hexec
    rw [List.replicate_succ', ← List.cons_append, runAll_append _ _ hbefore]
    simp only [runAll, hexec]

/-- GS_VALID is high while words of the frame are left (R191). -/
theorem gsValid_frame (hp : s.powered = true) {k : Nat} (hk : k ≤ 4 + b.g * b.g) :
    gsValid (s.withStream (frameSent s.stream n b k)) = decide (k < 4 + b.g * b.g) := by
  show (s.powered && (frameSent s.stream n b k).sending) = _
  rw [hp, Bool.true_and]
  rcases Nat.lt_or_eq_of_le hk with h | rfl
  · rw [sending_iff.mpr (frameActivity_sends h), decide_eq_true h]
  · rw [sending_idle frameActivity_idle, decide_eq_false (Nat.lt_irrefl _)]

/-- GS_DAT gives the next word, the most significant bit first (R191). -/
theorem gsDat_frame (hp : s.powered = true) (hf : s.stream.finishing = none) (hb : s.banks.get n = b) {k : Nat}
    (hk : k < 4 + b.g * b.g) {i : Nat} (hi : i < 32) :
    gsDat (s.withStream (frameSent s.stream n b k)) i = (frameWord n b k).toNat.testBit (31 - i) := by
  have hfin : (s.withStream (frameSent s.stream n b k)).stream.finishing = none := hf
  rw [gsDat, gsValid_frame hp (Nat.le_of_lt hk), decide_eq_true hk, Bool.true_and, wordOut, hfin, currentWord_frame hb hk,
    BitVec.getMsbD, decide_eq_true hi, Bool.true_and, BitVec.getLsbD]

end

/-- Settles O53: after each word the context is that of the frame with one word more. -/
theorem frameStreamed : Obligations.FrameStreamed := by
  intro s n b k hp hm ha hf he hl hb hv hw hh hg hg2 _ hpts hk
  have hrun := fun {k} => run_frame (s := s) (k := k) hp hm ha hf he hl hb hv hg
  have hend : k + 1 = 4 + b.g * b.g → (frameSent s.stream n b (k + 1)).activity = .idle :=
    fun h => h ▸ frameActivity_idle
  refine ⟨_, _, frameWord n b k, hrun hk, rfl, hrun (Nat.le_of_lt hk), (gsValid_frame hp (Nat.le_of_lt hk)).trans (decide_eq_true hk),
    fun i hi => gsDat_frame hp hf hb hk hi, gsValid_frame hp hk, fun h i => ?_, fun bank hbank => ?_,
    fun h => ⟨frameActivity_sends h, if_pos h⟩, fun h => ⟨hend h, if_neg (by omega)⟩, rfl, rfl, rfl, rfl, rfl, rfl⟩
  · rw [gsDat, gsValid_frame hp hk, decide_eq_false (by omega), Bool.false_and]
  · have hbit : bank = bankBit n := hbank.trans (by cases n <;> rfl)
    have hzero : (headerZero n b.generation).toNat = (0xFF00 + bank) * 65536 + b.generation.toNat :=
      hbit ▸ headerZero_toNat n b.generation
    refine ⟨fun h => ?_, fun h => ?_, fun h => ?_, fun h => ?_, fun p h hpt => ?_⟩
    · subst h
      exact hzero
    · subst h
      exact wordOf_toNat hw hh
    · subst h
      have hk1 : b.keystoneClamped.toNat ≤ 1 := by cases b.keystoneClamped <;> decide
      have hs1 : b.shiftClamped.toNat ≤ 1 := by cases b.shiftClamped <;> decide
      exact (wordOf_toNat (by omega) (by omega)).trans (by omega)
    · subst h
      rw [← hzero]
      exact BitVec.toNat_not
    · have hrange := hpts p (List.mem_of_getElem? hpt)
      rw [frameWord, if_neg (by omega)]
      exact pointWord_toNat hpt hrange.1 hrange.2

/-! ### SET_STREAM -/

/-- The word on the output, however it is ordered to end (R104). -/
theorem finishingWord_eq {s : State} {f : Finishing}
    (hn : s.stream.finishing = none →
      f = { word := wordOut s, strobe := false, begins := none, bands := 0, reset := false })
    (hs : ∀ g, s.stream.finishing = some g → f = g) : finishingWord s = f := by
  rw [finishingWord]
  cases h : s.stream.finishing with
  | some g => exact (hs g h).symm
  | none =>
    rw [hn h, wordOut, h]
    rfl

theorem clearStream_idle {s : State} (m : StreamMode) (ha : s.stream.activity = .idle)
    (hf : s.stream.finishing = none) :
    clearStream m s =
      s.withStream { s.stream with mode := m, frameBank := none, rowPtr := 0, bandPending := false } := by
  rw [clearStream, if_neg (by rw [sending_idle ha]; decide), Stream.cleared, ← ha, ← hf]

theorem clearStream_sending {s : State} (m : StreamMode) (ha : s.stream.activity ≠ .idle) :
    clearStream m s =
      s.withStream { s.stream with mode := m, finishing := some { finishingWord s with begins := none } } :=
  if_pos (sending_iff.mpr ha)

/-- A change of mode from FRAME or BAND clears the context, and OFF makes a pending result live (R97). -/
theorem changeMode_clears {s : State} {m : StreamMode} (hm : m ≠ s.stream.mode) (hoff : s.stream.mode ≠ .off) :
    (m ≠ .off ∨ s.geom.engine ≠ .swapPending → changeMode m s = clearStream m s) ∧
    ∀ n, m = .off → s.geom.engine = .swapPending → s.geom.bank = some n →
      changeMode m s = exchange n .both (clearStream m s) := by
  have hgeom : (clearStream .off s).geom = s.geom := by
    unfold clearStream
    split <;> rfl
  refine ⟨fun h => ?_, fun n h he hb => ?_⟩
  · by_cases ho : m = .off
    · subst ho
      rw [changeMode, if_neg hm, if_pos rfl, exchangePending_idle .both (hgeom ▸ h.resolve_left (· rfl))]
    · rw [changeMode, if_neg hm, if_neg ho, if_neg hoff]
  · subst h
    rw [changeMode, if_neg hm, if_pos rfl, exchangePending_swap .both (hgeom ▸ he) (hgeom ▸ hb)]

theorem setStream_exec {s : State} {r : Req} {c : Byte} {m : StreamMode} (ht : Takes s r .pictureOnly)
    (hc : modeOfCode c = some m) :
    exec (.setStream r c) s = .next (answered r { status := .ok } (changeMode m s)) := by
  simp only [exec, execSetStream, request_taken ht, hc]
  rfl

/-! ### The end of a word let finish -/

/-- The stream context when the word let finish is out (R104). -/
def wordFinished (st : Stream) (f : Finishing) : Stream :=
  { st.cleared with lastWord := some f.word, wordCount := if f.reset then 0 else st.wordCount + 1 }

theorem wordSent_finishing {s : State} {f : Finishing} (hf : s.stream.finishing = some f) (hb : f.bands = 0) :
    wordSent s =
      let s2 := if f.strobe then overrun .frame (s.withStream (wordFinished s.stream f))
        else s.withStream (wordFinished s.stream f)
      match f.begins with
      | some frame => beginFrame frame s2
      | none => s2 := by
  simp only [wordSent, hf, endSend, hb, strobeBands]
  rfl

theorem wordSent_unstruck {s : State} {f : Finishing} (hf : s.stream.finishing = some f) (hb : f.bands = 0)
    (hs : f.strobe = false) (hn : f.begins = none) : wordSent s = s.withStream (wordFinished s.stream f) := by
  rw [wordSent_finishing hf hb, hs, hn]
  rfl

/-! ### A frame strobe -/

theorem frameStrobe_idle {s : State} (hm : s.stream.mode ≠ .off) (ha : s.stream.activity = .idle) :
    frameStrobe s = beginFrame (frameStart (exchangePending .both s)) (exchangePending .both s) := by
  rw [frameStrobe, if_neg hm, if_neg (by rw [sending_idle ha]; decide)]

theorem frameStrobe_sending {s : State} (hm : s.stream.mode ≠ .off) (ha : s.stream.activity ≠ .idle) :
    frameStrobe s =
      (exchangePending .both s).withStream
        { (exchangePending .both s).stream with
          finishing :=
            some
              { finishingWord s with strobe := true, begins := some (frameStart (exchangePending .both s)), bands := 0 } } := by
  rw [frameStrobe, if_neg hm, if_pos (sending_iff.mpr ha)]

theorem beginFrame_empty {s : State} (ha : s.stream.activity = .idle) :
    beginFrame .empty s =
      s.withStream { s.stream with bandPending := false, rowPtr := 0, wordCount := 0, frameBank := none } := by
  simp only [beginFrame, ← ha]

/-- After an exchange the frame is the bank made live (R94, R98). -/
theorem frameStart_exchange {s : State} {n : BankName} (hv : (s.banks.get n).state = .valid) :
    frameStart (exchange n .both s) = .bank n ((exchange n .both s).banks.get n).generation := by
  have hx := exchange_exchanged n s
  refine frameStart_valid hx.live ?_
  rw [hx.bank]
  exact hv

/-- A frame strobe over a send (R104), by what begins when the word is out. -/
theorem frameStrobe_over {s : State} {f : Finishing} (hm : s.stream.mode ≠ .off) (ha : s.stream.activity ≠ .idle)
    (hn : s.stream.finishing = none →
      f = { word := wordOut s, strobe := true, begins := none, bands := 0, reset := false })
    (hs : ∀ g, s.stream.finishing = some g → f = { g with strobe := true, bands := 0 }) :
    frameStrobe s =
      (exchangePending .both s).withStream
        { (exchangePending .both s).stream with
          finishing := some { f with begins := some (frameStart (exchangePending .both s)) } } := by
  have hword : { finishingWord s with strobe := true, bands := 0 } = f := by
    cases h : s.stream.finishing with
    | some g => rw [hs g h, finishingWord, h]; rfl
    | none => rw [hn h, finishingWord, wordOut, h]; rfl
  rw [frameStrobe_sending hm ha, ← hword]

/-! ### A band strobe and the rows -/

theorem strobeBand_idle {s : State} {n : BankName} (hm : s.stream.mode = .band) (hb : s.stream.frameBank = some n)
    (ha : s.stream.activity = .idle) :
    strobeBand s =
      if s.stream.rowPtr < (s.banks.get n).g then
        s.withStream { s.stream with activity := .row, wordCount := 0, rowPtr := s.stream.rowPtr + 1 }
      else s := by
  rw [strobeBand, if_pos (by rw [hm, hb]; rfl), if_neg (by rw [sending_idle ha]; decide), serveBand,
    streamBank_some hb]

theorem strobeBand_sending {s : State} {n : BankName} (hm : s.stream.mode = .band) (hb : s.stream.frameBank = some n)
    (ha : s.stream.activity ≠ .idle) :
    strobeBand s = if s.stream.bandPending then overrun .band s else s.withStream { s.stream with bandPending := true } := by
  rw [strobeBand, if_pos (by rw [hm, hb]; rfl), if_pos (sending_iff.mpr ha)]

theorem strobeBand_none {s : State} (h : s.stream.mode ≠ .band ∨ s.stream.frameBank = none) : strobeBand s = s := by
  rw [strobeBand, if_neg]
  rcases h with h | h <;> simp [h]

theorem bandStrobe_now {s : State} (h : s.stream.finishing = none) : bandStrobe s = strobeBand s := by
  simp only [bandStrobe, h]

theorem bandStrobe_later {s : State} {f : Finishing} (h : s.stream.finishing = some f) :
    bandStrobe s = s.withStream { s.stream with finishing := some { f with bands := f.bands + 1 } } := by
  simp only [bandStrobe, h]

theorem endBandSend_still {s : State} (h : s.stream.bandPending = false) :
    endBandSend s = s.withStream { s.stream with activity := .idle } := by
  rw [endBandSend, if_neg (by rw [h]; decide)]

/-- A word of a row goes out, with no strobe pending (R100, R101). -/
theorem wordSent_row {s : State} {n : BankName} (hf : s.stream.finishing = none) (ha : s.stream.activity = .row)
    (hb : s.stream.frameBank = some n) (hp : s.stream.bandPending = false) :
    wordSent s =
      s.withStream
        { s.stream with
          lastWord := some (currentWord s), wordCount := s.stream.wordCount + 1
          activity := if s.stream.wordCount < (s.banks.get n).g then .row else .idle } := by
  rw [wordSent_next hf (by rw [ha]; decide)]
  refine (afterWord_row (n := n) ?_ ?_).trans ?_
  · exact ha
  · exact hb
  · by_cases h : s.stream.wordCount < (s.banks.get n).g
    · rw [if_pos h, ← ha]
      exact if_pos (Nat.succ_lt_succ h)
    · rw [if_neg h]
      refine (if_neg fun k => h (Nat.lt_of_succ_lt_succ k)).trans (endBandSend_still ?_)
      exact hp

theorem rowWord_toNat {row : Nat} (h : row < 256) (gen : Half) :
    (rowWord row gen).toNat = (0xFE00 + row) * 65536 + gen.toNat :=
  wordOf_toNat (by omega) gen.isLt

/-- The first clause of R97: SET_STREAM with nothing sending. -/
theorem streamSet_idle {s : State} {r : Req} {c : Byte} {m : StreamMode} (ht : Takes s r .pictureOnly)
    (hc : modeOfCode c = some m) :
    (m = s.stream.mode → exec (.setStream r c) s = .next (answered r { status := .ok } s)) ∧
    (m ≠ .off → s.stream.mode = .off →
      exec (.setStream r c) s =
        .next (answered r { status := .ok } { s with stream := { s.stream with mode := m } })) ∧
    ∀ u : State, m ≠ s.stream.mode → s.stream.mode ≠ .off → s.stream.activity = .idle → s.stream.finishing = none →
      u =
        { s with
          stream := { s.stream with mode := m, frameBank := none, rowPtr := 0, bandPending := false } } →
      (m ≠ .off ∨ s.geom.engine ≠ .swapPending →
        exec (.setStream r c) s = .next (answered r { status := .ok } u)) ∧
      ∀ n, m = .off → s.geom.engine = .swapPending → s.geom.bank = some n →
        ∃ t, exec (.setStream r c) s = .next (answered r { status := .ok } t) ∧ Exchanged n u t := by
  rw [setStream_exec ht hc]
  refine ⟨fun h => ?_, fun h ho => ?_, fun u hm hoff ha hf hu => ?_⟩
  · rw [changeMode, if_pos h]
  · rw [changeMode, if_neg (fun k => h (k.trans ho)), if_neg h, if_pos ho]
    rfl
  · obtain ⟨hclear, hswap⟩ := changeMode_clears hm hoff
    have hcleared : clearStream m s = u := (clearStream_idle m ha hf).trans hu.symm
    refine ⟨fun h => by rw [hclear h, hcleared], fun n h he hb => ⟨_, by rw [hswap n h he hb, hcleared], ?_⟩⟩
    exact exchange_exchanged n u

/-- SET_STREAM over a send (R97, R104). -/
theorem streamSet_sending {s u : State} {f : Finishing} {r : Req} {c : Byte} {m : StreamMode}
    (ht : Takes s r .pictureOnly) (hc : modeOfCode c = some m) (hm : m ≠ s.stream.mode) (hoff : s.stream.mode ≠ .off)
    (ha : s.stream.activity ≠ .idle) (hf : finishingWord s = f)
    (hu : u = { s with stream := { s.stream with mode := m, finishing := some { f with begins := none } } }) :
    (m ≠ .off ∨ s.geom.engine ≠ .swapPending →
      exec (.setStream r c) s = .next (answered r { status := .ok } u)) ∧
    ∀ n, m = .off → s.geom.engine = .swapPending → s.geom.bank = some n →
      ∃ t, exec (.setStream r c) s = .next (answered r { status := .ok } t) ∧ Exchanged n u t := by
  obtain ⟨hclear, hswap⟩ := changeMode_clears hm hoff
  have hcleared : clearStream m s = u := by
    rw [clearStream_sending m ha, hf, hu]
    rfl
  rw [setStream_exec ht hc]
  refine ⟨fun h => by rw [hclear h, hcleared], fun n h he hb => ⟨_, by rw [hswap n h he hb, hcleared], ?_⟩⟩
  exact exchange_exchanged n u

/-- Settles O54: SET_STREAM, the end of a word let finish, the strobes and the rows. -/
theorem streamRuled : Obligations.StreamRuled := by
  refine ⟨fun s r c m ht hc => streamSet_idle ht hc,
    fun s u f r c m ht hc hm hoff ha hn hs hu => streamSet_sending ht hc hm hoff ha (finishingWord_eq hn hs) hu,
    fun s v f hp hf hb st hst => ?_, fun s hp => ⟨fun hm => ?_, fun hm ha f hn hs => ?_, fun hm ha hf c hc => ?_,
      fun f hf => ?_, fun hf h => ?_, fun n hf hm hb => ⟨fun ha hrow => ?_, fun ha hrow => ?_, fun ha hpend => ?_,
        fun ha hpend => ?_, fun row ha hpend hrow hlt => ⟨fun hk _ => ?_, fun k p hk hlast hpt hx hx' hy hy' => ?_⟩⟩⟩⟩
  · rw [exec_streamWordSent hp]
    have hdone : wordFinished s.stream f = st := hst.symm
    refine ⟨fun hs hn => by rw [wordSent_unstruck hf hb hs hn, hdone]; rfl, fun hs hv => ?_⟩
    have hstruck : overrun .frame (s.withStream (wordFinished s.stream f)) = v := by
      rw [hdone, hv]
      rfl
    rw [wordSent_finishing hf hb, hs, if_pos rfl, hstruck]
    refine ⟨fun hn => by rw [hn], fun hn => ?_, fun n gen hn => ?_⟩
    · rw [hn, hv, hst]
      rfl
    · rw [hn, hv, hst]
      rfl
  · rw [exec_frameStrobe hp, frameStrobe, if_pos hm]
  · rw [exec_frameStrobe hp, frameStrobe_over hm ha hn hs]
    refine ⟨fun he => ?_, fun n he hb hv => ⟨_, exchange_exchanged n s, ?_⟩⟩
    · rw [exchangePending_idle .both he]
      exact ⟨fun n hl hv => by rw [frameStart_valid hl hv]; rfl, fun h => by rw [frameStart_none h]; rfl⟩
    · rw [exchangePending_swap .both he hb, frameStart_exchange hv]
      rfl
  · rw [exec_frameStrobe hp, frameStrobe_idle hm ha, hc]
    refine ⟨fun he => ?_, fun n he hb hv => ⟨_, exchange_exchanged n s, ?_⟩⟩
    · rw [exchangePending_idle .both he]
      refine ⟨fun n hl hv => by rw [frameStart_valid hl hv]; rfl, fun h => ?_⟩
      rw [frameStart_none h, beginFrame_empty ha]
      rfl
    · rw [exchangePending_swap .both he hb, frameStart_exchange hv]
      rfl
  · rw [exec_bandStrobe hp, bandStrobe_later hf]
    rfl
  · rw [exec_bandStrobe hp, bandStrobe_now hf, strobeBand_none h]
  · rw [exec_bandStrobe hp, bandStrobe_now hf, strobeBand_idle hm hb ha, if_pos hrow]
    rfl
  · rw [exec_bandStrobe hp, bandStrobe_now hf, strobeBand_idle hm hb ha, if_neg (Nat.not_lt.mpr hrow)]
  · rw [exec_bandStrobe hp, bandStrobe_now hf, strobeBand_sending hm hb ha, hpend]
    rfl
  · rw [exec_bandStrobe hp, bandStrobe_now hf, strobeBand_sending hm hb ha, hpend]
    rfl
  · refine ⟨rowWord row s.stream.frameGen, ?_, rowWord_toNat hlt _⟩
    have hmore : s.stream.wordCount < (s.banks.get n).g := by omega
    rw [exec_streamWordSent hp, wordSent_row hf ha hb hpend, currentWord_row ha hb, if_pos hk, if_pos hmore, hrow, hk,
      ← ha]
    rfl
  · refine ⟨pointWord (s.banks.get n) (row * (s.banks.get n).g + k), ?_, pointWord_toNat hpt ⟨hx, hx'⟩ ⟨hy, hy'⟩⟩
    rw [exec_streamWordSent hp, wordSent_row hf ha hb hpend, currentWord_row ha hb, hrow, hk]
    rfl

end Sys2Proof.Machine
end

section
/-! PROOFS. The cooling settings (R130 to R138) and the settings and inputs of the measurement unit and the tracker
(R114, R119, R122, R123, R173). -/

namespace Sys2Proof.Machine

/-- Each entry of a list is related to the one after it. -/
def Neighbours {α : Type} (R : α → α → Prop) (l : List α) : Prop :=
  ∀ (n : Nat) (x y : α), l[n]? = some x → l[n + 1]? = some y → R x y

theorem neighbours_nil {α : Type} (R : α → α → Prop) : Neighbours R [] := fun _ _ _ hx => nomatch hx

theorem neighbours_singleton {α : Type} (R : α → α → Prop) (x : α) : Neighbours R [x] := fun _ _ _ _ hy => nomatch hy

theorem neighbours_cons_cons {α : Type} {R : α → α → Prop} {x y : α} {l : List α} :
    Neighbours R (x :: y :: l) ↔ R x y ∧ Neighbours R (y :: l) := by
  refine ⟨fun h => ⟨h 0 x y rfl rfl, fun n => h (n + 1)⟩, fun ⟨hxy, h⟩ n => ?_⟩
  cases n with
  | zero =>
    intro x' y' hx hy
    cases hx
    cases hy
    exact hxy
  | succ n => exact h n

theorem neighbours_map {α β : Type} {R : β → β → Prop} (f : α → β) (l : List α) :
    Neighbours R (l.map f) ↔ Neighbours (fun x y => R (f x) (f y)) l := by
  refine ⟨fun h n x y hx hy => h n _ _ (by rw [List.getElem?_map, hx]; rfl) (by rw [List.getElem?_map, hy]; rfl),
    fun h n x y hx hy => ?_⟩
  rw [List.getElem?_map] at hx hy
  obtain ⟨a, ha, rfl⟩ := Option.map_eq_some_iff.mp hx
  obtain ⟨b, hb, rfl⟩ := Option.map_eq_some_iff.mp hy
  exact h n a b ha hb

theorem tempInRange_iff (t : Int) : tempInRange t = true ↔ -400 ≤ t ∧ t ≤ 1500 := by
  rw [tempInRange, Bool.and_eq_true, decide_eq_true_eq, decide_eq_true_eq, Config.tempMin, Config.tempMax]

/-! ### Zones and curves -/

theorem zoneInRange_iff (m : PerChan Bool) (w h c : Int) (d : Nat) :
    zoneInRange m w h c d = true ↔ m.any = true ∧ (-400 ≤ w ∧ w < h ∧ h < c ∧ c ≤ 1500) ∧ 10 ≤ d ∧ d ≤ 100 := by
  simp only [zoneInRange, Bool.and_eq_true, decide_eq_true_eq, tempInRange_iff]
  constructor
  · rintro ⟨⟨⟨⟨⟨⟨⟨hm, hw⟩, hh⟩, hc⟩, hwh⟩, hhc⟩, hd⟩, hd'⟩
    exact ⟨hm, ⟨hw.1, hwh, hhc, hc.2⟩, hd, hd'⟩
  · rintro ⟨hm, ⟨hw, hwh, hhc, hc⟩, hd, hd'⟩
    exact ⟨⟨⟨⟨⟨⟨⟨hm, by omega⟩, by omega⟩, by omega⟩, hwh⟩, hhc⟩, hd⟩, hd'⟩

theorem setZone_exec {s : State} {r : Req} {c : Byte} {z : Zone} {m : PerChan Bool} {p : ZoneParams}
    (ht : Takes s r .systemOnly) (hz : zoneOfCode c = some z) (hm : chanSetOfBits p.members = some m) :
    exec (.setZone r c p) s =
      if zoneInRange m p.warm.toInt p.hot.toInt p.crit.toInt p.derate.toNat then
        .next (answered r { status := .ok } (writeZone z m p s))
      else .next (answered r { status := .range } s) := by
  simp only [exec, execSetZone, request_taken ht, hz, hm]
  split <;> rfl

theorem curveRises_iff (l : List CurvePoint) : curveRises l = true ↔ Neighbours (fun x y => x.t < y.t ∧ x.d ≤ y.d) l := by
  induction l with
  | nil => exact iff_of_true rfl (neighbours_nil _)
  | cons x l ih =>
    cases l with
    | nil => exact iff_of_true rfl (neighbours_singleton _ x)
    | cons y l => rw [curveRises, neighbours_cons_cons, ← ih, Bool.and_eq_true, Bool.and_eq_true, decide_eq_true_eq,
        decide_eq_true_eq]

theorem curveInRange_iff (l : List PointParam) :
    curveInRange (pointsOf l) = true ↔
      (∀ p ∈ l, -400 ≤ p.t.toInt ∧ p.t.toInt ≤ 1500 ∧ p.d.toNat ≤ 100) ∧
        ∀ (n : Nat) (x y : PointParam), l[n]? = some x → l[n + 1]? = some y →
          x.t.toInt < y.t.toInt ∧ x.d.toNat ≤ y.d.toNat := by
  rw [curveInRange, Bool.and_eq_true, curveRises_iff, pointsOf, neighbours_map]
  simp [Neighbours, tempInRange_iff, and_assoc]

theorem setCurve_points {s : State} {r : Req} {b c : Byte} {o : Orientation} {z : Zone} {l : List PointParam}
    (ht : Takes s r .systemOnly) (ho : orientationOfCode b = some o) (hz : zoneOfCode c = some z) (hl : l.length = 6) :
    exec (.setCurve r b c l) s =
      if curveInRange (pointsOf l) then .next (answered r { status := .ok } (writeCurve o z (pointsOf l) s))
      else .next (answered r { status := .range } s) := by
  simp only [exec, execSetCurve, if_pos hl, request_taken ht, ho, hz]
  split <;> rfl

/-! ### Quiet mode -/

theorem setQuiet_exec {s : State} {r : Req} {b cap level : Byte} {on : Bool} (ht : portTakes s r.port = true)
    (hb : yesNoOfCode b = some on) :
    exec (.setQuiet r b cap level) s =
      .next
        (answered r (quietRequest on cap.toNat level.toNat s).2 (quietRequest on cap.toNat level.toNat s).1) := by
  simp only [exec, execSetQuiet, request_taken (c := .bothPorts) ⟨ht, rfl⟩, hb]

/-! ### Fans -/

theorem fanInRange_iff (d lo hi : Nat) :
    fanInRange d lo hi = true ↔ (10 ≤ d ∧ d ≤ 60) ∧ 100 ≤ lo ∧ lo < hi ∧ hi ≤ 20000 := by
  simp only [fanInRange, Bool.and_eq_true, decide_eq_true_eq]
  omega

theorem setFan_exec {s : State} {r : Req} {c : Byte} {f : Fan} {p : FanParams} {present : Bool} {served : PerZone Bool}
    (ht : Takes s r .systemOnly) (hf : fanOfCode c = some f) (hp : yesNoOfCode p.present = some present)
    (hs : zoneSetOfBits p.served = some served) :
    exec (.setFan r c p) s =
      if fanInRange p.minDuty.toNat p.rpmMin.toNat p.rpmMax.toNat then
        .next (answered r { status := .ok } (writeFan f present served p s))
      else .next (answered r { status := .range } s) := by
  simp only [exec, execSetFan, request_taken ht, hf, fanRequest, hp, hs]
  split <;> rfl

/-- A refresh of settled records changes nothing (R134, R144). -/
theorem Settled.refresh_eq {s : State} (h : Settled s) : coolRefresh s = s := by
  rw [coolRefresh, h.1]
  exact if_pos h.2

/-- A fan set changes the set of FAILED fans when it changes that fan alone. -/
theorem failedSetChanged_set (q : PerFan FanRec) (f : Fan) (y : FanRec) :
    failedSetChanged q (q.set f y) = ((q.get f).isFailed != y.isFailed) := by
  cases f <;> simp [failedSetChanged, allFans, PerFan.get, PerFan.set]

/-- The number of FAILED fans, fan by fan. -/
theorem failedCount_eq (q : Cooling) :
    failedCount q =
      (q.fans.f0.isFailed).toNat + (q.fans.f1.isFailed).toNat + (q.fans.f2.isFailed).toNat
        + (q.fans.f3.isFailed).toNat := by
  simp only [failedCount, ← List.countP_eq_length_filter, allFans, List.countP_cons, List.countP_nil, PerFan.get,
    Bool.toNat, Bool.cond_eq_ite]
  omega

/-- A FAILED fan that leaves takes one from the number (R142). -/
theorem failedCount_set_gone {q : Cooling} {f : Fan} {y : FanRec} (h : (q.fans.get f).isFailed = true)
    (hy : y.isFailed = false) : failedCount { q with fans := q.fans.set f y } + 1 = failedCount q := by
  rw [failedCount_eq, failedCount_eq]
  cases f <;> simp only [PerFan.get, PerFan.set] at h ⊢ <;> simp only [h, hy, Bool.toNat_true, Bool.toNat_false] <;> omega

/-- A fan is FAILED after a SET_FAN when it was and stays present (R137). -/
theorem afterSet_isFailed (x : FanRec) (present : Bool) (served : PerZone Bool) (p : FanParams) (rpm : Nat) :
    (x.afterSet present served p rpm).isFailed = (x.isFailed && present) := by
  cases h : x.present <;> cases present <;>
    simp [FanRec.afterSet, h, FanRec.absent, FanRec.fitted, FanRec.settings, FanRec.isFailed]

/-- A SET_FAN under which the set of FAILED fans stays (R137). -/
theorem writeFan_same {f : Fan} {present : Bool} {served : PerZone Bool} {p : FanParams} {s : State} {y : FanRec}
    (hy : (s.cool.fans.get f).afterSet present served p (rpmOf (s.meas.tach.get f).buckets) = y)
    (h : (s.cool.fans.get f).isFailed = y.isFailed) :
    writeFan f present served p s = coolRefresh (s.withCool { s.cool with fans := s.cool.fans.set f y }) := by
  have hsame : failedSetChanged s.cool.fans (s.cool.fans.set f y) = false := by
    rw [failedSetChanged_set, h, bne_self_eq_false]
  rw [writeFan, hy, failedSetEffects, if_neg]
  exact fun k => Bool.noConfusion (hsame.symm.trans k)

/-- A SET_FAN of a FAILED fan that leaves: its number is handed to the phase controller (R141, R142). -/
theorem writeFan_gone {f : Fan} {present : Bool} {served : PerZone Bool} {p : FanParams} {s : State} {y : FanRec}
    (hy : (s.cool.fans.get f).afterSet present served p (rpmOf (s.meas.tach.get f).buckets) = y)
    (h : (s.cool.fans.get f).isFailed = true) (hgone : y.isFailed = false)
    (hcount : s.phase.failedFans = failedCount s.cool) :
    writeFan f present served p s =
      coolRefresh
        ((s.withPhase { s.phase with failedFans := s.phase.failedFans - 1 }).withCool
          { s.cool with fans := s.cool.fans.set f y }) := by
  have hchange : failedSetChanged s.cool.fans (s.cool.fans.set f y) = true := by
    rw [failedSetChanged_set, h, hgone]
    rfl
  have hless : failedCount { s.cool with fans := s.cool.fans.set f y } = s.phase.failedFans - 1 := by
    rw [hcount]
    exact Nat.eq_sub_of_add_eq (failedCount_set_gone h hgone)
  have hhanded : failedHanded (failedCount { s.cool with fans := s.cool.fans.set f y })
        (s.withCool { s.cool with fans := s.cool.fans.set f y }) =
      (s.withPhase { s.phase with failedFans := s.phase.failedFans - 1 }).withCool
        { s.cool with fans := s.cool.fans.set f y } := by
    rw [hless, failedHanded, if_neg]
    · rfl
    · rw [Bool.and_eq_true, decide_eq_true_eq, decide_eq_true_eq]
      show ¬ (s.phase.failedFans < 2 ∧ 2 ≤ s.phase.failedFans - 1)
      omega
  rw [writeFan, hy, failedSetEffects, if_pos (by exact hchange)]
  refine (congrArg (fun t => coolRefresh (coolRefresh t)) hhanded).trans ?_
  exact (coolRefresh_settled _).refresh_eq

/-- Settles O55: each accepted set writes its record and refreshes. -/
theorem coolingWritten : Obligations.CoolingWritten := by
  refine ⟨fun s r c z m p ht hz hm => ⟨fun h => ?_, fun h => ⟨_, ?_, coolRefresh_coolSettled rfl⟩⟩,
    fun s r b c o z l ht ho hz hl => ⟨fun h => ?_, fun h => ?_⟩,
    fun s r b cap level on ht hb => ⟨fun h => ?_, fun hc hl hl' => ⟨_, ?_, coolRefresh_coolSettled rfl⟩⟩,
    fun s r c f p present served x y ht hf hp hs => ⟨fun h => ?_, fun h hx hy => ?_⟩⟩
  · rw [setZone_exec ht hz hm, if_neg (mt (zoneInRange_iff _ _ _ _ _).mp h)]
  · rw [setZone_exec ht hz hm, if_pos ((zoneInRange_iff _ _ _ _ _).mpr h)]
    rfl
  · rw [setCurve_points ht ho hz hl, if_neg (mt (curveInRange_iff l).mp h)]
  · rw [setCurve_points ht ho hz hl, if_pos ((curveInRange_iff l).mpr h)]
    cases o with
    | floor => exact ⟨_, rfl, coolRefresh_coolSettled rfl⟩
    | ceiling => exact ⟨_, rfl, coolRefresh_coolSettled rfl⟩
  · rw [setQuiet_exec ht hb, quietRequest, if_neg]
    · rfl
    · simp only [Bool.and_eq_true, decide_eq_true_eq]
      omega
  · rw [setQuiet_exec ht hb, quietRequest, if_pos (by simp [hc, hl, hl'])]
  · rw [setFan_exec ht hf hp hs, if_neg (mt (fanInRange_iff _ _ _).mp h)]
  · rw [setFan_exec ht hf hp hs, if_pos ((fanInRange_iff _ _ _).mpr h)]
    have hset : (s.cool.fans.get f).afterSet present served p (rpmOf (s.meas.tach.get f).buckets) = y := by
      rw [hy, hx]
      cases h : (s.cool.fans.get f).present <;> cases present <;> simp only [FanRec.afterSet, h, rpmOf, Nat.mul_comm] <;> rfl
    have hfailed := hset ▸ afterSet_isFailed (s.cool.fans.get f) present served p _
    refine ⟨fun hcase => ⟨_, rfl, ?_⟩, fun hgone hstate hpresent hcount => ⟨_, rfl, ?_⟩⟩
    · rw [writeFan_same hset]
      · exact coolRefresh_coolSettled rfl
      · rw [hfailed]
        rcases hcase with h | h | h <;> simp [FanRec.isFailed, h]
    · rw [writeFan_gone hset (by simp [FanRec.isFailed, hstate, hpresent]) (by rw [hfailed, hgone, Bool.and_false]) hcount]
      exact coolRefresh_coolSettled (s := s.withPhase { s.phase with failedFans := s.phase.failedFans - 1 }) rfl

/-! ### Thermistor tables -/

theorem tableFalls_iff (l : List Int) : tableFalls l = true ↔ Neighbours (fun x y => y ≤ x) l := by
  induction l with
  | nil => exact iff_of_true rfl (neighbours_nil _)
  | cons x l ih =>
    cases l with
    | nil => exact iff_of_true rfl (neighbours_singleton _ x)
    | cons y l => rw [tableFalls, neighbours_cons_cons, ← ih, Bool.and_eq_true, decide_eq_true_eq]

theorem thermTableInRange_iff (l : List Half) :
    ((l.map (·.toInt)).all tempInRange && tableFalls (l.map (·.toInt))) = true ↔
      (∀ x ∈ l, -400 ≤ x.toInt ∧ x.toInt ≤ 1500) ∧
        ∀ (n : Nat) (x y : Half), l[n]? = some x → l[n + 1]? = some y → y.toInt ≤ x.toInt := by
  rw [Bool.and_eq_true, tableFalls_iff, neighbours_map]
  simp [Neighbours, tempInRange_iff]

theorem setThermTable_exec {s : State} {r : Req} {c : Byte} {b : Bool} {l : List Half} (ht : Takes s r .systemOnly)
    (hc : tableOfCode c = some b) (hl : l.length = 17) :
    exec (.setThermTable r c l) s =
      if (l.map (·.toInt)).all tempInRange && tableFalls (l.map (·.toInt)) then
        .next (answered r { status := .ok } (writeTable b (l.map (·.toInt)) s))
      else .next (answered r { status := .range } s) := by
  simp only [exec, execSetThermTable, if_pos hl, request_taken ht, hc]
  split <;> rfl

/-! ### Comparators -/

/-- A comparator whose level, factor or input changed compares (R119). -/
theorem compare_eq {x : Comparator} {hot : Bool} (h : hot = decide (x.level < 256 * x.k)) :
    x.compare = { x with active := hot, running := if hot = x.active then x.running else hot } := by
  unfold Comparator.compare
  rw [← h]
  by_cases k : hot = x.active
  · simp only [k, if_true]
  · simp only [if_neg k]

theorem setTrip_exec {s : State} {r : Req} {c k : Byte} {x : Comp} (ht : Takes s r .systemOnly)
    (hc : compOfCode c = some x) (h1 : 1 ≤ k.toNat) (h15 : k.toNat ≤ 15) :
    exec (.setTrip r c k) s =
      .next (answered r { status := .ok }
        (s.withMeas (s.meas.setComp x (Comparator.compare { s.meas.comp x with k := k.toNat })))) := by
  simp only [exec, execSetTrip, request_taken ht, hc, decide_eq_true h1, decide_eq_true h15, Bool.and_self, if_true]
  rfl

theorem tripInputChange_exec (c : Comp) (level : Nat) (s : State) :
    exec (.tripInputChange c level) s =
      .next
        (s.withMeas
          (s.meas.setComp c
            (if s.powered then Comparator.compare { s.meas.comp c with level := level }
            else { s.meas.comp c with level := level }))) := rfl

/-! ### Tracking settings -/

theorem trackingInRange_iff (p : TrackParams) :
    trackingInRange p = true ↔
      (∀ x ∈ [(gainsOf p).g0, (gainsOf p).g1, (gainsOf p).g2, (gainsOf p).g3, (gainsOf p).g4], -512 ≤ x ∧ x ≤ 512) ∧
        p.limit.toNat ≤ 2000 ∧ p.deadband ≠ 0 := by
  have hband : p.deadband ≠ 0 ↔ 1 ≤ p.deadband.toNat := by
    rw [Nat.one_le_iff_ne_zero]
    refine not_congr ?_
    rw [← BitVec.toNat_inj]
    rfl
  rw [hband]
  simp [trackingInRange, gainInRange, gainsOf, and_assoc]

theorem setTracking_exec {s : State} {r : Req} (ht : Takes s r .systemOnly) (p : TrackParams) :
    exec (.setTracking r p) s =
      if trackingInRange p then .next (answered r { status := .ok } (writeTracking p s))
      else .next (answered r { status := .range } s) := by
  simp only [exec, execSetTracking, request_taken ht]
  split <;> rfl

theorem writeTracking_only {p : TrackParams} {s : State} (hg : gainsOf p = s.track.gains)
    (hl : p.limit.toNat = s.track.limit) :
    writeTracking p s =
      s.withTrack { s.track with gains := gainsOf p, limit := p.limit.toNat, deadband := p.deadband.toNat } := by
  rw [writeTracking, hg, hl, decide_eq_true rfl, decide_eq_true rfl]
  rfl

/-- New gains or a new limit anchor the record (R173). -/
theorem writeTracking_anchors {p : TrackParams} {s : State}
    (h : gainsOf p ≠ s.track.gains ∨ p.limit.toNat ≠ s.track.limit) :
    writeTracking p s =
      s.withTrack
        { s.track with
          gains := gainsOf p, limit := p.limit.toNat, deadband := p.deadband.toNat, base := fcBase s, applied := 0
          tRef := if s.track.lensStatus = .live ∨ s.track.lensStatus = .held then s.track.tLens else none } := by
  have hlens : tLensUsable s.track =
      if s.track.lensStatus = .live ∨ s.track.lensStatus = .held then s.track.tLens else none := by
    simp [tLensUsable, lensUsable]
  rw [writeTracking, if_neg, ← hlens]
  · rfl
  · rw [Bool.and_eq_true, decide_eq_true_eq, decide_eq_true_eq]
    exact fun k => h.elim (fun e => e k.1) fun e => e k.2

/-- Settles O56: tables, comparators, tach pulses and the tracker's settings. -/
theorem measureWritten : Obligations.MeasureWritten := by
  refine ⟨fun s r l ht hl => ⟨fun h c hc => ?_, fun h => ⟨?_, ?_⟩⟩,
    fun s r k x hot ht h1 h15 => ⟨fun hx hh => ?_, fun hx hh => ?_⟩,
    fun s c level x hot hx hh => ⟨fun hp => ?_, fun hp => ?_⟩, fun s f hp => ?_,
    fun s r p g u ht hg hu => ⟨fun h => ?_, fun h hgains hlimit => ?_, fun h hchange => ?_⟩⟩
  · have hrange := mt (thermTableInRange_iff l).mp h
    rcases hc with rfl | rfl
    · rw [setThermTable_exec ht (b := false) rfl hl, if_neg hrange]
    · rw [setThermTable_exec ht (b := true) rfl hl, if_neg hrange]
  · rw [setThermTable_exec ht (b := false) rfl hl, if_pos ((thermTableInRange_iff l).mpr h)]
    rfl
  · rw [setThermTable_exec ht (b := true) rfl hl, if_pos ((thermTableInRange_iff l).mpr h)]
    rfl
  · subst hx
    rw [setTrip_exec ht (x := .laser) rfl h1 h15, compare_eq (hot := hot) hh]
    rfl
  · subst hx
    rw [setTrip_exec ht (x := .wheel) rfl h1 h15, compare_eq (hot := hot) hh]
    rfl
  · rw [tripInputChange_exec, if_pos hp, ← hx, compare_eq (x := { x with level := level }) hh]
    rfl
  · rw [tripInputChange_exec, if_neg (by rw [hp]; decide), ← hx]
    rfl
  · exact event_taken hp fun s => s.withMeas { s.meas with tach := s.meas.tach.set f (s.meas.tach.get f).pulse }
  · rw [setTracking_exec ht, if_neg]
    subst hg
    exact mt (trackingInRange_iff p).mp h
  · subst hg
    rw [setTracking_exec ht, if_pos ((trackingInRange_iff p).mpr h), writeTracking_only hgains hlimit, hu]
    rfl
  · subst hg
    rw [setTracking_exec ht, if_pos ((trackingInRange_iff p).mpr h), writeTracking_anchors hchange, hu]
    rfl

end Sys2Proof.Machine
end

section
/-! PROOFS. What the motion side, a phase change and a park let stand: flags raised stay raised, a park that is over stays
over, the queue gains nothing, and the tracker keeps the reading of the lens. -/

namespace Sys2Proof.Machine

/-- What goes on through every operation that only grants, stops, ends and delivers (R34, R37 to R45, R157). -/
structure Onward (s t : State) : Prop where
  flags : ∀ p b, (s.port p).flags.getLsbD b = true → (t.port p).flags.getLsbD b = true
  park : s.phase.park ≠ .running → t.phase.park ≠ .running
  queue : ∀ en, en ∈ t.sched.queue → en ∈ s.sched.queue
  lens : t.track.tLens = s.track.tLens ∧ t.track.lensStatus = s.track.lensStatus

namespace Onward

theorem refl (s : State) : Onward s s := ⟨fun _ _ => id, id, fun _ => id, rfl, rfl⟩

theorem trans {s t u : State} (h : Onward s t) (k : Onward t u) : Onward s u :=
  ⟨fun p b x => k.flags p b (h.flags p b x), k.park ∘ h.park, fun en x => h.queue en (k.queue en x),
    k.lens.1.trans h.lens.1, k.lens.2.trans h.lens.2⟩

theorem after {s t u : State} (k : Onward t u) (h : Onward s t) : Onward s u := h.trans k

theorem of_eq {s t : State} (hp : ∀ p, t.port p = s.port p) (hphase : t.phase = s.phase) (hs : t.sched = s.sched)
    (ht : t.track = s.track) : Onward s t := by
  refine ⟨fun p b x => ?_, ?_, ?_, ?_⟩
  · rw [hp]
    exact x
  · rw [hphase]
    exact id
  · rw [hs]
    exact fun _ => id
  · rw [ht]
    exact ⟨rfl, rfl⟩

theorem setChan (s : State) (a : Axis) (c : Channel) : Onward s (s.setChan a c) := by
  cases a <;> exact of_eq (fun _ => rfl) rfl rfl rfl

theorem withSched {s : State} {q : Scheduler} (h : ∀ en, en ∈ q.queue → en ∈ s.sched.queue) : Onward s (s.withSched q) :=
  ⟨fun _ _ => id, id, h, rfl, rfl⟩

theorem withTrack {s : State} {x : Tracker} (h : x.tLens = s.track.tLens ∧ x.lensStatus = s.track.lensStatus) :
    Onward s (s.withTrack x) :=
  ⟨fun _ _ => id, id, fun _ => id, h⟩

theorem withPhase {s : State} {x : PhaseRec} (h : s.phase.park ≠ .running → x.park ≠ .running) :
    Onward s (s.withPhase x) :=
  ⟨fun _ _ => id, h, fun _ => id, rfl, rfl⟩

theorem withCool (s : State) (x : Cooling) : Onward s (s.withCool x) := ⟨fun _ _ => id, id, fun _ => id, rfl, rfl⟩

theorem withRecall (s : State) (x : RecallUnit) : Onward s (s.withRecall x) := ⟨fun _ _ => id, id, fun _ => id, rfl, rfl⟩

/-- A port record that keeps the flags it has. -/
theorem setPort {s : State} {p : Port} {x : PortRec}
    (h : ∀ b, (s.port p).flags.getLsbD b = true → x.flags.getLsbD b = true) : Onward s (s.setPort p x) := by
  refine ⟨fun q b k => ?_, ?_, ?_, ?_⟩
  · by_cases hq : q = p
    · subst hq
      rw [State.setPort_port_same]
      exact h b k
    · rw [State.setPort_port, if_neg hq]
      exact k
  · cases p <;> exact id
  · cases p <;> exact fun _ => id
  · cases p <;> exact ⟨rfl, rfl⟩

end Onward

theorem raise_flag (p : PortRec) (e : Event) : (p.raise e).flags.getLsbD (eventBit e) = true := by
  show (p.flags ||| eventFlag e).getLsbD _ = true
  rw [BitVec.getLsbD_or]
  cases e <;> simp [eventFlag, eventBit]

theorem raiseBoth_flag (e : Event) (s : State) (p : Port) : ((raiseBoth e s).port p).flags.getLsbD (eventBit e) = true := by
  rw [raiseBoth_port]
  exact raise_flag _ e

theorem raise_keeps_flag (p : PortRec) (e : Event) {b : Nat} (h : p.flags.getLsbD b = true) :
    (p.raise e).flags.getLsbD b = true := by
  show (p.flags ||| eventFlag e).getLsbD b = true
  rw [BitVec.getLsbD_or, h, Bool.true_or]

namespace Onward

theorem raiseOn (p : Port) (e : Event) (s : State) : Onward s (raiseOn p e s) :=
  setPort fun _ => raise_keeps_flag _ e

theorem raiseBoth (e : Event) (s : State) : Onward s (raiseBoth e s) := (raiseOn .system e s).trans (raiseOn .picture e _)

theorem coolRefresh (s : State) : Onward s (coolRefresh s) := by
  refine ⟨fun p b k => ?_, ?_, ?_, ?_⟩
  · rw [coolRefresh_port]
    split
    · exact k
    · exact raise_keeps_flag _ _ k
  · rw [coolRefresh_phase]
    exact id
  · rw [coolRefresh_sched]
    exact fun _ => id
  · rw [coolRefresh_track]
    exact ⟨rfl, rfl⟩

theorem notify (p : Port) (n : Notice) (s : State) : Onward s (notify p n s) := by
  refine setPort fun b h => raise_keeps_flag _ _ ?_
  unfold PortRec.notice
  split <;> exact h

theorem recompute (s : State) : Onward s (recompute s) := by
  unfold Machine.recompute
  split <;> exact of_eq (fun _ => rfl) rfl rfl rfl

theorem writeInputs (x : Inputs) (s : State) : Onward s (writeInputs x s) := by
  unfold Machine.writeInputs
  split
  · exact .refl s
  · exact (recompute _).after (of_eq (fun _ => rfl) rfl rfl rfl)

theorem writeDemand (a : Axis) (d : DemandRec) (s : State) : Onward s (writeDemand a d s) :=
  (writeInputs (s.geom.inputs.withExcess a d.excess) _).after (of_eq (fun _ => rfl) rfl rfl rfl)

/-! ### Endings delivered -/

theorem closeRecall (c : RecallCtx) (s : State) : Onward s (closeRecall c s) := by
  unfold Machine.closeRecall
  dsimp only
  refine trans ?_ (notify _ _ _)
  split
  · exact withRecall s _
  · exact (withRecall s _).trans (writeInputs _ _)

theorem recallSettle (s : State) : Onward s (recallSettle s) := by
  unfold Machine.recallSettle
  split
  · split
    · exact .refl s
    · exact closeRecall _ s
  · exact .refl s

theorem recallEnding (a : Axis) (l : Byte) (e : Ending) (s : State) : Onward s (recallEnding a l e s) := by
  unfold Machine.recallEnding
  split
  · split
    · exact (withRecall s _).trans (recallSettle _)
    · exact .refl s
  · exact .refl s

theorem parkSettle (s : State) : Onward s (parkSettle s) := by
  unfold Machine.parkSettle
  split
  · refine withPhase fun _ => ?_
    dsimp only
    split <;> decide
  · exact .refl s

theorem parkEnding (a : Axis) (n : Option Byte) (e : Ending) (s : State) : Onward s (parkEnding a n e s) := by
  unfold Machine.parkEnding
  split
  · exact (parkSettle _).after (withPhase fun h => h)
  · exact .refl s

theorem notifyMove (a : Axis) (m : MotionRec) (e : Ending) (s : State) : Onward s (notifyMove a m e s) := by
  unfold Machine.notifyMove
  split
  · exact notify _ _ _
  · exact .refl s

theorem shiftEnding (a : Axis) (m : MotionRec) (e : Ending) (s : State) : Onward s (shiftEnding a m e s) := by
  unfold Machine.shiftEnding
  split
  · split
    · exact writeDemand _ _ _
    · exact .refl s
  · exact .refl s

theorem deliverFocus (a : Axis) (m : MotionRec) (e : Ending) (s : State) : Onward s (deliverFocus a m e s) := by
  unfold Machine.deliverFocus
  split
  · refine withTrack ?_
    unfold userFocusEnding
    repeat' split
    all_goals exact ⟨rfl, rfl⟩
  · exact .refl s

theorem deliverTo (told : Told) (a : Axis) (m : MotionRec) (e : Ending) (s : State) : Onward s (deliverTo told a m e s) := by
  unfold Machine.deliverTo
  split
  · exact recallEnding _ _ _ _
  · split
    · refine withTrack ?_
      unfold trackEnding
      split <;> exact ⟨rfl, rfl⟩
    · exact parkEnding _ _ _ _
    · split
      · exact notifyMove _ _ _ _
      · exact .refl s
    · split
      · exact notifyMove _ _ _ _
      · exact .refl s

theorem deliver (told : Told) (a : Axis) (m : MotionRec) (e : Ending) (s : State) : Onward s (deliver told a m e s) :=
  ((shiftEnding a m e s).trans (deliverFocus a m e _)).trans (deliverTo told a m e _)

theorem deliverRecord (a : Axis) (e : Ending) (s : State) : Onward s (deliverRecord a e s) := by
  unfold Machine.deliverRecord
  split
  · exact (deliver _ _ _ _ _).after (withSched fun _ h => h)
  · exact .refl s

theorem endMotion (a : Axis) (c : Channel) (e : Ending) (s : State) : Onward s (endMotion a c e s) :=
  (deliverRecord a e _).after ((setChan s a c).trans (withSched fun _ h => h))

theorem settleMotion (a : Axis) (p : Progress) (s : State) : Onward s (settleMotion a p s) := by
  cases p with
  | running c => exact setChan s a c
  | ended c e => exact endMotion a c e s

/-! ### Grants and stops -/

theorem without (q : Scheduler) (a : Axis) : ∀ en, en ∈ (q.without a).queue → en ∈ q.queue :=
  fun _ h => (List.mem_filter.mp h).1

theorem grantEntry (en : Entry) (s : State) : Onward s (grantEntry en s) := by
  have hsched : Onward s (s.withSched (((s.sched.without en.axis).setRecord en.axis
      (some (recordOf en true ((s.chan en.axis).from en.origin).position))).takeSlot en.axis)) := by
    refine withSched fun e h => without s.sched en.axis e ?_
    unfold Scheduler.takeSlot at h
    split at h <;> exact h
  unfold Machine.grantEntry
  dsimp only
  split
  · exact hsched.trans (settleMotion _ _ _)
  · exact hsched.trans (setChan _ _ _)
  · exact hsched.trans (settleMotion _ _ _)

theorem resume (a : Axis) (s : State) : Onward s (resume a s) := by
  have hsched : Onward s (s.withSched ((s.sched.unheld a).takeSlot a)) := by
    refine withSched fun e h => ?_
    unfold Scheduler.takeSlot at h
    split at h <;> exact h
  unfold Machine.resume
  dsimp only
  split
  · exact withSched fun _ h => h
  · split
    · exact hsched.trans (setChan _ _ _)
    · split
      · exact hsched.trans (settleMotion _ _ _)
      · exact hsched

theorem grantPassN (n : Nat) (s : State) : Onward s (grantPassN n s) := by
  induction n generalizing s with
  | zero => exact .refl s
  | succ n ih =>
    unfold Machine.grantPassN
    split
    · split
      · exact (resume _ s).trans (ih _)
      · split
        · exact (grantEntry _ s).trans (ih _)
        · exact .refl s
    · exact .refl s

theorem grantPass (s : State) : Onward s (grantPass s) := grantPassN _ s

theorem enterHeld (a : Axis) (c : Channel) (s : State) : Onward s (enterHeld a c s) := by
  have hfree : Onward s ((s.setChan a c).withSched ((s.setChan a c).sched.freeSlot a)) :=
    (setChan s a c).trans (withSched fun _ h => h)
  unfold Machine.enterHeld
  dsimp only
  split
  · exact (grantPass _).after (hfree.trans (withSched fun _ h => h))
  · exact ((hfree.trans (setChan _ _ _)).trans (deliverRecord _ _ _)).trans (grantPass _)

theorem finishStop (a : Axis) (s : State) : Onward s (finishStop a s) := by
  unfold Machine.finishStop
  split
  · exact (endMotion _ _ _ _).trans (grantPass _)
  · exact enterHeld _ _ _

theorem orderStop (a : Axis) (k : StopCause) (s : State) : Onward s (orderStop a k s) := by
  have hdown : Onward s ((s.setChan a ((s.chan a).stopping k)).withSched (s.sched.runDownSlot a)) := by
    refine (setChan s a _).trans (withSched fun e h => ?_)
    rw [State.setChan_sched]
    exact h
  unfold Machine.orderStop
  dsimp only
  split
  · exact hdown.trans (finishStop _ _)
  · exact hdown

theorem withdrawOne (s : State) : Onward s (withdrawOne s) := by
  unfold Machine.withdrawOne
  split
  · split
    · exact orderStop _ _ s
    · exact .refl s
  · exact .refl s

theorem allowanceChanged (old : Nat) (s : State) : Onward s (allowanceChanged old s) := by
  unfold Machine.allowanceChanged
  split
  · exact grantPass s
  · exact (withdrawOne s).trans (withdrawOne _)

theorem dropHeldMotion (a : Axis) (e : Ending) (s : State) : Onward s (dropHeldMotion a e s) := by
  unfold Machine.dropHeldMotion
  refine trans ((setChan s a _).trans (withSched fun en h => ?_)) (deliverRecord a e _)
  rw [State.setChan_sched]
  exact h

theorem removeEntry (en : Entry) (e : Ending) (s : State) : Onward s (removeEntry en e s) :=
  (deliver _ _ _ _ _ : Onward _ (deliverEntry .byNotice en e _)).after (withSched (without s.sched en.axis))

/-! ### Phases -/

theorem followLines (s : State) : Onward s (followLines s) := withPhase fun h => h

theorem handTracker (p : Phase) (s : State) : Onward s (handTracker p s) := by
  unfold Machine.handTracker
  split
  · exact withTrack ⟨rfl, rfl⟩
  · exact .refl s

/-- What follows the raising of PHASE in a change of phase. -/
theorem phaseTold (p : Phase) (why : Reason) (ramp : Option Nat) (s : State) :
    Onward (Machine.raiseBoth .phase (phaseWritten p why ramp s)) (setPhase p why ramp s) :=
  ((coolRefresh _).trans (handTracker p _)).trans (allowanceChanged _ _)

theorem setPhase (p : Phase) (why : Reason) (ramp : Option Nat) (s : State) : Onward s (setPhase p why ramp s) :=
  (phaseTold p why ramp s).after ((raiseBoth .phase _).after ((followLines _).after (withPhase fun h => h)))

theorem endPark (s : State) : Onward s (endPark s) := by
  unfold Machine.endPark
  split
  · exact withPhase fun _ => nofun
  · exact .refl s

theorem enterFault (why : Reason) (s : State) : Onward s (enterFault why s) := by
  unfold Machine.enterFault
  split
  · exact .refl s
  · exact (setPhase _ _ _ _).after ((endPark _).after (withPhase fun h => h))

theorem dropParkHeld (a : Axis) (s : State) : Onward s (dropParkHeld a s) := by
  unfold Machine.dropParkHeld
  split
  · split
    · split
      · exact dropHeldMotion _ _ s
      · exact .refl s
    · exact .refl s
  · exact .refl s

theorem withdrawParkEntry (a : Axis) (s : State) : Onward s (withdrawParkEntry a s) := by
  unfold Machine.withdrawParkEntry
  split
  · split
    · exact removeEntry _ _ s
    · exact .refl s
  · exact .refl s

theorem withdrawPark (s : State) (a : Axis) : Onward s (withdrawPark s a) :=
  (withdrawParkEntry a s).trans (dropParkHeld a _)

theorem foldl {α : Type} {f : State → α → State} (hf : ∀ s x, Onward s (f s x)) (l : List α) (s : State) :
    Onward s (l.foldl f s) := by
  induction l generalizing s with
  | nil => exact .refl s
  | cons x l ih => exact (hf s x).trans (ih _)

theorem endParkForWarmup (s : State) : Onward (Machine.endPark s) (endParkForWarmup s) := by
  have hends := foldl withdrawPark allAxes (Machine.endPark s)
  unfold Machine.endParkForWarmup
  dsimp only
  split
  · exact hends.trans (grantPass _)
  · exact hends

end Onward

/-! ### Flags through an admission -/

/-- Flags raised stay raised (R184). -/
def FlagsStay (s t : State) : Prop := ∀ p b, (s.port p).flags.getLsbD b = true → (t.port p).flags.getLsbD b = true

namespace FlagsStay

theorem refl (s : State) : FlagsStay s s := fun _ _ => id

theorem trans {s t u : State} (h : FlagsStay s t) (k : FlagsStay t u) : FlagsStay s u := fun p b x => k p b (h p b x)

theorem after {s t u : State} (k : FlagsStay t u) (h : FlagsStay s t) : FlagsStay s u := h.trans k

theorem withSched (s : State) (q : Scheduler) : FlagsStay s (s.withSched q) := fun _ _ => id

theorem withPhase (s : State) (x : PhaseRec) : FlagsStay s (s.withPhase x) := fun _ _ => id

theorem foldl {α : Type} {f : State → α → State} (hf : ∀ s x, FlagsStay s (f s x)) (l : List α) (s : State) :
    FlagsStay s (l.foldl f s) := by
  induction l generalizing s with
  | nil => exact .refl s
  | cons x l ih => exact (hf s x).trans (ih _)

theorem placeHeld (en : Entry) (s : State) : FlagsStay s (placeHeld en s) := by
  have hreplace (c : Channel) (m : Option MotionRec) : FlagsStay s
      ((deliverRecord en.axis .replaced (s.setChan en.axis c)).withSched
        ((deliverRecord en.axis .replaced (s.setChan en.axis c)).sched.setRecord en.axis m)) :=
    ((Onward.setChan s en.axis c).trans (Onward.deliverRecord _ _ _)).flags
  have hdrop : FlagsStay s
      ((dropHeldMotion en.axis .replaced s).withSched ((dropHeldMotion en.axis .replaced s).sched.append en)) :=
    (Onward.dropHeldMotion en.axis .replaced s).flags
  unfold Machine.placeHeld
  dsimp only
  split
  · split
    · exact hreplace _ _
    · exact hdrop
  · split
    · exact hreplace _ _
    · exact hdrop
  · exact hdrop

theorem placeEntry (en : Entry) (s : State) : FlagsStay s (placeEntry en s).1 := by
  unfold Machine.placeEntry
  split
  · exact after (Onward.deliver _ _ _ _ _).flags (withSched s _)
  · split
    · exact placeHeld en s
    · split
      · exact ((Onward.setChan s en.axis _).trans (Onward.deliver _ _ _ _ _)).flags
      · exact withSched s _

theorem startPark (s : State) : FlagsStay s (startPark s) := by
  have hplace (targets : PerAxis (Option Nat)) (s : State) (a : Axis) : FlagsStay s (placeParkOf targets s a) := by
    unfold placeParkOf
    split
    · exact placeEntry _ s
    · exact .refl s
  unfold Machine.startPark
  refine after (Onward.grantPass _).flags (after (Onward.parkSettle _).flags (after (withPhase _ _) ?_))
  exact (foldl (hplace _) allAxes _).after (withPhase s _)

end FlagsStay

/-! ### Entries to the phases -/

/-- The motion side writes nothing of the phase record but the state of the park (R157). -/
theorem MotionFrame.phase_eq {s t : State} (h : MotionFrame s t) :
    t.phase = { s.phase with park := t.phase.park, parkSet := t.phase.parkSet, parkClean := t.phase.parkClean } := by
  rw [← h.phase]

theorem MotionFrame.latched {s t : State} (h : MotionFrame s t) : latched t = latched s := by
  rw [Machine.latched, h.meas]
  rfl

theorem LinesFollow.of_eq {s t : State} (k : LinesFollow s) (hp : t.phase = s.phase) (hl : Machine.latched t = Machine.latched s) :
    LinesFollow t := by
  constructor
  · rw [hp]
    exact k.permit
  · rw [hp]
    exact k.done
  · rw [hp, hl]
    exact k.fault

theorem LinesFollow.of_frame {s t : State} (k : LinesFollow s) (h : MotionFrame s t) : LinesFollow t := by
  constructor
  · rw [h.phase_eq]
    exact k.permit
  · rw [h.phase_eq]
    exact k.done
  · rw [h.phase_eq, h.latched]
    exact k.fault

/-- What a change of phase has brought stays through the motion side. -/
theorem Entered.of_frame {p : Phase} {why : Reason} {s t : State} (k : Entered p why s) (h : AxisFrame s t)
    (hf : FlagsStay s t) : Entered p why t where
  phase := by rw [h.frame.phase_eq]; exact k.phase
  reason := by rw [h.frame.phase_eq]; exact k.reason
  restrike := by rw [h.frame.phase_eq]; exact k.restrike
  lines := k.lines.of_frame h.frame
  told q := hf q _ (k.told q)
  settled := h.guards.settled k.settled

/-- A change of phase enters the phase (R148). -/
theorem setPhase_entered {p : Phase} {why : Reason} {ramp : Option Nat} {s : State} (h : s.phase.restrike = false) :
    Entered p why (setPhase p why ramp s) := by
  have hwritten : Entered p why (phaseRefreshed p why ramp s) := by
    constructor
    · rw [phaseRefreshed_phase]
      rfl
    · rw [phaseRefreshed_phase]
      rfl
    · rw [phaseRefreshed_phase]
      exact h
    · refine LinesFollow.of_eq (s := phaseWritten p why ramp s) (followLines_lines _) (phaseRefreshed_phase ..) ?_
      rw [Machine.latched, phaseRefreshed, coolRefresh_meas]
      rfl
    · exact fun q => (Onward.coolRefresh _).flags q _ (raiseBoth_flag _ _ q)
    · exact coolRefresh_settled _
  refine hwritten.of_frame (setPhase_axis p why ramp s) ?_
  exact ((Onward.handTracker p _).trans (Onward.allowanceChanged _ _)).flags

/-- The phase record after a change of phase, but for what the scheduler does with the park (R148, R157). -/
theorem setPhase_phase (p : Phase) (why : Reason) (ramp : Option Nat) (s : State) :
    (setPhase p why ramp s).phase =
      { (phaseWritten p why ramp s).phase with
        park := (setPhase p why ramp s).phase.park, parkSet := (setPhase p why ramp s).phase.parkSet
        parkClean := (setPhase p why ramp s).phase.parkClean } := by
  rw [← phaseRefreshed_phase]
  exact (setPhase_axis p why ramp s).frame.phase_eq

theorem setPhase_meas (p : Phase) (why : Reason) (ramp : Option Nat) (s : State) :
    (setPhase p why ramp s).meas = s.meas := by
  rw [(setPhase_axis p why ramp s).frame.meas, phaseRefreshed, coolRefresh_meas]
  rfl

theorem setPhase_readings (p : Phase) (why : Reason) (ramp : Option Nat) (s : State) :
    (setPhase p why ramp s).cool.readings = s.cool.readings := by
  rw [(setPhase_axis p why ramp s).frame.cool, phaseRefreshed, coolRefresh_cool]
  rfl

theorem setPhase_zones (p : Phase) (why : Reason) (ramp : Option Nat) (s : State) :
    (setPhase p why ramp s).cool.zones = s.cool.zones := by
  rw [(setPhase_axis p why ramp s).frame.cool, phaseRefreshed, coolRefresh_zones]
  rfl

/-- The phase record of a park begun (R156). -/
def parkBegun (s : State) : PhaseRec :=
  { s.phase with
    parkNumber := s.phase.parkNumber + 1, park := .running, parkTimer := 0
    parkSet := ⟨(parkTarget s .sh).isSome, (parkTarget s .sv).isSome, (parkTarget s .zm).isSome,
      (parkTarget s .fc).isSome⟩
    parkPlacing := true, parkClean := true }

/-- The start of a park is the motion side's work, after the park is begun and after its placing (R156). -/
theorem startPark_frames (s : State) :
    ∃ v, MotionFrame (s.withPhase (parkBegun s)) v ∧
      MotionFrame (v.withPhase { v.phase with parkPlacing := false }) (startPark s) := by
  let targets : PerAxis (Option Nat) := ⟨parkTarget s .sh, parkTarget s .sv, parkTarget s .zm, parkTarget s .fc⟩
  exact ⟨_, (SchedFrame.foldl (placeParkOf_sched targets) allAxes (s.withPhase (parkBegun s))).step.frame,
    (parkSettle_delivery _).frame.trans (grantPass_sched _).step.frame⟩

theorem startPark_phase (s : State) :
    (startPark s).phase =
      { s.phase with
        parkNumber := s.phase.parkNumber + 1, parkTimer := 0, parkPlacing := false, park := (startPark s).phase.park
        parkSet := (startPark s).phase.parkSet, parkClean := (startPark s).phase.parkClean } := by
  obtain ⟨v, h, k⟩ := startPark_frames s
  exact k.phase_eq.trans
    (congrArg
      (fun x : PhaseRec =>
        { x with
          parkPlacing := false, park := (startPark s).phase.park, parkSet := (startPark s).phase.parkSet
          parkClean := (startPark s).phase.parkClean })
      h.phase_eq)

theorem startPark_meas (s : State) : (startPark s).meas = s.meas := by
  obtain ⟨v, h, k⟩ := startPark_frames s
  exact k.meas.trans h.meas

theorem startPark_cool (s : State) : (startPark s).cool = s.cool := by
  obtain ⟨v, h, k⟩ := startPark_frames s
  exact k.cool.trans h.cool

/-- What a change of phase has brought stays through the start of a park. -/
theorem Entered.startPark {p : Phase} {why : Reason} {s : State} (k : Entered p why s) :
    Entered p why (startPark s) where
  phase := by rw [startPark_phase]; exact k.phase
  reason := by rw [startPark_phase]; exact k.reason
  restrike := by rw [startPark_phase]; exact k.restrike
  lines := by
    have hlatched : latched (Machine.startPark s) = latched s := by
      rw [latched, startPark_meas]
      rfl
    constructor
    · rw [startPark_phase]
      exact k.lines.permit
    · rw [startPark_phase]
      exact k.lines.done
    · rw [startPark_phase, hlatched]
      exact k.lines.fault
  told q := FlagsStay.startPark s q _ (k.told q)
  settled := (startPark_guards s).settled k.settled

/-- The entry to COOLDOWN (R155). -/
theorem enterCooldown_cooledDown (why : Reason) (s : State) : CooledDown why s (enterCooldown why s) := by
  have hset : Entered .cooldown why
      (setPhase .cooldown why none (s.withPhase { s.phase with coolTimer := 0, restrike := false })) :=
    setPhase_entered rfl
  have hdark {t : State} (h : Entered .cooldown why t) : t.phase.lightPermit = false ∧ t.cool.lightCap = 0 := by
    have hpermit : t.phase.lightPermit = false := by
      rw [h.lines.permit, h.phase]
      rfl
    exact ⟨hpermit, h.settled.cap_zero hpermit⟩
  by_cases hl : isLight s.phase.phase = true
  · have heq : enterCooldown why s = startPark _ := if_pos hl
    have hent : Entered .cooldown why (enterCooldown why s) := heq ▸ hset.startPark
    refine ⟨hent, ?_, hdark hent, fun _ => ⟨?_, ?_⟩, fun k => Bool.noConfusion (hl.symm.trans k)⟩
    · rw [heq, startPark_phase, setPhase_phase]
      rfl
    · rw [heq, startPark_phase, setPhase_phase]
      rfl
    · rw [heq, startPark_phase]
  · have heq : enterCooldown why s = _ := if_neg hl
    have hent : Entered .cooldown why (enterCooldown why s) := heq ▸ hset
    refine ⟨hent, ?_, hdark hent, fun k => absurd k hl, fun _ => ?_⟩
    · rw [heq, setPhase_phase]
      rfl
    · rw [heq, setPhase_phase]
      rfl

/-- The entry to FAULT from another phase: the park is over (R157, R159). -/
theorem enterFault_entered {why : Reason} {s : State} (h : s.phase.phase ≠ .fault) :
    Entered .fault why (enterFault why s) ∧ (enterFault why s).phase.park ≠ .running ∧
      (enterFault why s).phase.coolTimer = s.phase.coolTimer := by
  have heq : enterFault why s = setPhase .fault why none (endPark (s.withPhase { s.phase with restrike := false })) :=
    if_neg h
  have hdropped : (endPark (s.withPhase { s.phase with restrike := false })).phase.restrike = false ∧
      (endPark (s.withPhase { s.phase with restrike := false })).phase.park ≠ .running ∧
      (endPark (s.withPhase { s.phase with restrike := false })).phase.coolTimer = s.phase.coolTimer := by
    unfold endPark
    split
    · exact ⟨rfl, nofun, rfl⟩
    · next k => exact ⟨rfl, k, rfl⟩
  obtain ⟨hrestrike, hpark, htimer⟩ := hdropped
  rw [heq]
  refine ⟨setPhase_entered hrestrike, (Onward.setPhase _ _ _ _).park hpark, ?_⟩
  rw [setPhase_phase]
  exact htimer

end Sys2Proof.Machine
end

section
/-! PROOFS. Trip latches (R120, R121, R154), and the light requests (R150, R151, R157, R161). -/

namespace Sys2Proof.Machine

/-! ### What an entry to COOLDOWN leaves -/

theorem enterCooldown_meas (why : Reason) (s : State) : (enterCooldown why s).meas = s.meas := by
  unfold enterCooldown
  dsimp only
  split
  · rw [startPark_meas, setPhase_meas]
    rfl
  · rw [setPhase_meas]
    rfl

theorem enterCooldown_flags (why : Reason) (s : State) : FlagsStay s (enterCooldown why s) := by
  have hset : FlagsStay s (setPhase .cooldown why none (s.withPhase { s.phase with coolTimer := 0, restrike := false })) :=
    FlagsStay.after (Onward.setPhase _ _ _ _).flags (.withPhase s _)
  unfold enterCooldown
  dsimp only
  split
  · exact hset.trans (.startPark _)
  · exact hset

/-- COOLDOWN is entered from the state of another record with the phase and the park number of this one. -/
theorem CooledDown.of_eq {why : Reason} {s u t : State} (h : CooledDown why u t)
    (hp : u.phase.phase = s.phase.phase) (hn : u.phase.parkNumber = s.phase.parkNumber) : CooledDown why s t :=
  { h with
    park := fun k => hn ▸ h.park (by rw [hp]; exact k)
    noPark := fun k => hn ▸ h.noPark (by rw [hp]; exact k) }

/-! ### The setting of a latch -/

/-- The state a latch setting is handed to the phase controller in: the latch set, TRIP raised (R120). -/
def latchSet (c : Comp) (s : State) : State :=
  raiseBoth .trip (s.withMeas (s.meas.setComp c { s.meas.comp c with latch := true }))

theorem latchSet_phase (c : Comp) (s : State) : (latchSet c s).phase = s.phase := rfl

theorem latchSet_latched (c : Comp) (s : State) : latched (latchSet c s) = true := by
  cases c
  · rfl
  · exact Bool.or_true _

theorem tripLatchSet_running {c : Comp} {s : State} (hr : (s.meas.comp c).running = true)
    (hl : (s.meas.comp c).latch = false) : tripLatchSet c s = coolRefresh (tripInPhase (latchSet c s)) :=
  if_pos (by rw [hr, hl]; rfl)

theorem tripLatchSet_ignored {c : Comp} {s : State}
    (h : (s.meas.comp c).running = false ∨ (s.meas.comp c).latch = true) : tripLatchSet c s = s := by
  unfold tripLatchSet
  rcases h with h | h <;> simp [h]

theorem tripInPhase_cools {s : State}
    (h : s.phase.phase = .dark ∨ s.phase.phase = .warmup ∨ s.phase.phase = .lit) :
    tripInPhase s = enterCooldown .trip (followLines s) := by
  unfold tripInPhase
  rcases h with h | h | h <;> simp only [h]

theorem tripInPhase_cooldown {s : State} (h : s.phase.phase = .cooldown) :
    tripInPhase s =
      (followLines s).withPhase { (followLines s).phase with reason := .trip, restrike := false } := by
  simp only [tripInPhase, h]

theorem tripInPhase_stays {s : State} (h : s.phase.phase = .start ∨ s.phase.phase = .fault) :
    tripInPhase s = followLines s := by
  unfold tripInPhase
  rcases h with h | h <;> simp only [h]

theorem tripInPhase_meas (s : State) : (tripInPhase s).meas = s.meas := by
  unfold tripInPhase
  dsimp only
  split
  · rfl
  · exact enterCooldown_meas _ _
  · exact enterCooldown_meas _ _
  · exact enterCooldown_meas _ _
  · rfl
  · rfl

theorem tripInPhase_flags (s : State) : FlagsStay s (tripInPhase s) := by
  unfold tripInPhase
  dsimp only
  split
  · exact .withPhase s _
  · exact (FlagsStay.withPhase s _).trans (enterCooldown_flags _ _)
  · exact (FlagsStay.withPhase s _).trans (enterCooldown_flags _ _)
  · exact (FlagsStay.withPhase s _).trans (enterCooldown_flags _ _)
  · exact .withPhase s _
  · exact .withPhase s _

theorem tripInPhase_lines (s : State) : LinesFollow (tripInPhase s) := by
  have hlines := followLines_lines s
  unfold tripInPhase
  dsimp only
  split
  · exact hlines
  · exact (enterCooldown_cooledDown _ _).entered.lines
  · exact (enterCooldown_cooledDown _ _).entered.lines
  · exact (enterCooldown_cooledDown _ _).entered.lines
  · exact ⟨hlines.permit, hlines.done, hlines.fault⟩
  · exact hlines

/-- Every present fan is forced while a latch is set (R134, R135). -/
theorem Settled.forced_of_latched {s : State} (h : Settled s) (hl : latched s = true) {f : Fan}
    (hp : (s.cool.fans.get f).present = true) :
    (s.cool.fans.get f).commanded = 100 ∧ (s.cool.fans.get f).target = 100 := by
  have hforced : forced s f = true := by simp [forced, hp, hl]
  obtain ⟨ht, hc⟩ := ((settled_iff s).mp h).1 f hp
  refine ⟨hc hforced, ht.trans ?_⟩
  simp [fanTarget, hforced]

/-- The lines with a latch set, out of DARK and the phases with light (R162 to R164). -/
theorem followLines_latched {s : State} (hl : latched s = true) (hlight : isLight s.phase.phase = false)
    (hd : s.phase.phase ≠ .dark) :
    (followLines s).phase = { s.phase with lightPermit := false, coolDone := false, faultN := true } := by
  show ({ s.phase with
      lightPermit := isLight s.phase.phase, coolDone := decide (s.phase.phase = .dark)
      faultN := decide (s.phase.phase = .fault) || latched s } : PhaseRec) = _
  rw [hlight, hl, decide_eq_false hd, Bool.or_true]

/-- The setting of a latch, as O57 states it (R120, R154). -/
theorem tripLatchSet_set {c : Comp} {s : State} (hr : (s.meas.comp c).running = true)
    (hl : (s.meas.comp c).latch = false) {t : State} (ht : tripLatchSet c s = t) :
    t.meas = s.meas.setComp c { s.meas.comp c with latch := true } ∧
      (∀ q, (t.port q).flags.getLsbD (eventBit .trip) = true) ∧
      t.phase.faultN = true ∧
      t.phase.restrike = (s.phase.restrike && (s.phase.phase = .start || s.phase.phase = .fault)) ∧
      Settled t ∧
      (∀ f, (t.cool.fans.get f).present = true →
        (t.cool.fans.get f).commanded = 100 ∧ (t.cool.fans.get f).target = 100) ∧
      (s.phase.phase = .dark ∨ s.phase.phase = .warmup ∨ s.phase.phase = .lit → CooledDown .trip s t) ∧
      (s.phase.phase = .cooldown →
        t.phase =
          { s.phase with reason := .trip, restrike := false, lightPermit := false, coolDone := false, faultN := true }) ∧
      (s.phase.phase = .start ∨ s.phase.phase = .fault →
        t.phase = { s.phase with lightPermit := false, coolDone := false, faultN := true }) := by
  rw [tripLatchSet_running hr hl] at ht
  have hmeas : t.meas = s.meas.setComp c { s.meas.comp c with latch := true } := by
    rw [← ht, coolRefresh_meas, tripInPhase_meas]
    rfl
  have hlatched : latched t = true := by
    rw [latched, hmeas]
    exact latchSet_latched c s
  have hsettled : Settled t := ht ▸ coolRefresh_settled _
  have hphase : t.phase = (tripInPhase (latchSet c s)).phase := by rw [← ht, coolRefresh_phase]
  have hcools (h : s.phase.phase = .dark ∨ s.phase.phase = .warmup ∨ s.phase.phase = .lit) : CooledDown .trip s t := by
    have hcooled := enterCooldown_cooledDown .trip (followLines (latchSet c s))
    rw [tripInPhase_cools (s := latchSet c s) h, hcooled.entered.settled.refresh_eq] at ht
    exact (ht ▸ hcooled).of_eq rfl rfl
  have hcooldown (h : s.phase.phase = .cooldown) : t.phase =
      { s.phase with reason := .trip, restrike := false, lightPermit := false, coolDone := false, faultN := true } := by
    have hlines := followLines_latched (latchSet_latched c s) (by rw [latchSet_phase, h]; rfl) (by rw [latchSet_phase, h]; decide)
    rw [hphase, tripInPhase_cooldown (s := latchSet c s) h, State.withPhase_phase, hlines]
    rfl
  have hstays (h : s.phase.phase = .start ∨ s.phase.phase = .fault) : t.phase =
      { s.phase with lightPermit := false, coolDone := false, faultN := true } := by
    rw [hphase, tripInPhase_stays (s := latchSet c s) h, followLines_latched (latchSet_latched c s)]
    · rfl
    · rw [latchSet_phase]
      rcases h with h | h <;> rw [h] <;> rfl
    · rw [latchSet_phase]
      rcases h with h | h <;> rw [h] <;> decide
  refine ⟨hmeas, fun q => ?_, ?_, ?_, hsettled, fun f hp => hsettled.forced_of_latched hlatched hp, hcools, hcooldown,
    hstays⟩
  · rw [← ht]
    exact (Onward.coolRefresh _).flags q _ (tripInPhase_flags _ q _ (raiseBoth_flag _ _ q))
  · have hsame : latched t = latched (tripInPhase (latchSet c s)) := by
      rw [latched, ← ht, coolRefresh_meas]
      rfl
    rw [((tripInPhase_lines _).of_eq hphase hsame).fault, hlatched, Bool.or_true]
  · cases hp : s.phase.phase with
    | start => rw [hstays (.inl hp)]; exact (Bool.and_true _).symm
    | dark => rw [(hcools (.inl hp)).entered.restrike]; exact (Bool.and_false _).symm
    | warmup => rw [(hcools (.inr (.inl hp))).entered.restrike]; exact (Bool.and_false _).symm
    | lit => rw [(hcools (.inr (.inr hp))).entered.restrike]; exact (Bool.and_false _).symm
    | cooldown => rw [hcooldown hp]; exact (Bool.and_false _).symm
    | fault => rw [hstays (.inr hp)]; exact (Bool.and_true _).symm

/-! ### CLEAR_TRIP -/

theorem clearLatch_comp (m : Measure) (c x : Comp) :
    (clearLatch m c).comp x = if x = c then { m.comp x with latch := false } else m.comp x := by
  cases c <;> cases x <;> rfl

/-- The latches of a list cleared, one comparator at a time. -/
theorem clearLatches_comp (l : List Comp) (m : Measure) (x : Comp) :
    (l.foldl clearLatch m).comp x = if x ∈ l then { m.comp x with latch := false } else m.comp x := by
  induction l generalizing m with
  | nil => rfl
  | cons c l ih =>
    rw [List.foldl_cons, ih, clearLatch_comp]
    by_cases hc : x = c <;> by_cases hl : x ∈ l <;> simp [hc, hl]

/-- Clearing latches writes the comparators alone. -/
theorem clearLatches_writes (l : List Comp) (m : Measure) :
    l.foldl clearLatch m = { m with laser := (l.foldl clearLatch m).laser, wheel := (l.foldl clearLatch m).wheel } := by
  induction l generalizing m with
  | nil => rfl
  | cons c l ih =>
    refine (ih (clearLatch m c)).trans ?_
    cases c <;> rfl

theorem clearTrip_exec {s : State} {r : Req} {c : Byte} {l : List Comp} (ht : Takes s r .systemOnly)
    (hc : compsOfCode c = some l) :
    exec (.clearTrip r c) s = .next (answered r (clearTripRequest l s).2 (clearTripRequest l s).1) := by
  simp only [exec, execClearTrip, request_taken ht, hc]

theorem exec_tripLatchSet {s : State} (c : Comp) (h : s.powered = true) :
    exec (.tripLatchSet c) s = .next (tripLatchSet c s) := event_taken h (tripLatchSet c)

/-- Settles O57: the setting of a latch by phase, and the clearing of latches. -/
theorem tripsLatched : Obligations.TripsLatched := by
  refine ⟨fun s c hp => ⟨fun h => ?_, fun hr hl => ⟨_, exec_tripLatchSet c hp, tripLatchSet_set hr hl rfl⟩⟩,
    fun s r c l ht hc => ⟨fun h => ?_, fun h => ?_, fun h hcold => ?_⟩⟩
  · rw [exec_tripLatchSet c hp, tripLatchSet_ignored h]
  · have hbusy : (l.any fun c => (s.meas.comp c).latch && (s.meas.comp c).active) = true := by
      obtain ⟨x, hx, hlatch, hactive⟩ := h
      exact List.any_eq_true.mpr ⟨x, hx, by rw [hlatch, hactive]; rfl⟩
    rw [clearTrip_exec ht hc, clearTripRequest, if_pos hbusy]
    rfl
  · have hclear : (l.any fun c => (s.meas.comp c).latch) = false := List.any_eq_false.mpr fun x hx => by rw [h x hx]; decide
    have hfree : (l.any fun c => (s.meas.comp c).latch && (s.meas.comp c).active) = false :=
      List.any_eq_false.mpr fun x hx => by rw [h x hx]; exact Bool.false_ne_true
    rw [clearTrip_exec ht hc, clearTripRequest, if_neg (by rw [hfree]; decide), if_neg (by rw [hclear]; decide)]
    rfl
  · have hset : (l.any fun c => (s.meas.comp c).latch) = true := by
      obtain ⟨x, hx, hlatch⟩ := h
      exact List.any_eq_true.mpr ⟨x, hx, hlatch⟩
    have hfree : ¬ (l.any fun c => (s.meas.comp c).latch && (s.meas.comp c).active) = true := by
      rw [List.any_eq_true]
      rintro ⟨x, hx, hboth⟩
      rw [Bool.and_eq_true] at hboth
      exact Bool.noConfusion (hboth.2.symm.trans (hcold x hx hboth.1))
    refine ⟨_, followLines (s.withMeas (l.foldl clearLatch s.meas)), ?_, clearLatches_comp l s.meas, ?_,
      coolRefresh_coolSettled (s := followLines (s.withMeas (l.foldl clearLatch s.meas))) rfl⟩
    · rw [clearTrip_exec ht hc, clearTripRequest, if_neg hfree, if_pos hset]
      rfl
    · have hwrites := clearLatches_writes l s.meas
      generalize l.foldl clearLatch s.meas = m at hwrites ⊢
      rw [Bool.decide_or, Bool.or_assoc]
      conv => lhs; rw [hwrites]
      rfl

end Sys2Proof.Machine
end

section
/-! PROOFS. The light requests (R150, R151, R157, R161). -/

namespace Sys2Proof.Machine

/-! ### Changes of phase that leave the allowance -/

theorem allowanceChanged_same {old : Nat} {s : State} (h : allowance s = old) (hg : GrantsWithin s) :
    allowanceChanged old s = s := by
  have hnone : withdrawOne s = s := if_neg (Nat.not_lt.mpr hg)
  rw [allowanceChanged, if_neg (by omega), hnone, hnone]

theorem handTracker_phase (p : Phase) (s : State) : (handTracker p s).phase = s.phase := by
  unfold handTracker
  split <;> rfl

/-- A change of phase that leaves the phase allowance moves no axis (R35, R148). -/
theorem setPhase_within {p : Phase} {s : State} (why : Reason) (ramp : Option Nat)
    (ha : phaseAllowance p = phaseAllowance s.phase.phase) (hg : GrantsWithin s) :
    setPhase p why ramp s = handTracker p (phaseRefreshed p why ramp s) := by
  have hsched : (handTracker p (phaseRefreshed p why ramp s)).sched = s.sched := by
    rw [handTracker_sched, phaseRefreshed_sched]
  have hphase : (handTracker p (phaseRefreshed p why ramp s)).phase.phase = p := by
    rw [handTracker_phase, phaseRefreshed_phase]
    rfl
  have hallow : allowance (handTracker p (phaseRefreshed p why ramp s)) = allowance s := by
    rw [allowance, allowance, hsched, hphase, ha]
  have hgrants : GrantsWithin (handTracker p (phaseRefreshed p why ramp s)) := by
    rw [GrantsWithin, hallow, hsched]
    exact hg
  exact allowanceChanged_same hallow hgrants

theorem raiseBoth_writes (e : Event) (s : State) :
    raiseBoth e s = (s.withSysPort (s.sysPort.raise e)).withPicPort (s.picPort.raise e) := rfl

/-- A refresh after a change of phase writes the phase, the cooling records and the ports (R148). -/
theorem phaseRefreshed_writes (p : Phase) (why : Reason) (ramp : Option Nat) (s : State) :
    ∃ x c q r, phaseRefreshed p why ramp s = { s with phase := x, cool := c, sysPort := q, picPort := r } := by
  have hwrites (x : PhaseRec) : ∃ c q r,
      coolRefresh (raiseBoth .phase (s.withPhase x)) = { s with phase := x, cool := c, sysPort := q, picPort := r } := by
    obtain ⟨q, r, h⟩ := coolRefresh_writes (raiseBoth .phase (s.withPhase x))
    refine ⟨refreshedCool (raiseBoth .phase (s.withPhase x)), q, r, h.trans ?_⟩
    generalize refreshedCool (raiseBoth .phase (s.withPhase x)) = c
    rw [raiseBoth_writes]
    dsimp only [State.withPhase, State.withSysPort, State.withPicPort, State.withCool]
  exact ⟨_, hwrites (phaseWritten p why ramp s).phase⟩

/-! ### The light cap on the ramp -/

theorem foldl_min_le (l : List (Option Nat)) (n : Nat) : l.foldl (fun acc d => min acc (d.getD 100)) n ≤ n := by
  induction l generalizing n with
  | nil => exact Nat.le_refl n
  | cons d l ih => exact Nat.le_trans (ih _) (Nat.min_le_left _ _)

/-- In WARMUP the ramp level bounds the light cap (R143). -/
theorem Settled.cap_le_ramp {s : State} (h : Settled s) (hp : s.phase.phase = .warmup) {n : Nat}
    (hr : s.phase.rampLevel = some n) (hl : s.phase.lightPermit = true) : s.cool.lightCap ≤ n := by
  rw [← h.2, lightCapOf, if_pos hl, derates, List.foldl_cons, rampDerate, if_pos hp, hr]
  exact Nat.le_trans (foldl_min_le _ _) (Nat.min_le_right _ _)

/-- The entry to WARMUP (R152). -/
theorem enterWarmup_entered (s : State) :
    Entered .warmup .noReason (enterWarmup s) ∧ (enterWarmup s).phase.rampLevel = some 40 ∧
      (enterWarmup s).phase.rampCount = 0 ∧ (enterWarmup s).phase.lightPermit = true ∧
      (enterWarmup s).cool.lightCap ≤ 40 := by
  have hent : Entered .warmup .noReason (enterWarmup s) := setPhase_entered rfl
  have hramp : (enterWarmup s).phase.rampLevel = some 40 := by
    rw [enterWarmup, setPhase_phase]
    rfl
  have hcount : (enterWarmup s).phase.rampCount = 0 := by
    rw [enterWarmup, setPhase_phase]
    rfl
  have hpermit : (enterWarmup s).phase.lightPermit = true := by
    rw [hent.lines.permit, hent.phase]
    rfl
  exact ⟨hent, hramp, hcount, hpermit, hent.settled.cap_le_ramp hent.phase hramp hpermit⟩

/-- From DARK the entry to WARMUP moves no axis. -/
theorem enterWarmup_dark {s : State} (h : s.phase.phase = .dark) (hg : GrantsWithin s) :
    enterWarmup s =
      { s with
        phase := (enterWarmup s).phase, cool := (enterWarmup s).cool, sysPort := (enterWarmup s).sysPort
        picPort := (enterWarmup s).picPort } := by
  obtain ⟨x, c, q, r, hwrites⟩ := phaseRefreshed_writes .warmup .noReason (some Config.rampStart)
    (s.withPhase { s.phase with rampCount := 0, restrike := false })
  have hwithin : enterWarmup s = handTracker .warmup _ :=
    setPhase_within (p := .warmup) (s := s.withPhase { s.phase with rampCount := 0, restrike := false })
      .noReason (some Config.rampStart) (by rw [State.withPhase_phase, h]; rfl) hg
  rw [handTracker, if_neg (by decide), hwrites] at hwithin
  rw [hwithin]
  rfl

/-! ### The end of a park on the way to WARMUP -/

/-- No entry of an axis is a PARK entry (R157). -/
def NoParkOf (a : Axis) (s : State) : Prop := ∀ en ∈ s.sched.queue, en.axis = a → en.origin ≠ .park

theorem NoParkOf.onward {a : Axis} {s t : State} (h : NoParkOf a s) (k : Onward s t) : NoParkOf a t :=
  fun en hen => h en (k.queue en hen)

/-- Where the images differ, one image has one source. -/
theorem eq_of_map_nodup {α β : Type} {f : α → β} {l : List α} (h : (l.map f).Nodup) {x y : α} (hx : x ∈ l) (hy : y ∈ l)
    (he : f x = f y) : x = y := by
  induction l with
  | nil => nomatch hx
  | cons a l ih =>
    rw [List.map_cons, List.nodup_cons] at h
    obtain ⟨hnot, hl⟩ := h
    rcases List.mem_cons.mp hx with hxa | hxl <;> rcases List.mem_cons.mp hy with hya | hyl
    · exact hxa.trans hya.symm
    · exact absurd (hxa ▸ he ▸ List.mem_map_of_mem hyl) hnot
    · exact absurd (hya ▸ he ▸ List.mem_map_of_mem hxl) hnot
    · exact ih hl hxl hyl

/-- The entry an axis has is the only one (R27). -/
theorem OneEntry.entryOf_eq {s : State} (h : OneEntry s) {en : Entry} (hen : en ∈ s.sched.queue) :
    s.sched.entryOf en.axis = some en := by
  cases hfind : s.sched.entryOf en.axis with
  | none => exact absurd (List.find?_eq_none.mp hfind en hen) (by simp)
  | some e =>
    have haxis : e.axis = en.axis := entryOf_axis hfind
    rw [eq_of_map_nodup h (List.mem_of_find?_eq_some hfind) hen haxis]

theorem withdrawPark_noPark {s : State} (h : OneEntry s) (a : Axis) : NoParkOf a (withdrawPark s a) := by
  have hentry : NoParkOf a (withdrawParkEntry a s) := by
    unfold withdrawParkEntry
    split
    · next e he =>
      split
      · intro en hen haxis
        have haxis' : e.axis = a := entryOf_axis he
        have hmem : en ∈ (s.sched.without e.axis).queue := by
          rw [removeEntry, deliverEntry, (deliver_delivery _ _ _ _ _).sched] at hen
          exact hen
        have hother := of_decide_eq_true (List.mem_filter.mp hmem).2
        exact absurd (haxis.trans haxis'.symm) hother
      · next hp =>
        intro en hen haxis
        have hen' := h.entryOf_eq hen
        rw [haxis, he] at hen'
        cases hen'
        exact hp
    · next he =>
      intro en hen haxis
      have hen' := h.entryOf_eq hen
      rw [haxis, he] at hen'
      exact nomatch hen'
  rw [withdrawPark_eq]
  exact hentry.onward (Onward.dropParkHeld _ _)

/-- After the end of a park for WARMUP no PARK entry is queued (R157; log 38). -/
theorem endParkForWarmup_noPark {s : State} (h : OneEntry s) :
    ∀ en ∈ (endParkForWarmup s).sched.queue, en.origin ≠ .park := by
  have hfold := foldl_reaches (I := OneEntry) (P := NoParkOf) (fun s a k => (withdrawPark_sched s a).step.one k)
    (fun _ a k => withdrawPark_noPark k a) (fun s a _ _ k => k.onward (Onward.withdrawPark s a)) allAxes
    (s := endPark s) ((endPark_keeps s).one h)
  have hafter : Onward (allAxes.foldl withdrawPark (endPark s)) (endParkForWarmup s) := by
    unfold endParkForWarmup
    dsimp only
    split
    · exact Onward.grantPass _
    · exact .refl _
  intro en hen
  exact hfold.2 en.axis (by cases en.axis <;> decide) en (hafter.queue en hen) rfl

theorem endPark_park (s : State) : (endPark s).phase.park ≠ .running := by
  unfold endPark
  split
  · exact nofun
  · next h => exact h

/-! ### The requests by phase -/

theorem anyCritical_iff (s : State) : anyCritical s = true ↔ ∃ z, (s.cool.zones.get z).state = .critical := by
  rw [anyCritical, List.any_eq_true]
  refine ⟨fun ⟨z, _, h⟩ => ⟨z, of_decide_eq_true h⟩, fun ⟨z, h⟩ => ⟨z, by cases z <;> decide, decide_eq_true h⟩⟩

theorem cool_iff (s : State) : Cool s ↔ (latched s || anyCritical s) = false := by
  rw [Bool.or_eq_false_iff, Cool, ← Bool.not_eq_true (anyCritical s), anyCritical_iff, not_exists]

theorem anyHot_iff (s : State) :
    anyHot s = true ↔ ∃ z, (s.cool.zones.get z).state = .hot ∨ (s.cool.zones.get z).state = .critical := by
  rw [anyHot, List.any_eq_true]
  constructor
  · rintro ⟨z, _, h⟩
    exact ⟨z, by simpa [ZoneRec.isHot] using h⟩
  · rintro ⟨z, h⟩
    exact ⟨z, by cases z <;> decide, by simpa [ZoneRec.isHot] using h⟩

theorem z0Below_iff (limit : Int) (s : State) :
    z0Below limit s = true ↔ ∃ v, s.cool.zones.z0.temperature = some v ∧ v < limit := by
  unfold z0Below z0Temp
  cases s.cool.zones.z0.temperature with
  | none => exact ⟨nofun, fun ⟨_, h, _⟩ => nomatch h⟩
  | some v =>
    refine ⟨fun h => ⟨v, rfl, of_decide_eq_true h⟩, fun ⟨w, h, hw⟩ => ?_⟩
    cases h
    exact decide_eq_true hw

theorem not_z0Below {limit : Int} {s : State} (h : ∀ v, s.cool.zones.z0.temperature = some v → limit ≤ v) :
    z0Below limit s = false := by
  rw [← Bool.not_eq_true, z0Below_iff]
  rintro ⟨v, hv, hlt⟩
  exact absurd (h v hv) (Int.not_le.mpr hlt)

theorem exec_lightOn {s : State} {r : Req} (ht : Takes s r .systemOnly) :
    exec (.lightOn r) s = .next (answered r (lightOnRequest s).2 (lightOnRequest s).1) := request_taken ht lightOnRequest

theorem exec_lightOff {s : State} {r : Req} (ht : Takes s r .systemOnly) :
    exec (.lightOff r) s = .next (answered r { status := .ok } (lightOffEffect s)) :=
  request_taken ht fun s => (lightOffEffect s, okReply)

theorem exec_clearFault {s : State} {r : Req} (ht : Takes s r .systemOnly) :
    exec (.clearFault r) s = .next (answered r (clearFaultRequest s).2 (clearFaultRequest s).1) :=
  request_taken ht clearFaultRequest

theorem lightOnRequest_dark {s : State} (h : s.phase.phase = .dark) :
    lightOnRequest s = if latched s || anyCritical s then (s, refuse .faulted) else (enterWarmup s, okReply) := by
  simp only [lightOnRequest, h]

theorem lightOnRequest_cooldown {s : State} (h : s.phase.phase = .cooldown) :
    lightOnRequest s = if latched s || anyCritical s then (s, refuse .faulted) else lightOnCooling s := by
  simp only [lightOnRequest, h]

theorem enterWarmup_onward (s : State) : Onward s (enterWarmup s) := by
  rw [enterWarmup]
  exact (Onward.setPhase _ _ _ _).after (.withPhase id)

/-- The end of a park and the entry to WARMUP (R150, R157). -/
theorem warmupAfterPark {s : State} (h : OneEntry s) {t : State} (ht : enterWarmup (endParkForWarmup s) = t) :
    Entered .warmup .noReason t ∧ t.phase.rampLevel = some 40 ∧ t.phase.rampCount = 0 ∧ t.phase.lightPermit = true ∧
      t.cool.lightCap ≤ 40 ∧ t.phase.park ≠ .running ∧ ∀ en ∈ t.sched.queue, en.origin ≠ .park := by
  have hwarm := enterWarmup_onward (endParkForWarmup s)
  obtain ⟨hent, hlevel, hcount, hpermit, hcap⟩ := enterWarmup_entered (endParkForWarmup s)
  rw [ht] at hwarm hent hlevel hcount hpermit hcap
  refine ⟨hent, hlevel, hcount, hpermit, hcap, ?_, fun en hen => ?_⟩
  · exact hwarm.park ((Onward.endParkForWarmup s).park (endPark_park s))
  · exact endParkForWarmup_noPark h en (hwarm.queue en hen)

/-- Settles O59: LIGHT_ON, LIGHT_OFF and CLEAR_FAULT by phase. -/
theorem lightRuled : Obligations.LightRuled := by
  refine ⟨fun s r ht => ⟨fun h => ?_, fun h => ?_, fun h => ?_, fun hc h hg => ?_, fun hc h hone => ⟨fun hz => ?_, fun hz => ?_⟩⟩,
    fun s r ht => ⟨fun h => ?_, fun h => ?_, fun h => ?_⟩,
    fun s r ht => ⟨fun h => ?_, fun h => ⟨fun hbusy => ?_, fun hl hf hz => ?_⟩⟩⟩
  · rw [exec_lightOn ht, lightOnRequest, h]
    rfl
  · rw [exec_lightOn ht, lightOnRequest]
    rcases h with h | h <;> rw [h] <;> rfl
  · rw [exec_lightOn ht]
    rcases h with h | ⟨h, hhot⟩
    · rw [lightOnRequest, h]
      rfl
    · have hrefuse : (latched s || anyCritical s) = true := by
        rw [cool_iff, Bool.not_eq_false] at hhot
        exact hhot
      rcases h with h | h
      · rw [lightOnRequest_dark h, if_pos hrefuse]
        rfl
      · rw [lightOnRequest_cooldown h, if_pos hrefuse]
        rfl
  · have hcool : ¬ (latched s || anyCritical s) = true := by rw [(cool_iff s).mp hc]; decide
    obtain ⟨hent, hlevel, hcount, hpermit, hcap⟩ := enterWarmup_entered s
    refine ⟨enterWarmup s, ?_, hent, hlevel, hcount, hpermit, hcap, enterWarmup_dark h hg⟩
    rw [exec_lightOn ht, lightOnRequest_dark h, if_neg hcool]
    dsimp only [okReply]
  · have hcool : ¬ (latched s || anyCritical s) = true := by rw [(cool_iff s).mp hc]; decide
    have hone' : OneEntry (s.withPhase { s.phase with restrike := false }) := hone
    refine ⟨restrikeNow s, ?_, warmupAfterPark hone' (by rw [restrikeNow])⟩
    rw [exec_lightOn ht, lightOnRequest_cooldown h, if_neg hcool, lightOnCooling, if_pos ((z0Below_iff _ s).mpr hz)]
    dsimp only [okReply]
  · have hcool : ¬ (latched s || anyCritical s) = true := by rw [(cool_iff s).mp hc]; decide
    have hwarm : ¬ z0Below Config.restrikeTemp s = true := by rw [not_z0Below hz]; decide
    rw [exec_lightOn ht, lightOnRequest_cooldown h, if_neg hcool, lightOnCooling, if_neg hwarm]
    rfl
  · refine ⟨enterCooldown .off s, ?_, enterCooldown_cooledDown _ _⟩
    rw [exec_lightOff ht, lightOffEffect]
    rcases h with h | h <;> rw [h]
  · rw [exec_lightOff ht, lightOffEffect, h]
    rfl
  · rw [exec_lightOff ht, lightOffEffect]
    rcases h with h | h | h <;> rw [h]
  · rw [exec_clearFault ht, clearFaultRequest, if_neg h]
    rfl
  · have hrefuse : (latched s || decide (2 ≤ s.phase.failedFans) || anyHot s) = true := by
      rcases hbusy with k | k | k
      · rw [k]; rfl
      · rw [decide_eq_true k, Bool.or_true]; rfl
      · rw [(anyHot_iff s).mpr k, Bool.or_true]
    rw [exec_clearFault ht, clearFaultRequest, if_pos h, if_pos hrefuse]
    rfl
  · have htaken : ¬ (latched s || decide (2 ≤ s.phase.failedFans) || anyHot s) = true := by
      rw [hl, decide_eq_false (Nat.not_le.mpr hf), Bool.or_false, Bool.false_or, anyHot_iff]
      rintro ⟨z, k | k⟩
      · exact (hz z).1 k
      · exact (hz z).2 k
    refine ⟨enterCooldown .resume s, ?_, enterCooldown_cooledDown _ _⟩
    rw [exec_clearFault ht, clearFaultRequest, if_pos h, if_neg htaken]
    dsimp only [okReply]

end Sys2Proof.Machine
end

section
/-! PROOFS. Conversions, readings and their users, and the end of a pass (R36, R111 to R118, R127, R149). -/

namespace Sys2Proof.Machine

/-! ### Temperatures -/

theorem tempOf_eq (m : Measure) (ch : Chan) (mean : Nat) : tempOf m ch mean = ruledTemp m ch mean := by
  cases ch <;> rfl

theorem dieAllowFor_ruled (old : Nat) (t : Int) : DieRuled old t (dieAllowFor old t) := by
  unfold dieAllowFor
  refine ⟨fun h => ?_, fun h k => ⟨fun e => ?_, fun e => ?_⟩, fun h k => ?_, fun h k => ⟨fun e => ?_, fun e => ?_⟩, fun h => ?_⟩
  · rw [if_pos h]
  · rw [if_neg (Int.not_lt.mpr h), if_pos k, if_pos e]
  · rw [if_neg (Int.not_lt.mpr h), if_pos k, if_neg (by omega)]
  · rw [if_neg (by omega), if_neg (by omega), if_pos k]
  · rw [if_neg (by omega), if_neg (by omega), if_neg (by omega), if_pos k, if_pos e]
  · rw [if_neg (by omega), if_neg (by omega), if_neg (by omega), if_pos k, if_neg (by omega)]
  · rw [if_neg (by omega), if_neg (by omega), if_neg (by omega), if_neg (by omega)]

theorem MotionFrame.phase_phase {s t : State} (h : MotionFrame s t) : t.phase.phase = s.phase.phase := by
  rw [h.phase_eq]

theorem MotionFrame.phase_restrike {s t : State} (h : MotionFrame s t) : t.phase.restrike = s.phase.restrike := by
  rw [h.phase_eq]

/-! ### A reading delivered -/

/-- What the users of a channel have taken when a reading of it is delivered (R36, R118, R127). -/
structure ReadingTaken (ch : Chan) (r : Reading) (s t : State) : Prop where
  meas : t.meas = s.meas
  readings : t.cool.readings = s.cool.readings.set ch r
  zones : ∀ z, t.cool.zones.get z =
    if (s.cool.zones.get z).members.get ch then (s.cool.zones.get z).formed t.cool.readings else s.cool.zones.get z
  lens : ch = .lens → t.track = s.track.takeReading r
  die : ch = .die → t.sched.dieAllow = dieAllowOf s.sched.dieAllow r
  phase : t.phase.phase = s.phase.phase
  restrike : t.phase.restrike = s.phase.restrike

section
variable (ch : Chan) (r : Reading) (s : State)

theorem coolReading_readings : (coolReading ch r s).cool.readings = s.cool.readings.set ch r := by
  rw [coolReading, coolRefresh_cool]
  rfl

theorem coolReading_zones (z : Zone) :
    (coolReading ch r s).cool.zones.get z =
      if (s.cool.zones.get z).members.get ch then (s.cool.zones.get z).formed (coolReading ch r s).cool.readings
      else s.cool.zones.get z := by
  rw [coolReading_readings, coolReading, coolRefresh_zones]
  exact PerZone.get_map _ _ z

theorem coolReading_meas : (coolReading ch r s).meas = s.meas := coolRefresh_meas _

theorem coolReading_track : (coolReading ch r s).track = s.track := coolRefresh_track _

theorem coolReading_sched : (coolReading ch r s).sched = s.sched := coolRefresh_sched _

theorem coolReading_phase : (coolReading ch r s).phase = s.phase := coolRefresh_phase _

/-- The zones of a channel take its reading (R127). -/
theorem ReadingTaken.zoneTemp {ch : Chan} {r : Reading} {s t : State} (h : ReadingTaken ch r s t) (z : Zone)
    (hm : (s.cool.zones.get z).members.get ch = true) :
    (t.cool.zones.get z).temperature =
      zoneTemperature (s.cool.zones.get z).members (s.cool.zones.get z).crit t.cool.readings := by
  rw [h.zones, if_pos hm]
  rfl

/-- The cooling controller alone takes the reading of most channels (R118). -/
theorem coolReading_taken {ch : Chan} (hl : ch ≠ .lens) (hd : ch ≠ .die) : ReadingTaken ch r s (coolReading ch r s) where
  meas := coolReading_meas ch r s
  readings := coolReading_readings ch r s
  zones := coolReading_zones ch r s
  lens h := absurd h hl
  die h := absurd h hd
  phase := congrArg _ (coolReading_phase ch r s)
  restrike := congrArg _ (coolReading_phase ch r s)

end

/-- A new die allowance is handed to the motion side (R36, R40). -/
theorem setDieAllow_frame (n : Nat) (s : State) :
    MotionFrame (s.withSched { s.sched with dieAllow := n }) (setDieAllow n s) :=
  (allowanceChanged_sched (allowance s) _).step.frame

theorem deliverReading_taken (ch : Chan) (r : Reading) (s : State) : ReadingTaken ch r s (deliverReading ch r s) := by
  cases ch with
  | die =>
    have hframe := setDieAllow_frame (dieAllowOf (coolReading .die r s).sched.dieAllow r) (coolReading .die r s)
    have hcool : (deliverReading .die r s).cool = (coolReading .die r s).cool := hframe.cool
    refine ⟨hframe.meas.trans (coolReading_meas .die r s), ?_, fun z => ?_, nofun, fun _ => ?_, ?_, ?_⟩
    · rw [hcool]
      exact coolReading_readings .die r s
    · rw [hcool]
      exact coolReading_zones .die r s z
    · refine hframe.dieAllow.trans ?_
      show dieAllowOf (coolReading .die r s).sched.dieAllow r = _
      rw [coolReading_sched]
    · exact hframe.phase_phase.trans (congrArg PhaseRec.phase (coolReading_phase .die r s))
    · exact hframe.phase_restrike.trans (congrArg PhaseRec.restrike (coolReading_phase .die r s))
  | lens =>
    refine ⟨coolReading_meas .lens r s, coolReading_readings .lens r s, coolReading_zones .lens r s, fun _ => ?_, nofun,
      congrArg PhaseRec.phase (coolReading_phase .lens r s), congrArg PhaseRec.restrike (coolReading_phase .lens r s)⟩
    exact congrArg (·.takeReading r) (coolReading_track .lens r s)
  | laser | wheel | imager | psu | intake | exhaust | spare => exact coolReading_taken r s nofun nofun

/-! ### The end of a pass -/

/-- What the end of a pass leaves of the measurement, the cooling records and the die allowance. -/
structure PassKept (s t : State) : Prop where
  chans : t.meas.chans = s.meas.chans
  scan : t.meas.scan = s.meas.scan
  readings : t.cool.readings = s.cool.readings
  zones : t.cool.zones = s.cool.zones
  dieAllow : t.sched.dieAllow = s.sched.dieAllow

theorem PassKept.refl (s : State) : PassKept s s := ⟨rfl, rfl, rfl, rfl, rfl⟩

theorem PassKept.trans {s t u : State} (h : PassKept s t) (k : PassKept t u) : PassKept s u :=
  ⟨k.chans.trans h.chans, k.scan.trans h.scan, k.readings.trans h.readings, k.zones.trans h.zones,
    k.dieAllow.trans h.dieAllow⟩

theorem PassKept.after {s t u : State} (k : PassKept t u) (h : PassKept s t) : PassKept s u := h.trans k

theorem withPhase_pass (x : PhaseRec) (s : State) : PassKept s (s.withPhase x) := ⟨rfl, rfl, rfl, rfl, rfl⟩

theorem scanGiven_pass (b : Bool) (s : State) : PassKept s (s.withMeas { s.meas with scanGiven := b }) :=
  ⟨rfl, rfl, rfl, rfl, rfl⟩

theorem setPhase_pass (p : Phase) (why : Reason) (ramp : Option Nat) (s : State) : PassKept s (setPhase p why ramp s) where
  chans := by rw [setPhase_meas]
  scan := by rw [setPhase_meas]
  readings := setPhase_readings p why ramp s
  zones := setPhase_zones p why ramp s
  dieAllow := by rw [(setPhase_axis p why ramp s).frame.dieAllow, phaseRefreshed_sched]

theorem startPark_pass (s : State) : PassKept s (startPark s) := by
  refine ⟨by rw [startPark_meas], by rw [startPark_meas], by rw [startPark_cool], by rw [startPark_cool], ?_⟩
  obtain ⟨v, h, k⟩ := startPark_frames s
  exact k.dieAllow.trans h.dieAllow

theorem enterCooldown_pass (why : Reason) (s : State) : PassKept s (enterCooldown why s) := by
  have hset : PassKept s (setPhase .cooldown why none (s.withPhase { s.phase with coolTimer := 0, restrike := false })) :=
    (setPhase_pass _ _ _ _).after (withPhase_pass _ s)
  unfold enterCooldown
  dsimp only
  split
  · exact hset.trans (startPark_pass _)
  · exact hset

theorem scanComplete_pass (s : State) : PassKept s (scanComplete s) := by
  unfold scanComplete
  split
  · split
    · exact enterCooldown_pass _ s
    · split
      · split
        · exact enterCooldown_pass _ s
        · exact setPhase_pass _ _ _ s
      · exact setPhase_pass _ _ _ s
  · exact .refl s

theorem passEnd_pass (s : State) : PassKept s (passEnd s) := by
  unfold passEnd
  split
  · exact (scanComplete_pass _).after (scanGiven_pass _ s)
  · exact .refl s

theorem scanComplete_meas (s : State) : (scanComplete s).meas = s.meas := by
  unfold scanComplete
  split
  · split
    · exact enterCooldown_meas _ s
    · split
      · split
        · exact enterCooldown_meas _ s
        · exact setPhase_meas _ _ _ s
      · exact setPhase_meas _ _ _ s
  · rfl

section
variable {s : State}

theorem scanComplete_trip (hp : s.phase.phase = .start) (hl : latched s = true) :
    Entered .cooldown .trip (scanComplete s) := by
  rw [scanComplete, if_pos hp, if_pos hl]
  exact (enterCooldown_cooledDown _ s).entered

theorem scanComplete_warm (hp : s.phase.phase = .start) (hl : latched s = false) {v : Int}
    (hv : s.cool.zones.z0.temperature = some v) (hw : s.cool.zones.z0.warm ≤ v) :
    Entered .cooldown .resume (scanComplete s) := by
  simp only [scanComplete, if_pos hp, hl, z0Temp, hv, if_pos hw]
  exact (enterCooldown_cooledDown _ s).entered

theorem scanComplete_cold (hp : s.phase.phase = .start) (hl : latched s = false) (hr : s.phase.restrike = false)
    (hv : ∀ v, s.cool.zones.z0.temperature = some v → v < s.cool.zones.z0.warm) :
    Entered .dark .noReason (scanComplete s) := by
  have hdark : Entered .dark .noReason (enterDark s) := setPhase_entered hr
  rw [scanComplete, if_pos hp, if_neg (by rw [hl]; decide), z0Temp]
  split
  · next t ht =>
    rw [if_neg (Int.not_le.mpr (hv t ht))]
    exact hdark
  · exact hdark

end

/-- The first pass with every channel settled leaves START (R118, R149). -/
theorem passEnd_start {s t : State} (ht : passEnd s = t) (hg : s.meas.scanGiven = false)
    (hset : ∀ c, (s.meas.chans.get c).status ≠ .unread) (hp : s.phase.phase = .start) (hr : s.phase.restrike = false) :
    t.meas.scanGiven = true ∧ (latched s = true → Entered .cooldown .trip t) ∧
      (latched s = false →
        ((∃ v, s.cool.zones.z0.temperature = some v ∧ s.cool.zones.z0.warm ≤ v) → Entered .cooldown .resume t) ∧
        ((∀ v, s.cool.zones.z0.temperature = some v → v < s.cool.zones.z0.warm) → Entered .dark .noReason t)) := by
  have hall : (!s.meas.scanGiven && allChans.all fun ch => (s.meas.chans.get ch).settled) = true := by
    rw [hg, Bool.not_false, Bool.true_and, List.all_eq_true]
    exact fun c _ => decide_eq_true (hset c)
  rw [passEnd, if_pos hall] at ht
  subst ht
  refine ⟨by rw [scanComplete_meas]; rfl, fun hl => scanComplete_trip hp hl, fun hl => ⟨fun ⟨v, hv, hw⟩ => ?_, fun hv => ?_⟩⟩
  · exact scanComplete_warm hp hl hv hw
  · exact scanComplete_cold hp hl hr hv

/-! ### Conversions -/

/-- What a conversion that makes a reading leaves (R111, R118). -/
structure Conversion (ch : Chan) (y : ChanRec) (r : Reading) (s t : State) : Prop where
  scan : t.meas.scan = nextChan ch
  chans : t.meas.chans = s.meas.chans.set ch y
  readings : t.cool.readings = s.cool.readings.set ch r
  zones : ∀ z, t.cool.zones.get z =
    if (s.cool.zones.get z).members.get ch then (s.cool.zones.get z).formed t.cool.readings else s.cool.zones.get z
  die : ch = .die → t.sched.dieAllow = dieAllowOf s.sched.dieAllow r

/-- The state in which a conversion with a result is taken: the scan moved on, the channel record written (R111). -/
def scanned (ch : Chan) (y : ChanRec) (s : State) : State :=
  s.withMeas { s.meas with scan := nextChan ch, chans := s.meas.chans.set ch y }

theorem conversion_reading {s : State} {code : Nat} {ch : Chan} {y : ChanRec} {r : Reading} (hs : s.meas.scan = ch)
    (hc : convert s.meas ch code (s.meas.chans.get ch) = ⟨y, some r⟩) :
    conversionComplete code s =
      if ch = .die then passEnd (deliverReading ch r (scanned ch y s)) else deliverReading ch r (scanned ch y s) := by
  rw [conversionComplete, hs, hc]
  rfl

theorem conversion_none {s : State} {code : Nat} {ch : Chan} {y : ChanRec} (hs : s.meas.scan = ch)
    (hc : convert s.meas ch code (s.meas.chans.get ch) = ⟨y, none⟩) (hd : ch ≠ .die) :
    conversionComplete code s = scanned ch y s := by
  rw [conversionComplete, hs, hc]
  exact if_neg hd

theorem conversion_taken {s : State} {code : Nat} {ch : Chan} {y : ChanRec} {r : Reading} (hs : s.meas.scan = ch)
    (hc : convert s.meas ch code (s.meas.chans.get ch) = ⟨y, some r⟩) :
    Conversion ch y r s (conversionComplete code s) := by
  have htaken := deliverReading_taken ch r (scanned ch y s)
  have hbefore : Conversion ch y r s (deliverReading ch r (scanned ch y s)) :=
    ⟨by rw [htaken.meas]; rfl, by rw [htaken.meas]; rfl, htaken.readings, htaken.zones, htaken.die⟩
  rw [conversion_reading hs hc]
  split
  · have hpass := passEnd_pass (deliverReading ch r (scanned ch y s))
    refine ⟨hpass.scan.trans hbefore.scan, hpass.chans.trans hbefore.chans, hpass.readings.trans hbefore.readings,
      fun z => ?_, fun h => hpass.dieAllow.trans (hbefore.die h)⟩
    rw [hpass.zones, hpass.readings]
    exact hbefore.zones z
  · exact hbefore

theorem exec_conversion {s : State} (code : BitVec 12) (h : s.powered = true) :
    exec (.conversionComplete code) s = .next (conversionComplete code.toNat s) :=
  event_taken h (conversionComplete code.toNat)

theorem inRange_iff (code : Nat) : inRange code = true ↔ 16 ≤ code ∧ code ≤ 4079 := by
  rw [inRange, Bool.and_eq_true, decide_eq_true_eq, decide_eq_true_eq]

theorem not_inRange {code : Nat} (h : code < 16 ∨ 4079 < code) : inRange code = false := by
  rw [← Bool.not_eq_true, inRange_iff]
  omega

/-! The record and the reading of a channel, by its state and the code. -/

section
variable {m : Measure} {ch : Chan} {code : Nat} {x : ChanRec}

theorem convert_ok (hf : x.failed = false) (h1 : 16 ≤ code) (h2 : code ≤ 4079) {ring : List Nat} {temp : Int}
    (hring : ring = (if x.ring.length < 4 then x.ring else x.ring.drop 1) ++ [code])
    (htemp : temp = ruledTemp m ch (ring.sum / ring.length)) :
    convert m ch code x =
      ⟨{ x with
          lastCode := some code, ring := ring, badRun := 0, filtered := some temp, lastValid := some temp
          status := .live },
        some ⟨.live, some temp⟩⟩ := by
  rw [convert, if_neg (by rw [hf]; decide), if_pos ((inRange_iff code).mpr ⟨h1, h2⟩), okInRange, liveFrom, tempOf_eq,
    htemp, hring]
  rfl

theorem convert_bad (hf : x.failed = false) (hc : inRange code = false) (hb : x.badRun < 3) :
    convert m ch code x = ⟨{ x with lastCode := some code, badRun := x.badRun + 1 }, none⟩ := by
  rw [convert, if_neg (by rw [hf]; decide), if_neg (by rw [hc]; decide), okOutOfRange]
  exact if_neg (Nat.not_le.mpr (Nat.succ_lt_succ hb))

theorem convert_fails (hf : x.failed = false) (hc : inRange code = false) (hb : x.badRun = 3) :
    convert m ch code x = failChannel { x with lastCode := some code } := by
  rw [convert, if_neg (by rw [hf]; decide), if_neg (by rw [hc]; decide), okOutOfRange]
  exact if_pos (show 4 ≤ x.badRun + 1 by omega)

theorem convert_failed_bad (hf : x.failed = true) (hc : inRange code = false) :
    convert m ch code x = ⟨{ x with lastCode := some code, ring := [] }, none⟩ := by
  rw [convert, if_pos hf, failedCode, if_neg (by rw [hc]; decide)]

theorem convert_failed_gathers (hf : x.failed = true) (h1 : 16 ≤ code) (h2 : code ≤ 4079) (hr : x.ring.length < 3) :
    convert m ch code x = ⟨{ x with lastCode := some code, ring := x.ring ++ [code] }, none⟩ := by
  have hpush : ringPush x.ring code = x.ring ++ [code] := by
    rw [ringPush, if_pos (Nat.lt_trans hr (by decide))]
  have hshort : ¬ Config.ringSize ≤ (x.ring ++ [code]).length := by
    rw [List.length_append]
    exact Nat.not_le.mpr (Nat.succ_lt_succ hr)
  rw [convert, if_pos hf, failedCode, if_pos ((inRange_iff code).mpr ⟨h1, h2⟩)]
  simp only [hpush, if_neg hshort]

theorem convert_recovers (hf : x.failed = true) (h1 : 16 ≤ code) (h2 : code ≤ 4079) (hr : x.ring.length = 3) {temp : Int}
    (htemp : temp = ruledTemp m ch ((x.ring ++ [code]).sum / 4)) :
    convert m ch code x =
      ⟨{ x with
          failed := false, failureAge := 0, badRun := 0, lastCode := some code, ring := x.ring ++ [code]
          filtered := some temp, lastValid := some temp, status := .live },
        some ⟨.live, some temp⟩⟩ := by
  have hpush : ringPush x.ring code = x.ring ++ [code] := by
    rw [ringPush, if_pos (by rw [hr]; decide)]
  have hlen : (x.ring ++ [code]).length = 4 := by
    rw [List.length_append, hr]
    rfl
  rw [convert, if_pos hf, failedCode, if_pos ((inRange_iff code).mpr ⟨h1, h2⟩)]
  simp only [hpush, liveFrom, tempOf_eq, ringMean, hlen, htemp]
  exact if_pos (Nat.le_refl 4)

theorem failChannel_held {v : Int} (h : x.lastValid = some v) :
    failChannel x =
      ⟨{ x with failed := true, ring := [], badRun := 0, failureAge := 0, status := .held }, some ⟨.held, some v⟩⟩ := by
  simp only [failChannel, h]

theorem failChannel_substituted (h : x.lastValid = none) :
    failChannel x =
      ⟨{ x with failed := true, ring := [], badRun := 0, failureAge := 10, status := .substituted },
        some ⟨.substituted, none⟩⟩ := by
  simp only [failChannel, h]

end

/-! ### Substitution -/

theorem larger_ge_right (a : Option Int) (y : Int) : ∃ v, larger a (some y) = some v ∧ y ≤ v := by
  cases a with
  | none => exact ⟨y, rfl, Int.le_refl y⟩
  | some x => exact ⟨max x y, rfl, Int.le_max_right x y⟩

theorem larger_ge_left {x : Int} (b : Option Int) : ∃ v, larger (some x) b = some v ∧ x ≤ v := by
  cases b with
  | none => exact ⟨x, rfl, Int.le_refl x⟩
  | some y => exact ⟨max x y, rfl, Int.le_max_left x y⟩

/-- The larger of contributions is no smaller than the threshold once one of them is the threshold. -/
theorem foldl_larger_ge {members : PerChan Bool} {crit : Int} {readings : PerChan Reading} {ch : Chan}
    (hm : members.get ch = true) (hr : (readings.get ch).status = .substituted) (l : List Chan) (acc : Option Int)
    (h : (∃ v, acc = some v ∧ crit ≤ v) ∨ ch ∈ l) :
    ∃ v, l.foldl (fun acc c => if members.get c then larger acc (contribution crit (readings.get c)) else acc) acc = some v
      ∧ crit ≤ v := by
  induction l generalizing acc with
  | nil => exact h.resolve_right (by simp)
  | cons c l ih =>
    refine ih _ ?_
    rcases h with ⟨v, rfl, hv⟩ | hmem
    · refine .inl ?_
      dsimp only
      split
      · obtain ⟨w, hw, hvw⟩ := larger_ge_left (x := v) (contribution crit (readings.get c))
        exact ⟨w, hw, Int.le_trans hv hvw⟩
      · exact ⟨v, rfl, hv⟩
    · rcases List.mem_cons.mp hmem with rfl | hmem
      · refine .inl ?_
        dsimp only
        rw [if_pos hm, contribution, hr]
        exact larger_ge_right acc crit
      · exact .inr hmem

/-- A substituted member holds a zone at its crit threshold or above (R127). -/
theorem zoneTemperature_ge_crit {members : PerChan Bool} {crit : Int} {readings : PerChan Reading} {ch : Chan}
    (hm : members.get ch = true) (hr : (readings.get ch).status = .substituted) :
    ∃ v, zoneTemperature members crit readings = some v ∧ crit ≤ v :=
  foldl_larger_ge hm hr allChans none (.inr (by cases ch <;> decide))

theorem sensorSubstitution_ignored {s : State} {ch : Chan} (h : (s.meas.chans.get ch).failureAge ≠ 9) :
    sensorSubstitution ch s = s := if_neg fun k => h (Nat.succ.inj k)

theorem ageTick_last {x : ChanRec} (hf : x.failed = true) (ha : x.failureAge = 9) :
    x.ageTick = ⟨{ x with failureAge := 10, status := .substituted }, some ⟨.substituted, x.lastValid⟩⟩ := by
  simp only [ChanRec.ageTick, hf, ha]
  rfl

theorem sensorSubstitution_taken {s : State} {ch : Chan} {x : ChanRec} (hx : x = s.meas.chans.get ch)
    (hf : x.failed = true) (ha : x.failureAge = 9) :
    sensorSubstitution ch s =
      deliverReading ch ⟨.substituted, x.lastValid⟩
        (s.withMeas { s.meas with chans := s.meas.chans.set ch { x with failureAge := 10, status := .substituted } }) := by
  rw [sensorSubstitution, ageChannel, ← hx, if_pos (by rw [ha]), ageTick_last hf ha]
  rfl

theorem exec_substitution {s : State} (ch : Chan) (h : s.powered = true) :
    exec (.sensorSubstitution ch) s = .next (sensorSubstitution ch s) := event_taken h (sensorSubstitution ch)

/-- A conversion that makes a LIVE reading (R113, R117, R118). -/
theorem conversion_live {s t : State} {ch : Chan} {y : ChanRec} {temp : Int}
    (h : Conversion ch y ⟨.live, some temp⟩ s t) :
    t.meas.scan = nextChan ch ∧ t.meas.chans = s.meas.chans.set ch y ∧
      t.cool.readings = s.cool.readings.set ch ⟨.live, some temp⟩ ∧
      (ch = .die → DieRuled s.sched.dieAllow temp t.sched.dieAllow) :=
  ⟨h.scan, h.chans, h.readings, fun hd => h.die hd ▸ dieAllowFor_ruled _ temp⟩

/-- The zones of a channel after a conversion of it (R127). -/
theorem Conversion.zoneTemp {ch : Chan} {y : ChanRec} {r : Reading} {s t : State} (h : Conversion ch y r s t) (z : Zone)
    (hm : (s.cool.zones.get z).members.get ch = true) :
    (t.cool.zones.get z).temperature =
      zoneTemperature (s.cool.zones.get z).members (s.cool.zones.get z).crit t.cool.readings := by
  rw [h.zones, if_pos hm]
  rfl

/-- The end of the first pass with every channel settled (R118, R149). -/
theorem conversion_pass {s : State} {code : Nat} {y : ChanRec} {r : Reading} (hs : s.meas.scan = .die)
    (hc : convert s.meas .die code (s.meas.chans.get .die) = ⟨y, some r⟩) (hy : y.status ≠ .unread)
    (hg : s.meas.scanGiven = false) (hset : ∀ c, c ≠ .die → (s.meas.chans.get c).status ≠ .unread)
    (hp : s.phase.phase = .start) (hr : s.phase.restrike = false) {t : State} (ht : conversionComplete code s = t) :
    t.meas.scanGiven = true ∧ (latched s = true → Entered .cooldown .trip t) ∧
      (latched s = false →
        ((∃ v, t.cool.zones.z0.temperature = some v ∧ s.cool.zones.z0.warm ≤ v) → Entered .cooldown .resume t) ∧
        ((∀ v, t.cool.zones.z0.temperature = some v → v < s.cool.zones.z0.warm) → Entered .dark .noReason t)) := by
  have htaken := deliverReading_taken .die r (scanned .die y s)
  rw [conversion_reading hs hc, if_pos rfl] at ht
  have hzones : t.cool.zones = (deliverReading .die r (scanned .die y s)).cool.zones := ht ▸ (passEnd_pass _).zones
  have hwarm : (deliverReading .die r (scanned .die y s)).cool.zones.z0.warm = s.cool.zones.z0.warm := by
    have hz := congrArg ZoneRec.warm (htaken.zones .z0)
    refine hz.trans ?_
    split <;> rfl
  have hlatched : latched (deliverReading .die r (scanned .die y s)) = latched s := by
    rw [latched, htaken.meas]
    rfl
  have hstart := passEnd_start ht (by rw [htaken.meas]; exact hg) (fun c => ?_) (htaken.phase.trans hp)
    (htaken.restrike.trans hr)
  · rw [hlatched, hwarm, ← hzones] at hstart
    exact hstart
  · rw [htaken.meas]
    show ((s.meas.chans.set .die y).get c).status ≠ .unread
    rw [PerChan.get_set]
    split
    · exact hy
    · next hne => exact hset c hne

/-- Settles O58: each conversion by the state of its channel, and the substitution. -/
theorem conversionsTaken : Obligations.ConversionsTaken := by
  refine ⟨fun s code ch x hp hs hx hf => ⟨fun h1 h2 ring temp hring htemp => ?_, fun hbad => ⟨fun hb hd => ?_, fun hb => ?_⟩⟩,
    fun s code ch x hp hs hx hf => ⟨fun hbad hd => ?_, fun h1 h2 => ⟨fun hr hd => ?_, fun hr temp htemp => ?_⟩⟩,
    fun s ch x hp hx => ⟨fun h => ?_, fun hf ha => ?_⟩⟩
  · have hconv := convert_ok (m := s.meas) (ch := ch) hf h1 h2 hring htemp
    rw [hx] at hconv
    have htaken := conversion_taken hs hconv
    obtain ⟨hscan, hchans, hreadings, hdie⟩ := conversion_live htaken
    refine ⟨_, exec_conversion code hp, hscan, hx ▸ hchans, hreadings, fun z hm => htaken.zoneTemp z hm, fun hl => ?_, hdie,
      fun hd hg hset hstart hrestrike => ?_⟩
    · subst hl
      rw [conversion_reading hs hconv, if_neg nofun, (deliverReading_taken .lens _ _).lens rfl]
      exact ⟨rfl, rfl⟩
    · subst hd
      exact conversion_pass hs hconv nofun hg hset hstart hrestrike rfl
  · have hconv := convert_bad (m := s.meas) (ch := ch) hf (not_inRange hbad) hb
    rw [hx] at hconv
    rw [exec_conversion code hp, conversion_none hs hconv hd, hx]
    rfl
  · have hconv := convert_fails (m := s.meas) (ch := ch) hf (not_inRange hbad) hb
    refine ⟨_, exec_conversion code hp, ?_, fun v hv => ?_, fun hv => ?_⟩
    · cases hv : x.lastValid with
      | some v =>
        have hheld := hconv.trans (failChannel_held (x := { x with lastCode := some code.toNat }) hv)
        rw [hx] at hheld
        exact (conversion_taken hs hheld).scan
      | none =>
        have hsub := hconv.trans (failChannel_substituted (x := { x with lastCode := some code.toNat }) hv)
        rw [hx] at hsub
        exact (conversion_taken hs hsub).scan
    · have hheld := hconv.trans (failChannel_held (x := { x with lastCode := some code.toNat }) hv)
      rw [hx] at hheld
      have htaken := conversion_taken hs hheld
      refine ⟨?_, ?_, fun hd => ?_⟩
      · rw [htaken.chans, PerChan.get_set_same, hx]
      · rw [htaken.readings, PerChan.get_set_same]
      · rw [htaken.die hd]
        exact dieAllowFor_ruled _ v
    · have hsub := hconv.trans (failChannel_substituted (x := { x with lastCode := some code.toNat }) hv)
      rw [hx] at hsub
      have htaken := conversion_taken hs hsub
      refine ⟨?_, ?_, fun hd => ?_⟩
      · rw [htaken.chans, PerChan.get_set_same, hx]
      · rw [htaken.readings, PerChan.get_set_same]
      · rw [htaken.die hd]
        rfl
  · have hconv := convert_failed_bad (m := s.meas) (ch := ch) hf (not_inRange hbad)
    rw [hx] at hconv
    rw [exec_conversion code hp, conversion_none hs hconv hd, hx]
    rfl
  · have hconv := convert_failed_gathers (m := s.meas) (ch := ch) hf h1 h2 hr
    rw [hx] at hconv
    rw [exec_conversion code hp, conversion_none hs hconv hd, hx]
    rfl
  · have hconv := convert_recovers (m := s.meas) (ch := ch) hf h1 h2 hr htemp
    rw [hx] at hconv
    have htaken := conversion_taken hs hconv
    obtain ⟨hscan, hchans, hreadings, hdie⟩ := conversion_live htaken
    exact ⟨_, exec_conversion code hp, hscan, hx ▸ hchans, hreadings, hdie⟩
  · rw [exec_substitution ch hp, sensorSubstitution_ignored (hx ▸ h)]
  · have htaken := deliverReading_taken ch ⟨.substituted, x.lastValid⟩
      (s.withMeas { s.meas with chans := s.meas.chans.set ch { x with failureAge := 10, status := .substituted } })
    rw [← sensorSubstitution_taken hx hf ha] at htaken
    refine ⟨_, exec_substitution ch hp, htaken.meas, htaken.readings, fun z hm => ?_, htaken.die⟩
    rw [htaken.zoneTemp z hm]
    refine zoneTemperature_ge_crit hm ?_
    rw [htaken.readings, PerChan.get_set_same]

end Sys2Proof.Machine
end

section
/-! PROOFS. The ends of the counts of the phase controller and of the zones (R128, R129, R152, R157 to R159). -/

namespace Sys2Proof.Machine

/-! ### Timers of COOLDOWN -/

theorem exec_cooldownTimeout {s : State} (h : s.powered = true) : exec .cooldownTimeout s = .next (cooldownTimeout s) :=
  event_taken h cooldownTimeout

theorem exec_parkTimeout {s : State} (h : s.powered = true) : exec .parkTimeout s = .next (parkTimeout s) :=
  event_taken h parkTimeout

theorem exec_rampStep {s : State} (h : s.powered = true) : exec .rampStep s = .next (rampStepDue s) :=
  event_taken h rampStepDue

theorem exec_criticalPersisted {s : State} (z : Zone) (h : s.powered = true) :
    exec (.criticalPersisted z) s = .next (criticalPersisted z s) := event_taken h (criticalPersisted z)

/-- Steps 1 and 2 of a COOLDOWN tick write the timers and the park alone (R157, R158). -/
theorem coolTimers_writes (s : State) :
    ∃ n k p, coolTimers s =
      s.withPhase
        { s.phase with
          coolTimer := min (s.phase.coolTimer + 1) 600, parkTimer := n, park := k, parkSet := p } := by
  unfold coolTimers
  dsimp only
  split
  · split
    · unfold endPark
      split <;> exact ⟨_, _, _, rfl⟩
    · exact ⟨_, _, _, rfl⟩
  · exact ⟨_, _, _, rfl⟩

/-- A COOLDOWN tick that neither releases nor restrikes (R158). -/
theorem coolDownTick_warm {s : State} (hr : s.phase.restrike = false)
    (hz : ∀ v, s.cool.zones.z0.temperature = some v → 450 ≤ v) :
    coolDownTick s =
      if 600 ≤ (coolTimers s).phase.coolTimer then enterFault .timeout (coolTimers s) else coolTimers s := by
  obtain ⟨n, k, p, h⟩ := coolTimers_writes s
  have hrestrike : (coolTimers s).phase.restrike = false := by
    rw [h]
    exact hr
  have hbelow : z0Below Config.releaseTemp (coolTimers s) = false := by
    refine not_z0Below fun v hv => hz v ?_
    rw [h] at hv
    exact hv
  rw [coolDownTick, hrestrike, hbelow, Bool.false_and, Bool.false_and]
  rfl

theorem cooldownTimeout_ignored {s : State} (h : s.phase.phase ≠ .cooldown ∨ s.phase.coolTimer < 599) :
    cooldownTimeout s = s := by
  rw [cooldownTimeout, if_neg]
  rw [Bool.and_eq_true, decide_eq_true_eq, decide_eq_true_eq, Classical.not_and_iff_not_or_not]
  exact h.imp_right fun k => Nat.not_le.mpr (Nat.succ_lt_succ k)

/-- The tick that brings the cool-down timer to 600 above the release temperature (R158, R159). -/
theorem cooldownTimeout_fault {s : State} (hp : s.phase.phase = .cooldown) (ht : 599 ≤ s.phase.coolTimer)
    (hr : s.phase.restrike = false) (hz : ∀ v, s.cool.zones.z0.temperature = some v → 450 ≤ v) :
    Entered .fault .timeout (cooldownTimeout s) ∧ (cooldownTimeout s).phase.park ≠ .running ∧
      (cooldownTimeout s).phase.coolTimer = 600 := by
  have hdue : (s.phase.phase = .cooldown && decide (Config.coolDownMax ≤ s.phase.coolTimer + 1)) = true := by
    rw [hp, decide_eq_true (Nat.succ_le_succ ht)]
    rfl
  obtain ⟨n, k, p, h⟩ := coolTimers_writes s
  have htimer : (coolTimers s).phase.coolTimer = 600 := by
    rw [h]
    exact Nat.min_eq_right (Nat.succ_le_succ ht)
  have hphase : (coolTimers s).phase.phase ≠ .fault := by
    rw [h]
    exact fun e => nomatch hp.symm.trans e
  rw [cooldownTimeout, if_pos hdue, coolDownTick_warm hr hz, if_pos (Nat.le_of_eq htimer.symm), ← htimer]
  exact enterFault_entered hphase

/-- The tick that brings the park timer to 40 (R157, R158). -/
theorem parkTimeout_incomplete {s : State} (hp : s.phase.phase = .cooldown) (hpark : s.phase.park = .running)
    (ht : s.phase.parkTimer = 39) (hc : s.phase.coolTimer < 599) (hr : s.phase.restrike = false)
    (hz : ∀ v, s.cool.zones.z0.temperature = some v → 450 ≤ v) :
    parkTimeout s =
      s.withPhase
        { s.phase with
          coolTimer := s.phase.coolTimer + 1, parkTimer := 40, park := .incomplete
          parkSet := ⟨false, false, false, false⟩ } := by
  have hdue : (s.phase.phase = .cooldown && decide (s.phase.park = .running)
      && decide (Config.parkMax ≤ s.phase.parkTimer + 1)) = true := by
    rw [hp, hpark, ht]
    rfl
  have htimers : coolTimers s =
      s.withPhase
        { s.phase with
          coolTimer := s.phase.coolTimer + 1, parkTimer := 40, park := .incomplete
          parkSet := ⟨false, false, false, false⟩ } := by
    have hmin : min (s.phase.coolTimer + 1) Config.coolDownMax = s.phase.coolTimer + 1 :=
      Nat.min_eq_left (Nat.le_trans (Nat.succ_le_of_lt hc) (by decide))
    simp only [coolTimers, hpark, ht, if_true, hmin, endPark, State.withPhase_phase]
    rfl
  rw [parkTimeout, if_pos hdue, coolDownTick_warm hr hz, htimers, if_neg]
  exact Nat.not_le.mpr (Nat.succ_lt_succ hc)

/-! ### The warm-up ramp -/

theorem rampStepDue_taken {s : State} (hp : s.phase.phase = .warmup) (hc : s.phase.rampCount = 3) :
    rampStepDue s = rampRiseStep s := by
  rw [rampStepDue, hp, hc, warmupTick, hc]
  rfl

theorem rampRiseStep_below {s : State} {l : Nat} (hl : s.phase.rampLevel = some l) (h : l < 90) :
    rampRiseStep s = coolRefresh (s.withPhase { s.phase with rampCount := 0, rampLevel := some (l + 10) }) := by
  rw [rampRiseStep, hl]
  exact if_neg (Nat.not_le.mpr (Nat.add_lt_add_right h 10))

theorem rampRiseStep_top {s : State} (hl : s.phase.rampLevel = some 90) :
    rampRiseStep s =
      setPhase .lit .noReason none (s.withPhase { s.phase with rampCount := 0, rampLevel := some 100 }) := by
  rw [rampRiseStep, hl]
  exact if_pos (Nat.le_refl 100)

/-- The entry to LIT (R152, R168). -/
theorem setPhase_lit {s t : State} (h : setPhase .lit .noReason none s = t) (hp : s.phase.phase = .warmup)
    (hr : s.phase.restrike = false) (hg : GrantsWithin s) :
    Entered .lit .noReason t ∧ t.phase.rampLevel = none ∧ t.phase.lightPermit = true ∧ t.axes = s.axes ∧
      t.sched = s.sched ∧
      t.track =
        { s.track with
          base := if (s.chan .fc).referenced then some (s.chan .fc).position else none, applied := 0
          tRef := if s.track.lensStatus = .live ∨ s.track.lensStatus = .held then s.track.tLens else none } := by
  have hent : Entered .lit .noReason t := h ▸ setPhase_entered hr
  have hramp : t.phase.rampLevel = none := by
    rw [← h, setPhase_phase]
    rfl
  have hpermit : t.phase.lightPermit = true := by
    rw [hent.lines.permit, hent.phase]
    rfl
  obtain ⟨x, c, q, r, hwrites⟩ := phaseRefreshed_writes .lit .noReason none s
  have hwithin := setPhase_within (p := .lit) (s := s) .noReason none (by rw [hp]; rfl) hg
  rw [handTracker, if_pos rfl, hwrites, h] at hwithin
  have hlens : tLensUsable s.track =
      if s.track.lensStatus = .live ∨ s.track.lensStatus = .held then s.track.tLens else none := by
    simp [tLensUsable, lensUsable]
  refine ⟨hent, hramp, hpermit, by rw [hwithin]; rfl, by rw [hwithin]; rfl, ?_⟩
  rw [hwithin, ← hlens]
  rfl

/-! ### A zone CRITICAL for 60 evaluations -/

theorem enterFault_zones (why : Reason) (s : State) : (enterFault why s).cool.zones = s.cool.zones := by
  unfold enterFault
  split
  · rfl
  · rw [setPhase_zones, (endPark_cool _).1]
    rfl

theorem evaluated_critical {z : ZoneRec} {v : Int} (hs : z.state = .critical) (ht : z.temperature = some v)
    (hv : z.crit - 30 ≤ v) : z.evaluated = { z with age := min (z.age + 1) 60 } := by
  have hstate : z.nextState v = .critical := by
    have hrank : ¬ zoneRank z.state < zoneRank (riseLevel z v) := by
      rw [hs]
      cases riseLevel z v <;> decide
    rw [ZoneRec.nextState, if_neg hrank]
    simp only [ZoneRec.floorOf, hs]
    exact if_neg (Int.not_lt.mpr hv)
  have hage : z.nextAge .critical = min (z.age + 1) 60 := by
    rw [ZoneRec.nextAge, if_pos rfl, if_pos hs]
  simp only [ZoneRec.evaluated, ht, hstate, hage]
  rw [← hs]

theorem criticalPersisted_fault {s : State} {z : Zone} {v : Int} (hs : (s.cool.zones.get z).state = .critical)
    (ha : (s.cool.zones.get z).age = 59) (ht : (s.cool.zones.get z).temperature = some v)
    (hv : (s.cool.zones.get z).crit - 30 ≤ v) :
    criticalPersisted z s =
      enterFault .critical
        (s.withCool { s.cool with zones := s.cool.zones.set z { s.cool.zones.get z with age := 60 } }) := by
  have heval : (s.cool.zones.get z).evaluated = { s.cool.zones.get z with age := 60 } := by
    rw [evaluated_critical hs ht hv, ha]
    rfl
  rw [criticalPersisted, heval]
  refine if_pos ?_
  rw [persisted, ha]
  rfl

/-- An age that an evaluation brings to 60 is that of a zone that was CRITICAL at 59 and stays so (R128, R129). -/
theorem critical_of_persisted {z : ZoneRec} (hlt : z.age < 60) (h : z.evaluated.age = 60) :
    z.state = .critical ∧ z.age = 59 ∧ ∃ v, z.temperature = some v ∧ z.crit - 30 ≤ v := by
  cases ht : z.temperature with
  | none =>
    rw [ZoneRec.evaluated, ht] at h
    exact absurd h (Nat.ne_of_lt hlt)
  | some v =>
    have hage : z.nextAge (z.nextState v) = 60 := by
      rw [ZoneRec.evaluated, ht] at h
      exact h
    unfold ZoneRec.nextAge at hage
    split at hage
    · next hnext =>
      split at hage
      · next hs =>
        refine ⟨hs, by omega, v, rfl, Int.not_lt.mp fun hv => ?_⟩
        have hrank : ¬ zoneRank z.state < zoneRank (riseLevel z v) := by
          rw [hs]
          cases riseLevel z v <;> decide
        rw [ZoneRec.nextState, if_neg hrank] at hnext
        simp only [ZoneRec.floorOf, hs] at hnext
        rw [if_pos hv] at hnext
        exact nomatch hnext
      · exact nomatch hage
    · split at hage
      · exact nomatch hage
      · exact absurd hage (Nat.ne_of_lt hlt)

/-- No notice comes from a zone that is not CRITICAL, whose age is not 59, or that the evaluation takes out of CRITICAL or
does not reach (R128, R129). -/
theorem criticalPersisted_ignored {s : State} {z : Zone}
    (h : (s.cool.zones.get z).state ≠ .critical ∨ (s.cool.zones.get z).age ≠ 59 ∨
      ∀ v, (s.cool.zones.get z).temperature = some v → v < (s.cool.zones.get z).crit - 30) :
    criticalPersisted z s = s := by
  refine if_neg ?_
  rw [persisted, Bool.and_eq_true, decide_eq_true_eq, decide_eq_true_eq]
  rintro ⟨hlt, hage⟩
  obtain ⟨hs, ha, v, ht, hv⟩ := critical_of_persisted hlt hage
  rcases h with h | h | h
  · exact h hs
  · exact h ha
  · exact absurd (h v ht) (Int.not_lt.mpr hv)

end Sys2Proof.Machine
end

section
/-! PROOFS. The supervision of the fans at a T2 tick (R139 to R142, R159). -/

namespace Sys2Proof.Machine

/-! ### One fan -/

/-- The state, strikes and good run of a fan. -/
def FanRec.standing (f : FanRec) : FanState × Nat × Nat := (f.state, f.strikes, f.goodRun)

theorem judged_strike (f : FanRec) :
    (f.judged .strike).standing =
      match f.state with
      | .ok => (.suspect, 1, 0)
      | .suspect => if f.strikes + 1 < 3 then (.suspect, f.strikes + 1, 0) else (.failed, f.strikes + 1, 0)
      | .failed => (.failed, 3, 0) := by
  cases h : f.state with
  | ok => simp only [FanRec.judged, h, FanRec.standing]
  | suspect =>
    simp only [FanRec.judged, h, FanRec.standing]
    by_cases hs : f.strikes + 1 < 3
    · rw [if_pos hs, if_neg (Nat.not_le.mpr hs)]
    · rw [if_neg hs, if_pos (Nat.not_lt.mp hs)]
  | failed => simp only [FanRec.judged, h, FanRec.standing]

theorem recovering_standing (f : FanRec) :
    f.recovering.standing = if f.goodRun + 1 < 6 then (f.state, 0, f.goodRun + 1) else (.ok, 0, 0) := by
  unfold FanRec.recovering
  by_cases h : f.goodRun + 1 < 6
  · rw [if_pos h, if_neg (Nat.not_le.mpr h)]
    rfl
  · rw [if_neg h, if_pos (Nat.not_lt.mp h)]
    rfl

theorem judged_good (f : FanRec) :
    (f.judged .good).standing =
      match f.state with
      | .ok => (.ok, 0, f.goodRun)
      | .suspect => if f.goodRun + 1 < 6 then (.suspect, 0, f.goodRun + 1) else (.ok, 0, 0)
      | .failed => if f.goodRun + 1 < 6 then (.failed, 0, f.goodRun + 1) else (.ok, 0, 0) := by
  cases h : f.state with
  | ok => simp only [FanRec.judged, h, FanRec.standing]
  | suspect => simp only [FanRec.judged, h, recovering_standing]
  | failed => simp only [FanRec.judged, h, recovering_standing]

theorem judged_neither (f : FanRec) :
    (f.judged .neither).standing =
      match f.state with
      | .ok => (.ok, 0, 0)
      | .suspect => (.suspect, 0, 0)
      | .failed => (.failed, f.strikes, 0) := by
  cases h : f.state <;> simp only [FanRec.judged, h, FanRec.standing]

/-- A supervised fan is judged by the table of R140. -/
theorem supervised_judged {f : FanRec} (h : Supervised f) : f.supervised.standing = fanJudged f := by
  obtain ⟨hp, hg, hd⟩ := h
  have hjudged : f.supervised = f.judged f.speedClass := by
    rw [FanRec.supervised, if_pos hp, if_neg (by omega), if_pos hd]
  have hexp : f.expected = expectedSpeed f := rfl
  rw [hjudged, fanJudged, FanRec.speedClass, hexp]
  by_cases hs : 2 * f.reading < expectedSpeed f
  · rw [if_pos hs, if_pos hs]
    exact judged_strike f
  · rw [if_neg hs, if_neg hs]
    by_cases hgood : 3 * expectedSpeed f ≤ 4 * f.reading
    · rw [if_pos hgood, if_pos hgood]
      exact judged_good f
    · rw [if_neg hgood, if_neg hgood]
      exact judged_neither f

theorem supervised_unjudged {f : FanRec} (hp : f.present = true) (h : ¬Supervised f) :
    f.supervised = { f with grace := f.grace - 1, strikes := 0, goodRun := 0 } := by
  rw [FanRec.supervised, if_pos hp]
  split
  · rfl
  · next hg =>
    have hzero : f.grace = 0 := Nat.eq_zero_of_not_pos hg
    rw [if_neg fun hd => h ⟨hp, hzero, hd⟩, hzero]

theorem supervised_absent {f : FanRec} (hp : f.present = false) : f.supervised = f := by
  rw [FanRec.supervised, if_neg (by rw [hp]; decide)]

/-! ### What a refresh does to a fan -/

/-- A fan after a refresh of the targets: it keeps what was judged, and its grace with its duty (R134, R139). -/
structure FanKept (x y : FanRec) : Prop where
  fields : y = { x with target := y.target, commanded := y.commanded, grace := y.grace }
  grace : y.commanded = x.commanded → y.grace = x.grace
  absent : x.present = false → y = x

theorem FanKept.refl (x : FanRec) : FanKept x x := ⟨rfl, fun _ => rfl, fun _ => rfl⟩

theorem refreshFan_kept (s : State) (f : Fan) : FanKept (s.cool.fans.get f) (refreshFan s f) where
  fields := refreshFan_fields s f
  grace h := by
    unfold refreshFan at h ⊢
    dsimp only at h ⊢
    by_cases hp : (s.cool.fans.get f).present = true
    · by_cases hf : forced s f = true
      · simp only [if_pos hp, if_pos hf, FanRec.command] at h ⊢
        rw [if_neg (by decide), if_neg (by rw [← h]; decide)]
      · simp only [if_pos hp, if_neg hf]
    · simp only [if_neg hp]
  absent h := if_neg (by rw [h]; decide)

theorem FanKept.isFailed {x y : FanRec} (h : FanKept x y) : y.isFailed = x.isFailed := by
  rw [h.fields]
  rfl

theorem FanKept.standing {x y : FanRec} (h : FanKept x y) : y.standing = x.standing := by
  rw [h.fields]
  rfl

/-- The fans kept, the same number is FAILED. -/
theorem failedCount_kept {q r : Cooling} (h : ∀ f, FanKept (q.fans.get f) (r.fans.get f)) :
    failedCount r = failedCount q := by
  have hf := fun f => (h f).isFailed
  rw [failedCount_eq, failedCount_eq]
  rw [show r.fans.f0.isFailed = q.fans.f0.isFailed from hf .f0, show r.fans.f1.isFailed = q.fans.f1.isFailed from hf .f1,
    show r.fans.f2.isFailed = q.fans.f2.isFailed from hf .f2, show r.fans.f3.isFailed = q.fans.f3.isFailed from hf .f3]

/-! ### What the supervision hands on -/

theorem coolRefresh_kept (s : State) (f : Fan) : FanKept (s.cool.fans.get f) ((coolRefresh s).cool.fans.get f) := by
  rw [coolRefresh_fan]
  exact refreshFan_kept s f

theorem phaseRefreshed_kept (p : Phase) (why : Reason) (ramp : Option Nat) (s : State) (f : Fan) :
    FanKept (s.cool.fans.get f) ((phaseRefreshed p why ramp s).cool.fans.get f) := by
  have hcool : (raiseBoth .phase (phaseWritten p why ramp s)).cool = s.cool := (raiseBoth_sameButPorts _ _).cool
  have hkept := coolRefresh_kept (raiseBoth .phase (phaseWritten p why ramp s)) f
  rw [hcool] at hkept
  exact hkept

/-- The entry to FAULT refreshes the fans (R148). -/
theorem enterFault_kept {why : Reason} {s : State} (h : s.phase.phase ≠ .fault) (f : Fan) :
    FanKept (s.cool.fans.get f) ((enterFault why s).cool.fans.get f) := by
  have hcool : (endPark (s.withPhase { s.phase with restrike := false })).cool = s.cool := (endPark_cool _).1
  rw [enterFault, if_neg h, (setPhase_axis _ _ _ _).frame.cool, ← hcool]
  exact phaseRefreshed_kept _ _ _ _ f

theorem enterFault_failedFans (why : Reason) (s : State) : (enterFault why s).phase.failedFans = s.phase.failedFans := by
  unfold enterFault
  split
  · rfl
  · rw [setPhase_phase]
    show (endPark (s.withPhase { s.phase with restrike := false })).phase.failedFans = _
    unfold endPark
    split <;> rfl

/-- A change of the set of FAILED fans that puts the part in FAULT (R142, R159). -/
theorem failedSetEffects_fault {old : PerFan FanRec} {s : State} (hc : failedSetChanged old s.cool.fans = true)
    (h : s.phase.failedFans < 2 ∧ 2 ≤ failedCount s.cool) (hp : s.phase.phase ≠ .fault) :
    failedSetEffects old s = enterFault .fans (s.withPhase { s.phase with failedFans := failedCount s.cool }) := by
  have hent := (enterFault_entered (why := .fans) (s := s.withPhase { s.phase with failedFans := failedCount s.cool }) hp).1
  rw [failedSetEffects, if_pos hc, failedHanded, if_pos]
  · exact hent.settled.refresh_eq
  · rw [Bool.and_eq_true, decide_eq_true_eq, decide_eq_true_eq]
    exact h

/-- A change that does not (R142, R160). -/
theorem failedSetEffects_stays {old : PerFan FanRec} {s : State} (hc : failedSetChanged old s.cool.fans = true)
    (h : ¬ (s.phase.failedFans < 2 ∧ 2 ≤ failedCount s.cool) ∨ s.phase.phase = .fault) :
    failedSetEffects old s = coolRefresh (s.withPhase { s.phase with failedFans := failedCount s.cool }) := by
  rw [failedSetEffects, if_pos hc, failedHanded]
  split
  · next hk =>
    rw [Bool.and_eq_true, decide_eq_true_eq, decide_eq_true_eq] at hk
    have hfault := h.resolve_left (not_not_intro hk)
    rw [enterFault, if_pos (by exact hfault)]
  · rfl

theorem failedSetEffects_same {old : PerFan FanRec} {s : State} (hc : failedSetChanged old s.cool.fans = false) :
    failedSetEffects old s = s := if_neg (by rw [hc]; decide)

/-- The same fans are FAILED. -/
theorem failedCount_same {q r : Cooling} (h : failedSetChanged q.fans r.fans = false) : failedCount r = failedCount q := by
  simp only [failedSetChanged, allFans, List.any_cons, List.any_nil, Bool.or_false, Bool.or_eq_false_iff,
    bne_eq_false_iff_eq, PerFan.get] at h
  obtain ⟨h0, h1, h2, h3⟩ := h
  rw [failedCount_eq, failedCount_eq, h0, h1, h2, h3]

theorem fansJudged_fan (s : State) (f : Fan) : (fansJudged s).cool.fans.get f = (s.cool.fans.get f).supervised := by
  rw [(fansJudged_calm s).cool]
  exact PerFan.get_map _ _ f

theorem fansJudged_phase (s : State) : (fansJudged s).phase = s.phase := (fansJudged_calm s).phase

/-- A fan that becomes FAILED raises FAN_FAULT (R141). -/
theorem fansJudged_told {s : State} {f : Fan} (h : (s.cool.fans.get f).state ≠ .failed)
    (hf : (s.cool.fans.get f).supervised.state = .failed) (p : Port) :
    ((fansJudged s).port p).flags.getLsbD (eventBit .fanFault) = true := by
  have hbecame : (allFans.any fun f =>
      becameFailed (s.cool.fans.get f) ((s.cool.fans.map FanRec.supervised).get f)) = true := by
    refine List.any_eq_true.mpr ⟨f, by cases f <;> decide, ?_⟩
    rw [PerFan.get_map, becameFailed, decide_eq_true h, decide_eq_true hf]
    rfl
  have heq : fansJudged s = raiseBoth .fanFault _ := if_pos hbecame
  rw [heq]
  exact raiseBoth_flag _ _ p

theorem failedSetEffects_onward (old : PerFan FanRec) (s : State) : Onward s (failedSetEffects old s) := by
  have hcount : Onward s (s.withPhase { s.phase with failedFans := failedCount s.cool }) := .withPhase id
  unfold failedSetEffects failedHanded
  dsimp only
  split
  · split
    · exact (hcount.trans (.enterFault _ _)).trans (.coolRefresh _)
    · exact hcount.trans (.coolRefresh _)
  · exact .refl s

/-- The supervision of the fans, seen from what it leaves. -/
structure Supervision (s t : State) : Prop where
  fans : ∀ f, FanKept (s.cool.fans.get f).supervised (t.cool.fans.get f)
  number : t.phase.failedFans = failedCount t.cool
  fault : failedCount s.cool < 2 → 2 ≤ failedCount t.cool → s.phase.phase ≠ .fault →
    Entered .fault .fans t ∧ t.phase.park ≠ .running
  stays : 2 ≤ failedCount s.cool ∨ failedCount t.cool < 2 ∨ s.phase.phase = .fault →
    t.phase = { s.phase with failedFans := failedCount t.cool }

theorem superviseFans_supervision {s : State} (hn : s.phase.failedFans = failedCount s.cool) :
    Supervision s (superviseFans s) := by
  rw [superviseFans_eq]
  have hfan := fansJudged_fan s
  have hphase := fansJudged_phase s
  generalize fansJudged s = u at hfan hphase
  have hkept {t : State} (h : ∀ f, FanKept (u.cool.fans.get f) (t.cool.fans.get f)) :
      (∀ f, FanKept (s.cool.fans.get f).supervised (t.cool.fans.get f)) ∧ failedCount t.cool = failedCount u.cool :=
    ⟨fun f => hfan f ▸ h f, failedCount_kept h⟩
  cases hc : failedSetChanged s.cool.fans u.cool.fans with
  | false =>
    have hsame := failedCount_same (q := s.cool) (r := u.cool) hc
    rw [failedSetEffects_same hc]
    refine ⟨fun f => hfan f ▸ .refl _, by rw [hphase, hn, hsame], fun h k => absurd k (by omega), fun _ => ?_⟩
    rw [hphase, hsame, ← hn]
  | true =>
    by_cases hfault : (u.phase.failedFans < 2 ∧ 2 ≤ failedCount u.cool) ∧ u.phase.phase ≠ .fault
    · obtain ⟨hrise, hp⟩ := hfault
      have hent := enterFault_entered (why := .fans)
        (s := u.withPhase { u.phase with failedFans := failedCount u.cool }) hp
      obtain ⟨hfans, hcount⟩ := hkept (t := enterFault .fans (u.withPhase { u.phase with failedFans := failedCount u.cool }))
        (enterFault_kept (s := u.withPhase { u.phase with failedFans := failedCount u.cool }) hp)
      rw [failedSetEffects_fault hc hrise hp]
      refine ⟨hfans, ?_, fun _ _ _ => ⟨hent.1, hent.2.1⟩, fun h => ?_⟩
      · rw [enterFault_failedFans, hcount]
        rfl
      · rw [hphase, hn] at hrise
        rw [hphase] at hp
        rw [hcount] at h
        rcases h with h | h | h
        · omega
        · omega
        · exact absurd h hp
    · have hstays : ¬ (u.phase.failedFans < 2 ∧ 2 ≤ failedCount u.cool) ∨ u.phase.phase = .fault := by
        rw [Classical.not_and_iff_not_or_not, Classical.not_not] at hfault
        exact hfault
      obtain ⟨hfans, hcount⟩ := hkept (t := coolRefresh (u.withPhase { u.phase with failedFans := failedCount u.cool }))
        (coolRefresh_kept (u.withPhase { u.phase with failedFans := failedCount u.cool }))
      rw [failedSetEffects_stays hc hstays]
      refine ⟨hfans, ?_, fun h1 h2 hp => ?_, fun _ => ?_⟩
      · rw [coolRefresh_phase, hcount]
        rfl
      · rw [hphase, hn] at hstays
        rw [hcount] at h2
        exact absurd hp (not_not_intro (hstays.resolve_left (not_not_intro ⟨h1, h2⟩)))
      · rw [coolRefresh_phase, hcount, ← hphase]
        rfl

/-- The supervision as the takers' tick takes it, fan by fan (R139 to R142, R159). -/
theorem supervisionTaken {s t : State} (f : Fan) {n : Nat} (ht : takeTick s .supervision = t)
    (hcount : n = failedCount t.cool) (hn : s.phase.failedFans = failedCount s.cool) :
    (Supervised (s.cool.fans.get f) →
        ((t.cool.fans.get f).state, (t.cool.fans.get f).strikes, (t.cool.fans.get f).goodRun)
          = fanJudged (s.cool.fans.get f)) ∧
      ((s.cool.fans.get f).present = true → ¬Supervised (s.cool.fans.get f) →
        (t.cool.fans.get f).state = (s.cool.fans.get f).state ∧ (t.cool.fans.get f).strikes = 0 ∧
        (t.cool.fans.get f).goodRun = 0 ∧
        ((t.cool.fans.get f).commanded = (s.cool.fans.get f).commanded →
          (t.cool.fans.get f).grace = (s.cool.fans.get f).grace - 1)) ∧
      ((s.cool.fans.get f).present = false → t.cool.fans.get f = s.cool.fans.get f) ∧
      ((s.cool.fans.get f).state ≠ .failed → (t.cool.fans.get f).state = .failed →
        ∀ p, (t.port p).flags.getLsbD (eventBit .fanFault) = true) ∧
      t.phase.failedFans = n ∧
      (failedCount s.cool < 2 → 2 ≤ n → s.phase.phase ≠ .fault → Entered .fault .fans t ∧ t.phase.park ≠ .running) ∧
      (2 ≤ failedCount s.cool ∨ n < 2 ∨ s.phase.phase = .fault → t.phase = { s.phase with failedFans := n }) := by
  have hsup : Supervision s t := ht ▸ superviseFans_supervision hn
  have hfan := hsup.fans f
  have hstanding := hfan.standing
  subst hcount
  refine ⟨fun h => hstanding.trans (supervised_judged h), fun hp h => ?_, fun hp => ?_, fun h hfail p => ?_, hsup.number,
    hsup.fault, hsup.stays⟩
  · have hun := supervised_unjudged hp h
    rw [hun] at hfan
    obtain ⟨h1, h2, h3⟩ : _ ∧ _ ∧ _ := by
      have hs := hfan.standing
      exact ⟨congrArg (·.1) hs, congrArg (·.2.1) hs, congrArg (·.2.2) hs⟩
    exact ⟨h1, h2, h3, fun hd => hfan.grace hd⟩
  · rw [supervised_absent hp] at hfan
    exact hfan.absent hp
  · have hbefore : (s.cool.fans.get f).supervised.state = .failed := (congrArg (·.1) hstanding).symm.trans hfail
    have hon : Onward (fansJudged s) t := ht ▸ failedSetEffects_onward s.cool.fans (fansJudged s)
    exact hon.flags p _ (fansJudged_told h hbefore p)

end Sys2Proof.Machine
end

section
/-! PROOFS. The focus tracker at a T2 tick (R168 to R170). -/

namespace Sys2Proof.Machine

/-! ### Arithmetic -/

theorem roundedAway_eq (n : Int) (d : Nat) : roundHalfAway n d = roundedAway n d := by
  unfold roundHalfAway roundedAway
  by_cases h : n < 0
  · rw [if_pos h, if_neg (Int.not_le.mpr h)]
  · rw [if_neg h, if_pos (Int.not_lt.mp h)]

/-- The gain at a position of ZM (R169). -/
theorem gainAt_ruled {g : Gains} {travel pos : Nat} {position gain : Int} (hp : (pos : Int) = clampInt 0 travel position)
    (h : GainRuled g travel pos gain) : gainAt g travel position = gain := by
  have hpos : (clampInt 0 travel position).toNat = pos := by
    rw [← hp]
    rfl
  have hle : pos ≤ travel := by
    have : clampInt 0 travel position ≤ travel := by
      unfold clampInt
      split
      · omega
      · split <;> omega
    omega
  rw [gainAt, hpos]
  by_cases h4 : travel ≤ pos
  · rw [if_pos h4, h.top (Nat.le_antisymm hle h4)]
  rw [if_neg h4]
  have hq1 : gainPosition travel 1 = travel / 4 := by rw [gainPosition, Nat.one_mul]
  rw [hq1]
  by_cases h1 : pos < travel / 4
  · rw [if_pos h1, h.first h1, gainBetween, hq1]
    simp [gainPosition, Gains.get, floorDiv]
  rw [if_neg h1]
  by_cases h2 : pos < 2 * travel / 4
  · rw [h.second (Nat.not_lt.mp h1) h2]
    refine (if_pos h2).trans ?_
    rw [gainBetween, hq1]
    rfl
  refine (if_neg h2).trans ?_
  by_cases h3 : pos < 3 * travel / 4
  · rw [h.third (Nat.not_lt.mp h2) h3]
    exact if_pos h3
  · rw [h.fourth (Nat.not_lt.mp h3) (Nat.not_le.mp h4)]
    refine (if_neg h3).trans ?_
    have hq4 : gainPosition travel 4 = travel := by
      rw [gainPosition]
      omega
    rw [gainBetween, hq4]
    rfl

/-! ### The conditions -/

theorem trackingRuns_iff (s : State) : trackingRuns s = true ↔ Tracks s := by
  simp [trackingRuns, Tracks, lensUsable, and_assoc]

theorem Tracks.lens {s : State} (h : Tracks s) : tLensUsable s.track = s.track.tLens := by
  obtain ⟨_, _, _, hl⟩ := h
  exact if_pos (by rcases hl with h | h <;> simp [lensUsable, h])

theorem trackTick_idle {s : State} (h : ¬Tracks s) (hr : (s.chan .fc).referenced = true) :
    trackTick s = s.withTrack { s.track with active := false } := by
  have hoff : trackingRuns s = false := by rw [← Bool.not_eq_true, trackingRuns_iff]; exact h
  simp only [trackTick, hoff, hr]
  rfl

theorem trackTick_unreferenced {s : State} (h : ¬Tracks s) (hr : (s.chan .fc).referenced = false) :
    trackTick s = s.withTrack { s.track with active := false, base := none, applied := 0, tRef := none } := by
  have hoff : trackingRuns s = false := by rw [← Bool.not_eq_true, trackingRuns_iff]; exact h
  simp only [trackTick, hoff, hr]
  rfl

theorem trackTick_takesUp {s : State} (h : Tracks s) (hn : s.track.tRef = none) :
    trackTick s =
      s.withTrack
        { s.track with active := true, base := some (s.chan .fc).position, applied := 0, tRef := s.track.tLens } := by
  have hon : trackingRuns s = true := (trackingRuns_iff s).mpr h
  have hbase : fcBase s = some (s.chan .fc).position := if_pos h.2.1
  have htaken : takeUpReference (s.withTrack { s.track with active := true }) =
      s.withTrack { s.track with active := true, base := fcBase s, applied := 0, tRef := tLensUsable s.track } := rfl
  rw [hbase, h.lens] at htaken
  simp only [trackTick, hon, if_true]
  rw [hn]
  exact htaken

theorem trackTick_active {s : State} (h : Tracks s) {ref : Int} (hr : s.track.tRef = some ref) :
    trackTick s = trackActive ref (s.withTrack { s.track with active := true }) := by
  have hon : trackingRuns s = true := (trackingRuns_iff s).mpr h
  simp only [trackTick, hon, hr]
  rfl

/-! ### A correction -/

/-- The entry of a correction (R170). -/
abbrev correctionEntry (goal : Int) : Entry :=
  { axis := .fc, motion := .move goal, origin := .focusTrack, tag := none, shift := none, link := none, parkNo := none }

theorem placeCorrection_busy {s : State} (c : Int)
    (h : (s.chan .fc).state ≠ .idle ∨ (s.sched.entryOf .fc).isSome = true) :
    placeCorrection c s = s.withTrack { s.track with lastAction := .busy } := by
  rw [placeCorrection, if_pos]
  rcases h with h | h <;> simp [h]

section
variable {s : State} {c goal : Int} (hi : (s.chan .fc).state = .idle) (he : s.sched.entryOf .fc = none)
  (hg : goal = softClamp (s.chan .fc).settings ((s.chan .fc).position + c))
include hi he hg

theorem placeCorrection_limit (h : goal = (s.chan .fc).position) :
    placeCorrection c s = s.withTrack { s.track with lastAction := .limit } := by
  rw [placeCorrection, if_neg (by simp [hi, he])]
  exact if_pos (hg ▸ h)

/-- A correction joins the queue, before the grant pass (R170). -/
theorem placeCorrection_placed (h : goal ≠ (s.chan .fc).position)
    (hs : (s.chan .fc).settings.softMin ≤ (s.chan .fc).settings.softMax) :
    placeCorrection c s =
      grantPass
        ((s.withTrack { s.track with lastAction := .placed }).withSched (s.sched.append (correctionEntry goal))) := by
  have hclamped : softClamp (s.chan .fc).settings goal = goal := by
    rw [hg]
    exact softClamp_idem hs _
  have hjoins : JoinsTail (s.withTrack { s.track with lastAction := .placed }) .fc (.move goal) := by
    refine ⟨he, fun k => AxisState.noConfusion (hi.symm.trans k), fun k => h ?_⟩
    exact Motion.move.inj k.2
  have hplace : admission (correctionEntry goal) (s.withTrack { s.track with lastAction := .placed }) =
      ((s.withTrack { s.track with lastAction := .placed }).withSched (s.sched.append (correctionEntry goal)), .queued) := by
    have hmotion : placedMotion (s.withTrack { s.track with lastAction := .placed }) .fc (.move goal) = .move goal :=
      congrArg Motion.move hclamped
    rw [admission, hmotion]
    exact placeEntry_tail (en := correctionEntry goal) hjoins
  rw [placeCorrection, if_neg (by simp [hi, he])]
  refine (if_neg (hg ▸ h)).trans ?_
  rw [← hg]
  exact congrArg (fun x => grantPass x.1) hplace

end

/-- An entry alone in the queue is granted at once when a slot is FREE and the allowance has room (R37). -/
theorem grantPass_sole {s : State} {en : Entry} (hh : s.sched.held = []) (hq : s.sched.queue = [])
    (hf : s.sched.hasFree = true) (hc : s.sched.grantedCount < allowance s) (hi : (s.chan en.axis).state = .idle) :
    grantPass (s.withSched (s.sched.append en)) = grantEntry en (s.withSched (s.sched.append en)) := by
  have hqueue : (s.withSched (s.sched.append en)).sched.queue = [en] := by simp [Scheduler.append, hq]
  have hheld : (s.withSched (s.sched.append en)).sched.held = [] := hh
  have hfree : (s.withSched (s.sched.append en)).sched.hasFree = true := hf
  have hcount : (s.withSched (s.sched.append en)).sched.grantedCount < allowance (s.withSched (s.sched.append en)) := hc
  have hcand : isCandidate (s.withSched (s.sched.append en)) en = true := by simp [isCandidate, hi]
  rw [grantPass, hheld, hqueue]
  show grantPassN 1 _ = _
  rw [grantPassN, hfree, decide_eq_true hcount]
  simp only [hheld, hqueue, List.find?_cons, hcand]
  rfl

/-- What a correction granted at once leaves (R170). -/
theorem grantEntry_correction {s : State} {goal : Int} (h : goal ≠ (s.chan .fc).position)
    (hs : softClamp (s.chan .fc).settings goal = goal) {t : State} (ht : grantEntry (correctionEntry goal) s = t) :
    t.track = s.track ∧ (t.chan .fc).state = .moving ∧ (t.chan .fc).target = some goal ∧
      (t.chan .fc).lastOrigin = some .focusTrack ∧
      t.sched.records.get .fc =
        some
          { kind := .move, origin := .focusTrack, tag := none, shift := none, link := none, parkNo := none
            ran := true, startPos := (s.chan .fc).position } := by
  obtain ⟨d, hd, hstarts⟩ := startMove_starts (c := (s.chan .fc).from .focusTrack) (t := goal) hs h
  have hgrant : t = _ := ht.symm.trans (grantEntry_starts (en := correctionEntry goal) (m := .move goal) rfl hd)
  obtain ⟨hstate, htarget, -, -⟩ := hstarts.move goal rfl
  subst hgrant
  refine ⟨rfl, ?_, ?_, ?_, ?_⟩
  · rw [State.setChan_chan_same]
    exact hstate
  · rw [State.setChan_chan_same]
    exact htarget
  · rw [State.setChan_chan_same]
    exact hstarts.granted.lastOrigin
  · rw [State.setChan_sched]
    show ((Scheduler.takeSlot _ _).records).get .fc = _
    rw [takeSlot_records]
    rfl

/-- The tick of an ACTIVE tracker with a reference (R169, R170). -/
theorem trackActive_eq {s : State} {ref lens gain comp : Int} {pos : Nat} {u : Tracker} (hl : s.track.tLens = some lens)
    (hp : (pos : Int) = clampInt 0 (s.chan .zm).settings.travel (s.chan .zm).position)
    (hg : GainRuled s.track.gains (s.chan .zm).settings.travel pos gain)
    (hc : comp = clampInt (-(s.track.limit : Int)) s.track.limit (roundedAway (gain * (lens - ref)) 160))
    (hu : u =
      { s.track with active := true, comp := some comp, gainUsed := some gain, zmUsed := some (s.chan .zm).position }) :
    trackActive ref (s.withTrack { s.track with active := true }) =
      if (comp - s.track.applied).natAbs < s.track.deadband then s.withTrack { u with lastAction := .deadband }
      else placeCorrection (comp - s.track.applied) (s.withTrack u) := by
  have hgain : gainAt s.track.gains (s.chan .zm).settings.travel (s.chan .zm).position = gain := gainAt_ruled hp hg
  have hcomp : (s.withTrack { s.track with active := true }).track.compFor gain
      ((s.withTrack { s.track with active := true }).track.tLens.getD ref - ref) = comp := by
    show clampInt (-(s.track.limit : Int)) s.track.limit (roundHalfAway (gain * (s.track.tLens.getD ref - ref)) 160) = comp
    rw [hl, roundedAway_eq, hc]
    rfl
  have hgain' : gainAt (s.withTrack { s.track with active := true }).track.gains
      ((s.withTrack { s.track with active := true }).chan .zm).settings.travel
      ((s.withTrack { s.track with active := true }).chan .zm).position = gain := hgain
  rw [trackActive, hgain', hcomp, hu]
  rfl

/-- The tracker's tick, as O60 states it (R168 to R170). -/
theorem trackingTaken {s t : State} (ht : takeTick s .tracking = t) :
    (¬Tracks s →
      ((s.chan .fc).referenced = true → t = { s with track := { s.track with active := false } }) ∧
      ((s.chan .fc).referenced = false →
        t = { s with track := { s.track with active := false, base := none, applied := 0, tRef := none } })) ∧
    (Tracks s → s.track.tRef = none →
      t =
        { s with
          track :=
            { s.track with
              active := true, base := some (s.chan .fc).position, applied := 0, tRef := s.track.tLens } }) := by
  subst ht
  exact ⟨fun h => ⟨fun hr => trackTick_idle h hr, fun hr => trackTick_unreferenced h hr⟩,
    fun h hn => trackTick_takesUp h hn⟩

/-- The ending of an ACTIVE tick (R170). -/
theorem correctionTaken {s t : State} {ref lens gain comp goal : Int} {pos : Nat} {u : Tracker}
    (ht : takeTick s .tracking = t) (htracks : Tracks s) (hr : s.track.tRef = some ref) (hl : s.track.tLens = some lens)
    (hp : (pos : Int) = clampInt 0 (s.chan .zm).settings.travel (s.chan .zm).position)
    (hgain : GainRuled s.track.gains (s.chan .zm).settings.travel pos gain)
    (hc : comp = clampInt (-(s.track.limit : Int)) s.track.limit (roundedAway (gain * (lens - ref)) 160))
    (hg : goal = softClamp (s.chan .fc).settings ((s.chan .fc).position + (comp - s.track.applied)))
    (hu : u =
      { s.track with active := true, comp := some comp, gainUsed := some gain, zmUsed := some (s.chan .zm).position }) :
    ((comp - s.track.applied).natAbs < s.track.deadband →
      t = { s with track := { u with lastAction := .deadband } }) ∧
    (s.track.deadband ≤ (comp - s.track.applied).natAbs →
      ((s.chan .fc).state ≠ .idle ∨ (s.sched.entryOf .fc).isSome = true →
        t = { s with track := { u with lastAction := .busy } }) ∧
      ((s.chan .fc).state = .idle → s.sched.entryOf .fc = none →
        (goal = (s.chan .fc).position → t = { s with track := { u with lastAction := .limit } }) ∧
        (goal ≠ (s.chan .fc).position → (s.chan .fc).settings.softMin ≤ (s.chan .fc).settings.softMax →
          (NoGrant s →
            t =
              { s with
                track := { u with lastAction := .placed }
                sched := { s.sched with queue := s.sched.queue ++ [correctionEntry goal] } }) ∧
          (s.sched.held = [] → s.sched.queue = [] → s.sched.hasFree = true →
            s.sched.grantedCount < allowance s →
            t.track = { u with lastAction := .placed } ∧ (t.chan .fc).state = .moving ∧ (t.chan .fc).target = some goal ∧
            (t.chan .fc).lastOrigin = some .focusTrack ∧
            t.sched.records.get .fc =
              some
                { kind := .move, origin := .focusTrack, tag := none, shift := none, link := none, parkNo := none
                  ran := true, startPos := (s.chan .fc).position })))) := by
  have htick : t = _ := ht.symm.trans ((trackTick_active htracks hr).trans (trackActive_eq hl hp hgain hc hu))
  refine ⟨fun h => htick.trans (if_pos h), fun h => ?_⟩
  rw [if_neg (Nat.not_lt.mpr h)] at htick
  refine ⟨fun hbusy => htick.trans (placeCorrection_busy (s := s.withTrack u) _ hbusy), fun hi he => ⟨fun hgoal => ?_, fun hgoal hs => ?_⟩⟩
  · exact htick.trans (placeCorrection_limit (s := s.withTrack u) hi he hg hgoal)
  · have hplaced := htick.trans (placeCorrection_placed (s := s.withTrack u) hi he hg hgoal hs)
    refine ⟨fun hn => ?_, fun hheld hq hf hroom => ?_⟩
    · rw [grantPass_none] at hplaced
      · exact hplaced
      · exact hn.of_eq rfl rfl rfl rfl
    · have hsole := hplaced.trans
        (grantPass_sole (s := (s.withTrack u).withTrack { u with lastAction := .placed }) (en := correctionEntry goal) hheld
          hq hf hroom hi)
      refine grantEntry_correction
        (s := ((s.withTrack u).withTrack { u with lastAction := .placed }).withSched
          (s.sched.append (correctionEntry goal))) hgoal ?_ hsole.symm
      show softClamp (s.chan .fc).settings goal = goal
      rw [hg]
      exact softClamp_idem hs _

end Sys2Proof.Machine
end

section
/-! PROOFS. What the takers of a tick leave of the divider, the zones and the channel records (R109, R110). -/

namespace Sys2Proof.Machine

/-- The divider, the zones and the channel records stand. -/
structure TickKept (s t : State) : Prop where
  divider : t.divider = s.divider
  zones : t.cool.zones = s.cool.zones
  chans : t.meas.chans = s.meas.chans

theorem TickKept.refl (s : State) : TickKept s s := ⟨rfl, rfl, rfl⟩

theorem TickKept.trans {s t u : State} (h : TickKept s t) (k : TickKept t u) : TickKept s u :=
  ⟨k.divider.trans h.divider, k.zones.trans h.zones, k.chans.trans h.chans⟩

theorem TickKept.after {s t u : State} (k : TickKept t u) (h : TickKept s t) : TickKept s u := h.trans k

theorem TickKept.foldl {α : Type} {f : State → α → State} (hf : ∀ s x, TickKept s (f s x)) (l : List α) (s : State) :
    TickKept s (l.foldl f s) := by
  induction l generalizing s with
  | nil => exact .refl s
  | cons x l ih => exact (hf s x).trans (ih _)

theorem MotionFrame.tick {s t : State} (h : MotionFrame s t) : TickKept s t :=
  ⟨h.divider, by rw [h.cool], by rw [h.meas]⟩

theorem withPhase_tick (x : PhaseRec) (s : State) : TickKept s (s.withPhase x) := ⟨rfl, rfl, rfl⟩

theorem withTrack_tick (x : Tracker) (s : State) : TickKept s (s.withTrack x) := ⟨rfl, rfl, rfl⟩

theorem raiseBoth_tick (e : Event) (s : State) : TickKept s (raiseBoth e s) := ⟨rfl, rfl, rfl⟩

theorem coolRefresh_tick (s : State) : TickKept s (coolRefresh s) := by
  refine ⟨?_, coolRefresh_zones s, by rw [coolRefresh_meas]⟩
  obtain ⟨p, q, h⟩ := coolRefresh_writes s
  rw [h]
  rfl

/-! ### Phases -/

theorem phaseRefreshed_tick (p : Phase) (why : Reason) (ramp : Option Nat) (s : State) :
    TickKept s (phaseRefreshed p why ramp s) :=
  (coolRefresh_tick _).after ((raiseBoth_tick .phase _).after (⟨rfl, rfl, rfl⟩ : TickKept s (phaseWritten p why ramp s)))

theorem setPhase_tick (p : Phase) (why : Reason) (ramp : Option Nat) (s : State) : TickKept s (setPhase p why ramp s) :=
  (phaseRefreshed_tick p why ramp s).trans (setPhase_axis p why ramp s).frame.tick

theorem startPark_tick (s : State) : TickKept s (startPark s) := by
  obtain ⟨v, h, k⟩ := startPark_frames s
  exact ((withPhase_tick _ s).trans h.tick).trans ((withPhase_tick _ v).trans k.tick)

theorem endPark_tick (s : State) : TickKept s (endPark s) := by
  unfold endPark
  split
  · exact withPhase_tick _ s
  · exact .refl s

theorem enterCooldown_tick (why : Reason) (s : State) : TickKept s (enterCooldown why s) := by
  have hset : TickKept s (setPhase .cooldown why none (s.withPhase { s.phase with coolTimer := 0, restrike := false })) :=
    (setPhase_tick _ _ _ _).after (withPhase_tick _ s)
  unfold enterCooldown
  dsimp only
  split
  · exact hset.trans (startPark_tick _)
  · exact hset

theorem enterFault_tick (why : Reason) (s : State) : TickKept s (enterFault why s) := by
  unfold enterFault
  split
  · exact .refl s
  · exact (setPhase_tick _ _ _ _).after ((endPark_tick _).after (withPhase_tick _ s))

theorem enterWarmup_tick (s : State) : TickKept s (enterWarmup s) := by
  rw [enterWarmup]
  exact (setPhase_tick _ _ _ _).after (withPhase_tick _ s)

theorem restrikeNow_tick (s : State) : TickKept s (restrikeNow s) := by
  rw [restrikeNow]
  refine (enterWarmup_tick _).after ((endParkForWarmup_frame _).tick.after ?_)
  exact (endPark_tick _).after (withPhase_tick _ s)

theorem coolTimers_tick (s : State) : TickKept s (coolTimers s) := by
  obtain ⟨n, k, p, h⟩ := coolTimers_writes s
  rw [h]
  exact withPhase_tick _ s

theorem coolDownTick_tick (s : State) : TickKept s (coolDownTick s) := by
  refine (coolTimers_tick s).trans ?_
  rcases coolDownTick_cases s with ⟨-, -, h⟩ | ⟨-, ⟨-, -, h⟩ | ⟨-, h⟩ | h⟩
  · rw [h]
    exact restrikeNow_tick _
  · rw [h]
    exact setPhase_tick _ _ _ _
  · rw [h]
    exact enterFault_tick _ _
  · rw [h]
    exact .refl _

theorem warmupTick_tick (s : State) : TickKept s (warmupTick s) := by
  unfold warmupTick rampRiseStep
  dsimp only
  split
  · split
    · exact (setPhase_tick _ _ _ _).after (withPhase_tick _ s)
    · exact (coolRefresh_tick _).after (withPhase_tick _ s)
  · exact withPhase_tick _ s

theorem phaseTick_tick (s : State) : TickKept s (phaseTick s) := by
  unfold phaseTick
  split
  · exact warmupTick_tick s
  · exact coolDownTick_tick s
  all_goals exact .refl s

/-! ### Supervision and tracking -/

theorem failedSetEffects_tick (old : PerFan FanRec) (s : State) : TickKept s (failedSetEffects old s) := by
  have hcount : TickKept s (s.withPhase { s.phase with failedFans := failedCount s.cool }) := withPhase_tick _ s
  unfold failedSetEffects failedHanded
  dsimp only
  split
  · split
    · exact (hcount.trans (enterFault_tick _ _)).trans (coolRefresh_tick _)
    · exact hcount.trans (coolRefresh_tick _)
  · exact .refl s

theorem fansJudged_tick (s : State) : TickKept s (fansJudged s) := by
  unfold fansJudged
  dsimp only
  split
  · exact (raiseBoth_tick _ _).after ⟨rfl, rfl, rfl⟩
  · exact ⟨rfl, rfl, rfl⟩

theorem superviseFans_tick (s : State) : TickKept s (superviseFans s) := by
  rw [superviseFans_eq]
  exact (fansJudged_tick s).trans (failedSetEffects_tick _ _)

theorem placeCorrection_tick (c : Int) (s : State) : TickKept s (placeCorrection c s) := by
  unfold placeCorrection
  dsimp only
  split
  · exact withTrack_tick _ s
  · split
    · exact withTrack_tick _ s
    · refine (grantPass_sched _).step.frame.tick.after ?_
      exact (admission_sched _ _).step.frame.tick.after (withTrack_tick _ s)

theorem trackTick_tick (s : State) : TickKept s (trackTick s) := by
  unfold trackTick trackActive
  dsimp only
  split
  · split
    · split
      · exact ⟨rfl, rfl, rfl⟩
      · exact (placeCorrection_tick _ _).after ⟨rfl, rfl, rfl⟩
    · exact ⟨rfl, rfl, rfl⟩
  · split
    · exact withTrack_tick _ s
    · exact ⟨rfl, rfl, rfl⟩

theorem tachAndSlew_tick (s : State) : TickKept s (slewFans (tachTick s)) := ⟨rfl, rfl, rfl⟩

/-- Every taker but the zones and the failure ages leaves the divider, the zones and the channels (R110). -/
theorem takeTick_tick {k : Taker} (hz : k ≠ .zones) (hf : k ≠ .failureAges) (s : State) : TickKept s (takeTick s k) := by
  cases k with
  | holdTimers => exact (holdTicks_axis s).frame.tick
  | keepCounts => exact (keepTick_sched s).step.frame.tick
  | tachAndSlew => exact tachAndSlew_tick s
  | failureAges => exact absurd rfl hf
  | zones => exact absurd rfl hz
  | supervision => exact superviseFans_tick s
  | phaseTimers => exact phaseTick_tick s
  | tracking => exact trackTick_tick s

/-! ### The evaluation of the zones -/

theorem criticalHanded_tick (s : State) : TickKept s (criticalHanded s) := by
  unfold criticalHanded
  split
  · exact enterCooldown_tick _ s
  · exact enterCooldown_tick _ s
  · exact withPhase_tick _ s
  all_goals exact .refl s

/-- The tick of the zones evaluates each (R128, R129). -/
theorem evaluateZones_tick (s : State) :
    TickKept (s.withCool { s.cool with zones := s.cool.zones.map ZoneRec.evaluated }) (evaluateZones s) := by
  have hcritical (old new : PerZone ZoneRec) (s : State) (z : Zone) : TickKept s (handCritical old new s z) := by
    unfold handCritical
    split
    · exact criticalHanded_tick s
    · exact .refl s
  have hpersisted (old new : PerZone ZoneRec) (s : State) (z : Zone) : TickKept s (handPersisted old new s z) := by
    unfold handPersisted
    split
    · exact enterFault_tick _ s
    · exact .refl s
  unfold evaluateZones
  dsimp only
  refine (coolRefresh_tick _).after ((TickKept.foldl (hpersisted _ _) allZones _).after
    ((TickKept.foldl (hcritical _ _) allZones _).after ?_))
  split
  · exact raiseBoth_tick _ _
  · exact .refl _

/-! ### The failure ages -/

theorem deliverReading_divider (ch : Chan) (r : Reading) (s : State) : (deliverReading ch r s).divider = s.divider := by
  have hcool : (coolReading ch r s).divider = s.divider := (coolRefresh_tick _).divider
  unfold deliverReading
  dsimp only
  split
  · exact ((setDieAllow_frame _ _).divider).trans hcool
  all_goals exact hcool

theorem ageChannel_divider (s : State) (ch : Chan) : (ageChannel s ch).divider = s.divider := by
  unfold ageChannel takeConverted
  dsimp only
  split
  · exact deliverReading_divider _ _ _
  · rfl

theorem takeTick_divider (s : State) (k : Taker) : (takeTick s k).divider = s.divider := by
  by_cases hz : k = .zones
  · subst hz
    exact (evaluateZones_tick s).divider
  · by_cases hf : k = .failureAges
    · subst hf
      have hfold (l : List Chan) (s : State) : (l.foldl ageChannel s).divider = s.divider := by
        induction l generalizing s with
        | nil => rfl
        | cons c l ih => exact (ih _).trans (ageChannel_divider s c)
      exact hfold allChans s
    · exact (takeTick_tick hz hf s).divider

theorem takeTicks_divider (l : List Taker) (s : State) : (l.foldl takeTick s).divider = s.divider := by
  induction l generalizing s with
  | nil => rfl
  | cons k l ih => exact (ih _).trans (takeTick_divider s k)

end Sys2Proof.Machine
end

section
/-! PROOFS. The advance of the divider: which ticks are due at a count and what they do together (R109, R110, log 4). -/

namespace Sys2Proof.Machine

/-! ### The takers due at a count -/

theorem mem_fullOrder (order : List Taker) (k : Taker) : k ∈ fullOrder order := by
  rw [fullOrder, List.mem_eraseDups, List.mem_append]
  exact .inr (by cases k <;> decide)

theorem mem_dueTakers {count : Byte} {order : List Taker} {k : Taker} :
    k ∈ dueTakers count order ↔ count.toNat % takerPeriod k = 0 := by
  rw [dueTakers, List.mem_filter, decide_eq_true_eq, and_iff_right (mem_fullOrder order k)]

theorem eraseDups_nodup (l : List Taker) : l.eraseDups.Nodup := by
  match l with
  | [] => exact List.nodup_nil
  | k :: l =>
    rw [List.eraseDups_cons, List.nodup_cons]
    refine ⟨?_, eraseDups_nodup _⟩
    rw [List.mem_eraseDups, List.mem_filter, beq_self_eq_true]
    exact fun h => nomatch h.2
termination_by l.length
decreasing_by exact Nat.lt_succ_of_le (List.length_filter_le _ _)

theorem dueTakers_nodup (count : Byte) (order : List Taker) : (dueTakers count order).Nodup :=
  (eraseDups_nodup _).filter _

theorem exec_dividerAdvance {s : State} (order : List Taker) (h : s.powered = true) :
    exec (.dividerAdvance order) s = .next (dividerAdvance order s) := event_taken h (dividerAdvance order)

theorem dividerAdvance_divider (order : List Taker) (s : State) : (dividerAdvance order s).divider = s.divider + 1 :=
  takeTicks_divider _ _

/-- Off a multiple of 8 no tick is due (R109). -/
theorem dueTakers_none {count : Byte} (h : count.toNat % 8 ≠ 0) (order : List Taker) : dueTakers count order = [] := by
  refine List.eq_nil_iff_forall_not_mem.mpr fun k hk => ?_
  rw [mem_dueTakers] at hk
  cases k <;> simp only [takerPeriod] at hk <;> omega

/-- At a multiple of 128 every tick is due (R109). -/
theorem dueTakers_all {count : Byte} (h : count.toNat % 128 = 0) (order : List Taker) :
    dueTakers count order = fullOrder order := by
  refine List.filter_eq_self.mpr fun k _ => decide_eq_true ?_
  cases k <;> simp only [takerPeriod] <;> omega

/-- At a T32 tick alone the hold timers and the keep counts are due (R109). -/
theorem dueTakers_t32 {count : Byte} (h : count.toNat % 32 ≠ 0) {order : List Taker} {k : Taker}
    (hk : k ∈ dueTakers count order) : k = .holdTimers ∨ k = .keepCounts := by
  rw [mem_dueTakers] at hk
  cases k with
  | holdTimers => exact .inl rfl
  | keepCounts => exact .inr rfl
  | _ => simp only [takerPeriod] at hk; omega

/-- At a T8 tick below a T2 tick the tach rings are due with them (R109). -/
theorem dueTakers_t8 {count : Byte} (h : count.toNat % 128 ≠ 0) {order : List Taker} {k : Taker}
    (hk : k ∈ dueTakers count order) : k = .holdTimers ∨ k = .keepCounts ∨ k = .tachAndSlew := by
  rw [mem_dueTakers] at hk
  cases k with
  | holdTimers => exact .inl rfl
  | keepCounts => exact .inr (.inl rfl)
  | tachAndSlew => exact .inr (.inr rfl)
  | _ => simp only [takerPeriod] at hk; omega

/-- A list without repetition, cut at one of its members. -/
theorem nodup_cut {l : List Taker} {k : Taker} (hd : l.Nodup) (hk : k ∈ l) :
    ∃ l1 l2, l = l1 ++ k :: l2 ∧ (l1 ++ l2).Nodup ∧ k ∉ l1 ∧ k ∉ l2 := by
  obtain ⟨l1, l2, rfl⟩ := List.append_of_mem hk
  obtain ⟨hd1, hcons, hapart⟩ := List.nodup_append.mp hd
  obtain ⟨hnot, hd2⟩ := List.nodup_cons.mp hcons
  exact ⟨l1, l2, rfl, List.nodup_append.mpr ⟨hd1, hd2, fun a ha b hb => hapart a ha b (List.mem_cons_of_mem k hb)⟩,
    fun hk1 => hapart k hk1 k List.mem_cons_self rfl, hnot⟩

theorem foldl_cut (l1 l2 : List Taker) (k : Taker) (s : State) :
    (l1 ++ k :: l2).foldl takeTick s = l2.foldl takeTick (takeTick (l1.foldl takeTick s) k) := by
  rw [List.foldl_append, List.foldl_cons]

/-! ### The T32 tick -/

theorem holdTick_eq (c : Channel) : c.holdTick = heldDown c := by
  unfold Channel.holdTick heldDown
  by_cases hm : inMotion c.state = true
  · rw [if_pos hm, if_pos (.inl hm)]
  · rw [if_neg hm]
    rcases Nat.lt_trichotomy c.holdTimer 1 with h | h | h
    · rw [if_neg (by omega), if_neg (by omega), if_pos (.inr (by omega))]
    · rw [if_neg (by omega), if_pos h, if_neg (by rw [h]; simpa using hm), if_pos h]
      rfl
    · rw [if_pos h, if_neg (by simpa [hm] using (by omega : c.holdTimer ≠ 0)), if_neg (by omega)]

theorem holdTicks_heldDown (s : State) :
    holdTicks s =
      s.withAxes ⟨heldDown s.axes.sh, heldDown s.axes.sv, heldDown s.axes.zm, heldDown s.axes.fc⟩ := by
  simp only [holdTicks, holdTick_eq]

theorem foldl_fixed {α β : Type} {f : α → β → α} {s : α} (h : ∀ x, f s x = s) (l : List β) : l.foldl f s = s := by
  induction l with
  | nil => rfl
  | cons x l ih => rw [List.foldl_cons, h x, ih]

/-- With no jog the keep counts have nothing to count (R43). -/
theorem keepTick_idle {s : State} (h : NoJog s) : keepTick s = s := by
  obtain ⟨hq, hj⟩ := h
  have hdown (a : Axis) : recordKeepDown a s = s := if_neg (hj a)
  have hqueued (a : Axis) : expireQueued 0 a s = s := by
    have hnone : s.sched.entryOf a = none := by
      rw [Scheduler.entryOf, hq]
      rfl
    rw [expireQueued, hnone]
  have hrunning (a : Axis) : expireRunning 0 a s = s := by
    refine if_neg ?_
    rw [recordExpires, decide_eq_false (hj a), Bool.false_and]
    decide
  have hmap : s.withSched { s.sched with queue := s.sched.queue.map entryKeepDown } = s := by
    rw [hq, List.map_nil, ← hq]
    rfl
  have h1 : allAxes.foldl (fun s a => recordKeepDown a s) s = s := foldl_fixed hdown allAxes
  have h2 : allAxes.foldl (fun s a => expireQueued 0 a s) s = s := foldl_fixed hqueued allAxes
  have h3 : allAxes.foldl (fun s a => expireRunning 0 a s) s = s := foldl_fixed hrunning allAxes
  rw [keepTick, hmap, h1, h2, h3]

theorem takeTick_keepCounts (s : State) : takeTick s .keepCounts = keepTick s := by rw [takeTick]

theorem keepTicks_idle {l : List Taker} (hl : ∀ k ∈ l, k = .keepCounts) {s : State} (h : NoJog s) :
    l.foldl takeTick s = s := by
  induction l with
  | nil => rfl
  | cons k l ih =>
    have hk : k = .keepCounts := hl k List.mem_cons_self
    subst hk
    rw [List.foldl_cons, takeTick_keepCounts, keepTick_idle h]
    exact ih fun j hj => hl j (List.mem_cons_of_mem _ hj)

theorem holdTicks_noJog {s : State} (h : NoJog s) : NoJog (holdTicks s) := by
  refine ⟨h.1, fun a => ?_⟩
  have hchan : (holdTicks s).chan a = (s.chan a).holdTick := by cases a <;> rfl
  rw [hchan, (holdTick_standing _).1]
  exact h.2 a

/-- The hold timers once and the keep counts, in any order, with no jog (R11, R43). -/
theorem t32Ticks {l : List Taker} (hd : l.Nodup) (hm : .holdTimers ∈ l)
    (hl : ∀ k ∈ l, k = .holdTimers ∨ k = .keepCounts) {s : State} (h : NoJog s) :
    l.foldl takeTick s = holdTicks s := by
  obtain ⟨l1, l2, rfl, -, h1, h2⟩ := nodup_cut hd hm
  have hkeep1 : ∀ k ∈ l1, k = .keepCounts := fun k hk =>
    (hl k (List.mem_append_left _ hk)).resolve_left fun he => h1 (he ▸ hk)
  have hkeep2 : ∀ k ∈ l2, k = .keepCounts := fun k hk =>
    (hl k (List.mem_append_right _ (List.mem_cons_of_mem _ hk))).resolve_left fun he => h2 (he ▸ hk)
  rw [foldl_cut, keepTicks_idle hkeep1 h]
  exact keepTicks_idle hkeep2 (holdTicks_noJog h)

/-! ### The T8 tick -/

/-- A fan after the tach ring and the slew of a T8 tick (R123, R136). -/
theorem tachAndSlew_fan (s : State) (f : Fan) :
    (slewFans (tachTick s)).cool.fans.get f =
      ((s.cool.fans.get f).takeRpm (s.meas.tach.get f).shift.rpm).slew := by cases f <;> rfl

theorem tachAndSlew_ring (s : State) (f : Fan) :
    (slewFans (tachTick s)).meas.tach.get f = (s.meas.tach.get f).shift := by cases f <;> rfl

theorem shift_eq {x : Tach} {buckets : List Nat} (h : buckets = x.buckets.drop 1 ++ [x.accumulator]) :
    x.shift = { accumulator := 0, buckets := buckets, rpm := 30 * buckets.sum } := by
  rw [h, Nat.mul_comm]
  rfl

/-- The slew writes the commanded duty and the grace alone (R136, R139). -/
theorem slew_present {f : FanRec} (h : f.present = true) :
    f.slew.reading = f.reading ∧ f.slew.target = f.target ∧
      f.slew.commanded = slewed f.commanded f.target f.minDuty := by
  rw [FanRec.slew, if_pos h, slewed]
  by_cases hup : f.commanded < f.target
  · rw [if_pos hup, if_pos hup]
    exact ⟨rfl, rfl, rfl⟩
  · by_cases hdown : f.target < f.commanded
    · rw [if_neg hup, if_pos hdown, if_neg hup, if_pos hdown]
      by_cases hstop : f.target < f.minDuty ∧ f.commanded - 2 < f.minDuty
      · rw [if_pos (by simpa using hstop), if_pos hstop]
        exact ⟨rfl, rfl, rfl⟩
      · rw [if_neg (by simpa using hstop), if_neg hstop]
        exact ⟨rfl, rfl, rfl⟩
    · rw [if_neg hup, if_neg hdown, if_neg hup, if_neg hdown]
      exact ⟨rfl, rfl, rfl⟩

theorem slew_absent {f : FanRec} (rpm : Nat) (h : f.present = false) : (f.takeRpm rpm).slew = f := by
  have hn : ¬ f.present = true := by rw [h]; decide
  rw [FanRec.takeRpm, if_neg hn, FanRec.slew, if_neg hn]

/-- The hold timers and the keep counts touch neither the fans nor the rings (R110). -/
theorem motionTicks_frame {l : List Taker} (hl : ∀ k ∈ l, k = .holdTimers ∨ k = .keepCounts) (s : State) :
    (l.foldl takeTick s).cool = s.cool ∧ (l.foldl takeTick s).meas = s.meas := by
  induction l generalizing s with
  | nil => exact ⟨rfl, rfl⟩
  | cons k l ih =>
    have hk : MotionFrame s (takeTick s k) := by
      rcases hl k List.mem_cons_self with rfl | rfl
      · exact (holdTicks_axis s).frame
      · exact (keepTick_sched s).step.frame
    obtain ⟨hcool, hmeas⟩ := ih (fun j hj => hl j (List.mem_cons_of_mem k hj)) (takeTick s k)
    exact ⟨hcool.trans hk.cool, hmeas.trans hk.meas⟩

/-- The T8 tick of the rings and the fans, once, among the T32 ticks (R110, log 4). -/
theorem t8Ticks {l : List Taker} (hd : l.Nodup) (hm : .tachAndSlew ∈ l)
    (hl : ∀ k ∈ l, k = .holdTimers ∨ k = .keepCounts ∨ k = .tachAndSlew) (s : State) (f : Fan) :
    (l.foldl takeTick s).meas.tach.get f = (s.meas.tach.get f).shift ∧
      (l.foldl takeTick s).cool.fans.get f = ((s.cool.fans.get f).takeRpm (s.meas.tach.get f).shift.rpm).slew := by
  obtain ⟨l1, l2, rfl, -, h1, h2⟩ := nodup_cut hd hm
  have hmotion {k : Taker} (hk : k ∈ l1 ++ .tachAndSlew :: l2) (hne : k ≠ .tachAndSlew) :
      k = .holdTimers ∨ k = .keepCounts := (hl k hk).imp_right fun h => h.resolve_right hne
  obtain ⟨hcool1, hmeas1⟩ := motionTicks_frame (l := l1)
    (fun k hk => hmotion (List.mem_append_left _ hk) fun he => h1 (he ▸ hk)) s
  obtain ⟨hcool2, hmeas2⟩ := motionTicks_frame (l := l2)
    (fun k hk => hmotion (List.mem_append_right _ (List.mem_cons_of_mem _ hk)) fun he => h2 (he ▸ hk))
    (takeTick (l1.foldl takeTick s) .tachAndSlew)
  rw [foldl_cut, hcool2, hmeas2]
  show (slewFans (tachTick _)).meas.tach.get f = _ ∧ (slewFans (tachTick _)).cool.fans.get f = _
  rw [tachAndSlew_ring, tachAndSlew_fan, hcool1, hmeas1]
  exact ⟨rfl, rfl⟩

/-! ### The T2 tick: the failure ages -/

/-- A channel record one T2 tick older, if it is FAILED and its age not yet 10 (R116). -/
def ChanRec.older (r : ChanRec) : ChanRec :=
  if r.failed = true ∧ r.failureAge < 10 then { r with failureAge := r.failureAge + 1 } else r

theorem ageTick_older {r : ChanRec} (h : r.failed = true → r.failureAge ≠ 9) :
    r.ageTick = { chan := r.older, reading := none } := by
  unfold ChanRec.ageTick ChanRec.older
  by_cases hdue : r.failed = true ∧ r.failureAge < 10
  · have hne := h hdue.1
    rw [if_pos (by simpa using hdue), if_pos hdue, if_neg (by show ¬ 10 ≤ r.failureAge + 1; omega)]
  · rw [if_neg (by simpa using hdue), if_neg hdue]

theorem ageChannel_older {s : State} {ch : Chan}
    (h : (s.meas.chans.get ch).failed = true → (s.meas.chans.get ch).failureAge ≠ 9) :
    ageChannel s ch = s.withMeas { s.meas with chans := s.meas.chans.set ch (s.meas.chans.get ch).older } := by
  rw [ageChannel, ageTick_older h]
  rfl

/-- Channels none of which reaches its tenth tick age without a reading (R116). -/
theorem ageChannels_fold {l : List Chan} (hd : l.Nodup) {s : State}
    (h : ∀ ch ∈ l, (s.meas.chans.get ch).failed = true → (s.meas.chans.get ch).failureAge ≠ 9) :
    (l.foldl ageChannel s).cool = s.cool ∧
      ∀ ch, (l.foldl ageChannel s).meas.chans.get ch =
        if ch ∈ l then (s.meas.chans.get ch).older else s.meas.chans.get ch := by
  induction l generalizing s with
  | nil => exact ⟨rfl, fun _ => rfl⟩
  | cons c l ih =>
    obtain ⟨hnot, hl⟩ := List.nodup_cons.mp hd
    have hfirst := ageChannel_older (h c List.mem_cons_self)
    have hchan (ch : Chan) : (ageChannel s c).meas.chans.get ch =
        if ch = c then (s.meas.chans.get c).older else s.meas.chans.get ch := by
      rw [hfirst]
      exact PerChan.get_set _ _ _ _
    have hstands {ch : Chan} (hm : ch ∈ l) : (ageChannel s c).meas.chans.get ch = s.meas.chans.get ch :=
      (hchan ch).trans (if_neg fun e : ch = c => hnot (e ▸ hm))
    obtain ⟨hcool, hchans⟩ := ih hl (s := ageChannel s c) fun ch hm => by
      rw [hstands hm]
      exact h ch (List.mem_cons_of_mem c hm)
    refine ⟨hcool.trans (by rw [hfirst]; rfl), fun ch => (hchans ch).trans ?_⟩
    by_cases hm : ch ∈ l
    · rw [if_pos hm, if_pos (List.mem_cons_of_mem c hm), hstands hm]
    · rw [if_neg hm, hchan]
      by_cases he : ch = c
      · rw [if_pos he, if_pos (he ▸ List.mem_cons_self), he]
      · rw [if_neg he, if_neg (by rw [List.mem_cons, not_or]; exact ⟨he, hm⟩)]

theorem ageChannels_older {s : State}
    (h : ∀ ch, (s.meas.chans.get ch).failed = true → (s.meas.chans.get ch).failureAge ≠ 9) :
    (ageChannels s).cool = s.cool ∧ ∀ ch, (ageChannels s).meas.chans.get ch = (s.meas.chans.get ch).older := by
  obtain ⟨hcool, hchans⟩ := ageChannels_fold (l := allChans) (by decide) fun ch _ => h ch
  exact ⟨hcool, fun ch => (hchans ch).trans (if_pos (by cases ch <;> decide))⟩

/-! ### The T2 tick: the zones -/

theorem otherTicks_kept {l : List Taker} (hz : .zones ∉ l) (hf : .failureAges ∉ l) (s : State) :
    TickKept s (l.foldl takeTick s) := by
  induction l generalizing s with
  | nil => exact .refl s
  | cons k l ih =>
    rw [List.mem_cons, not_or] at hz hf
    exact (takeTick_tick (Ne.symm hz.1) (Ne.symm hf.1) s).trans (ih hz.2 hf.2 _)

/-- Takers without the failure ages keep the channels, and evaluate the zones once if the zones are among them (R110). -/
theorem zoneTicks_zones {l : List Taker} (hd : l.Nodup) (hf : .failureAges ∉ l) (s : State) :
    (l.foldl takeTick s).meas.chans = s.meas.chans ∧
      (l.foldl takeTick s).cool.zones =
        if .zones ∈ l then s.cool.zones.map ZoneRec.evaluated else s.cool.zones := by
  by_cases hz : .zones ∈ l
  · obtain ⟨l1, l2, rfl, -, h1, h2⟩ := nodup_cut hd hz
    rw [List.mem_append, List.mem_cons, not_or, not_or] at hf
    have hbefore := otherTicks_kept h1 hf.1 s
    have hafter := otherTicks_kept h2 hf.2.2 (takeTick (l1.foldl takeTick s) .zones)
    have heval := (evaluateZones_tick (l1.foldl takeTick s)).trans hafter
    rw [if_pos hz, foldl_cut]
    refine ⟨heval.chans.trans hbefore.chans, heval.zones.trans ?_⟩
    rw [← hbefore.zones]
    rfl
  · have hkept := otherTicks_kept hz hf s
    rw [if_neg hz]
    exact ⟨hkept.chans, hkept.zones⟩

/-- Every taker once, in any order, with no channel at its tenth tick: the zones are evaluated once and the channels age
once (R110, log 4). -/
theorem t2Ticks {l : List Taker} (hd : l.Nodup) (hall : ∀ k, k ∈ l) {s : State}
    (h : ∀ ch, (s.meas.chans.get ch).failed = true → (s.meas.chans.get ch).failureAge ≠ 9) :
    (l.foldl takeTick s).cool.zones = s.cool.zones.map ZoneRec.evaluated ∧
      ∀ ch, (l.foldl takeTick s).meas.chans.get ch = (s.meas.chans.get ch).older := by
  obtain ⟨l1, l2, rfl, hrest, h1, h2⟩ := nodup_cut hd (hall .failureAges)
  obtain ⟨hd1, hd2, hdisjoint⟩ := List.nodup_append.mp hrest
  obtain ⟨hchans1, hzones1⟩ := zoneTicks_zones hd1 h1 s
  obtain ⟨hcool, haged⟩ := ageChannels_older (s := l1.foldl takeTick s) (by rw [hchans1]; exact h)
  obtain ⟨hchans2, hzones2⟩ := zoneTicks_zones hd2 h2 (ageChannels (l1.foldl takeTick s))
  have hz : .zones ∈ l1 ∨ .zones ∈ l2 := by
    have hmem := hall .zones
    rw [List.mem_append, List.mem_cons] at hmem
    exact hmem.imp_right fun k => k.resolve_left nofun
  rw [foldl_cut]
  show (l2.foldl takeTick (ageChannels _)).cool.zones = _ ∧ ∀ ch, (l2.foldl takeTick (ageChannels _)).meas.chans.get ch = _
  refine ⟨?_, fun ch => ?_⟩
  · rw [hzones2, hcool, hzones1]
    rcases hz with hz | hz
    · rw [if_neg fun hz2 => hdisjoint _ hz _ hz2 rfl, if_pos hz]
    · rw [if_pos hz, if_neg fun hz1 => hdisjoint _ hz1 _ hz rfl]
  · rw [hchans2, haged, hchans1]

/-- The state of a zone after an evaluation, by the table of R128. -/
theorem nextState_zoneAfter (z : ZoneRec) (v : Int) : z.nextState v = zoneAfter z v := by
  unfold ZoneRec.nextState zoneAfter riseLevel ZoneRec.floorOf
  by_cases hc : z.crit ≤ v
  · simp only [if_pos hc]
    cases hs : z.state with
    | critical => simp [zoneRank, Config.hysteresis]
    | _ => simp [zoneRank]
  · simp only [if_neg hc]
    by_cases hh : z.hot ≤ v
    · simp only [if_pos hh]
      cases hs : z.state <;> simp [zoneRank, Config.hysteresis]
    · simp only [if_neg hh]
      by_cases hw : z.warm ≤ v
      · simp only [if_pos hw]
        cases hs : z.state <;> simp [zoneRank, Config.hysteresis]
      · simp only [if_neg hw]
        cases hs : z.state <;> simp [zoneRank, Config.hysteresis]

/-- The record of a zone after an evaluation (R128, R129). -/
theorem evaluated_ruled (z : ZoneRec) :
    z.evaluated.temperature = z.temperature ∧
      ∀ next, next = (match z.temperature with | some v => zoneAfter z v | none => z.state) →
        z.evaluated.state = next ∧
        (z.state = .critical → z.temperature.isSome = true →
          z.evaluated.age = if next = .critical then min (z.age + 1) 60 else 0) ∧
        (z.state ≠ .critical → next = .critical → z.evaluated.age = 0) ∧
        (z.temperature = none → z.evaluated.age = z.age) := by
  cases ht : z.temperature with
  | none =>
    have heval : z.evaluated = z := by rw [ZoneRec.evaluated, ht]
    rw [heval]
    exact ⟨ht, fun next hn => ⟨hn.symm, fun _ => nofun, fun hs he => absurd (hn.symm.trans he) hs, fun _ => rfl⟩⟩
  | some v =>
    have heval : z.evaluated = { z with state := zoneAfter z v, age := z.nextAge (zoneAfter z v) } := by
      rw [← nextState_zoneAfter]
      unfold ZoneRec.evaluated
      simp only [ht]
    rw [heval]
    refine ⟨ht, fun next hn => ?_⟩
    dsimp only at hn ⊢
    rw [← hn]
    refine ⟨rfl, fun hs _ => ?_, fun hs hc => ?_, nofun⟩
    · rw [ZoneRec.nextAge, if_pos hs, if_pos hs]
    · rw [ZoneRec.nextAge, if_pos hc, if_neg hs]

end Sys2Proof.Machine
end

section
/-! PROOFS. The ends of the counts of the phase controller and the zones, and the divider, clause by clause of O60. -/

namespace Sys2Proof.Machine

/-! ### The divider -/

/-- With no jog, a T32 tick alone counts the hold timers down (R11, R109). -/
theorem dividerAdvance_t32 {s : State} (order : List Taker) (h : (s.divider + 1).toNat % 8 = 0)
    (hn : (s.divider + 1).toNat % 32 ≠ 0) (hj : NoJog s) :
    dividerAdvance order s = holdTicks (s.withDivider (s.divider + 1)) :=
  t32Ticks (dueTakers_nodup _ order) (mem_dueTakers.mpr h) (fun _ hk => dueTakers_t32 hn hk) hj

/-- A T8 tick below a T2 tick, fan by fan (R123, R136). -/
theorem dividerAdvance_t8 {s : State} (order : List Taker) (h : (s.divider + 1).toNat % 32 = 0)
    (hn : (s.divider + 1).toNat % 128 ≠ 0) (f : Fan) {buckets : List Nat}
    (hb : buckets = (s.meas.tach.get f).buckets.drop 1 ++ [(s.meas.tach.get f).accumulator]) :
    (dividerAdvance order s).meas.tach.get f = { accumulator := 0, buckets := buckets, rpm := 30 * buckets.sum } ∧
      ((s.cool.fans.get f).present = false → (dividerAdvance order s).cool.fans.get f = s.cool.fans.get f) ∧
      ((s.cool.fans.get f).present = true →
        ((dividerAdvance order s).cool.fans.get f).reading = 30 * buckets.sum ∧
        ((dividerAdvance order s).cool.fans.get f).target = (s.cool.fans.get f).target ∧
        ((dividerAdvance order s).cool.fans.get f).commanded =
          slewed (s.cool.fans.get f).commanded (s.cool.fans.get f).target (s.cool.fans.get f).minDuty) := by
  obtain ⟨hring, hfan⟩ := t8Ticks (dueTakers_nodup _ order) (mem_dueTakers.mpr h) (fun _ hk => dueTakers_t8 hn hk)
    (s.withDivider (s.divider + 1)) f
  have hshift : (s.meas.tach.get f).shift = { accumulator := 0, buckets := buckets, rpm := 30 * buckets.sum } := shift_eq hb
  have hfan' : (dividerAdvance order s).cool.fans.get f = ((s.cool.fans.get f).takeRpm (30 * buckets.sum)).slew := by
    refine hfan.trans ?_
    show ((s.cool.fans.get f).takeRpm (s.meas.tach.get f).shift.rpm).slew = _
    rw [hshift]
  refine ⟨hring.trans hshift, fun hp => hfan'.trans (slew_absent _ hp), fun hp => ?_⟩
  have htaken : (s.cool.fans.get f).takeRpm (30 * buckets.sum) = { s.cool.fans.get f with reading := 30 * buckets.sum } :=
    if_pos hp
  rw [hfan', htaken]
  exact slew_present (f := { s.cool.fans.get f with reading := 30 * buckets.sum }) hp

theorem dividerAdvance_t2 {s : State} (order : List Taker) (h : (s.divider + 1).toNat % 128 = 0) :
    dividerAdvance order s = (fullOrder order).foldl takeTick (s.withDivider (s.divider + 1)) := by
  rw [dividerAdvance, dueTakers_all h]

/-- A T2 tick with no channel at its tenth: the zones evaluated and the channels aged, each once (R116, R128, R129). -/
theorem dividerAdvance_zones {s : State} (order : List Taker) (h : (s.divider + 1).toNat % 128 = 0)
    (hage : ∀ ch, (s.meas.chans.get ch).failed = true → (s.meas.chans.get ch).failureAge ≠ 9) :
    (∀ z, (dividerAdvance order s).cool.zones.get z = (s.cool.zones.get z).evaluated) ∧
      ∀ ch, (dividerAdvance order s).meas.chans.get ch = (s.meas.chans.get ch).older := by
  obtain ⟨hzones, hchans⟩ :=
    t2Ticks (eraseDups_nodup _) (mem_fullOrder order) (s := s.withDivider (s.divider + 1)) hage
  rw [dividerAdvance_t2 order h]
  exact ⟨fun z => (congrArg (·.get z) hzones).trans (PerZone.get_map _ _ z), hchans⟩

/-! ### The phase controller and the zones -/

/-- The fourth tick of the warm-up ramp below 90 (R152). -/
theorem rampStep_rises {s : State} {l : Nat} (hp : s.phase.phase = .warmup) (hc : s.phase.rampCount = 3)
    (hl : s.phase.rampLevel = some l) (h : l < 90) :
    CoolSettled s.cool { s with phase := { s.phase with rampCount := 0, rampLevel := some (l + 10) } } (rampStepDue s) := by
  rw [rampStepDue_taken hp hc, rampRiseStep_below hl h]
  exact coolRefresh_coolSettled (c := s.cool)
    (s := s.withPhase { s.phase with rampCount := 0, rampLevel := some (l + 10) }) rfl

/-- The fourth tick of the warm-up ramp at 90 enters LIT (R152, R168). -/
theorem rampStep_lit {s : State} (hp : s.phase.phase = .warmup) (hc : s.phase.rampCount = 3)
    (hl : s.phase.rampLevel = some 90) (hr : s.phase.restrike = false) (hg : GrantsWithin s) :
    Entered .lit .noReason (rampStepDue s) ∧ (rampStepDue s).phase.rampLevel = none ∧
      (rampStepDue s).phase.lightPermit = true ∧ (rampStepDue s).axes = s.axes ∧ (rampStepDue s).sched = s.sched ∧
      (rampStepDue s).track =
        { s.track with
          base := if (s.chan .fc).referenced then some (s.chan .fc).position else none, applied := 0
          tRef := if s.track.lensStatus = .live ∨ s.track.lensStatus = .held then s.track.tLens else none } := by
  rw [rampStepDue_taken hp hc, rampRiseStep_top hl]
  exact setPhase_lit (s := s.withPhase { s.phase with rampCount := 0, rampLevel := some 100 }) rfl hp hr hg

/-- The evaluation that brings a CRITICAL age to 60 puts the part in FAULT (R129, R159). -/
theorem criticalPersisted_ruled {s : State} {z : Zone} {v : Int} (hs : (s.cool.zones.get z).state = .critical)
    (ha : (s.cool.zones.get z).age = 59) (ht : (s.cool.zones.get z).temperature = some v)
    (hv : (s.cool.zones.get z).crit - 30 ≤ v) :
    (criticalPersisted z s).cool.zones = s.cool.zones.set z { s.cool.zones.get z with age := 60 } ∧
      (s.phase.phase ≠ .fault →
        Entered .fault .critical (criticalPersisted z s) ∧ (criticalPersisted z s).phase.park ≠ .running) := by
  rw [criticalPersisted_fault hs ha ht hv]
  refine ⟨enterFault_zones _ _, fun hp => ?_⟩
  obtain ⟨hent, hpark, -⟩ := enterFault_entered (why := .critical)
    (s := s.withCool { s.cool with zones := s.cool.zones.set z { s.cool.zones.get z with age := 60 } }) hp
  exact ⟨hent, hpark⟩

/-- Settles O60: the ends of the counts, then supervision and tracking as the T2 tick takes them, then the divider by the
largest period its count is a multiple of. -/
theorem timersRun : Obligations.TimersRun := by
  refine ⟨fun s hp => ⟨fun h => ?_, fun h1 h2 h3 h4 => ?_, fun h1 h2 h3 h4 h5 h6 => ?_, fun l h1 h2 h3 h4 => ?_,
      fun h1 h2 h3 h4 h5 => ?_, fun z => ⟨fun v h1 h2 h3 h4 => ?_, fun h => ?_⟩⟩,
    fun s t f n ht hcount hn => supervisionTaken f ht hcount hn,
    fun s t ht => ⟨(trackingTaken ht).1, (trackingTaken ht).2, fun ref lens gain comp goal pos u h1 h2 h3 h4 h5 h6 h7 h8 =>
      correctionTaken ht h1 h2 h3 h4 h5 h6 h7 h8⟩,
    fun s order count hp hcount => ?_⟩
  · rw [exec_cooldownTimeout hp, cooldownTimeout_ignored h]
  · exact ⟨_, exec_cooldownTimeout hp, cooldownTimeout_fault h1 h2 h3 h4⟩
  · exact (exec_parkTimeout hp).trans (congrArg _ (parkTimeout_incomplete h1 h2 h3 h4 h5 h6))
  · exact ⟨_, exec_rampStep hp, rampStep_rises h1 h2 h3 h4⟩
  · exact ⟨_, exec_rampStep hp, rampStep_lit h1 h2 h3 h4 h5⟩
  · exact ⟨_, exec_criticalPersisted z hp, criticalPersisted_ruled h1 h2 h3 h4⟩
  · rw [exec_criticalPersisted z hp, criticalPersisted_ignored h]
  · subst hcount
    have hexec := exec_dividerAdvance order hp
    refine ⟨⟨_, hexec, dividerAdvance_divider order s⟩, fun h => hexec.trans (congrArg _ ?_),
      fun h8 h32 hj => hexec.trans (congrArg _ ?_),
      fun h32 h128 => ⟨_, hexec, fun f buckets hb => dividerAdvance_t8 order h32 h128 f hb⟩,
      fun h => hexec.trans (congrArg _ (dividerAdvance_t2 order h)), fun h hage => ⟨_, hexec, ?_⟩⟩
    · rw [dividerAdvance, dueTakers_none h]
      rfl
    · rw [dividerAdvance_t32 order h8 h32 hj, holdTicks_heldDown]
      rfl
    · obtain ⟨hzones, hchans⟩ := dividerAdvance_zones order h hage
      refine ⟨fun z => ?_, hchans⟩
      rw [hzones z]
      exact evaluated_ruled _

end Sys2Proof.Machine
end
